-- ==== Sys2Proof/Word.lean ====
section
/-!
DEFINITION. The word types of the module's buses: a register word (R5) and a byte of a memory window (R496).
-/
namespace Sys2Proof

/-- A register word: 32 bits, little-endian (R5). -/
abbrev Word := BitVec 32

/-- One byte of a memory window. -/
abbrev Byte := BitVec 8

/-- A word whose unsigned value is `n` modulo 2^32. -/
def w32 (n : Nat) : Word := BitVec.ofNat 32 n

/-- A byte whose unsigned value is `n` modulo 256. -/
def b8 (n : Nat) : Byte := BitVec.ofNat 8 n

end Sys2Proof
end

