-- ==== Sys2Proof/Syntax.lean ====
section
/-!
DEFINITION. The commands of the module, one constructor per row of spec/opcode_table.json: register commands of a
requester, frames and signals that arrive at a port or pin, instants of the module's own time base, and events inside
the module that the table makes steps of their own. Operands carry what the world outside the model decides (log
entry 1).
-/
namespace Sys2Proof

/-- Who makes an access: gouge core `n`, the host, or the live centre (R8, R310). -/
inductive Req
  | core (n : Fin 16)
  | host
  | live
  deriving DecidableEq, Repr

/-- What the ECC of the core memories finds in the words that an instruction or a window access reads (R309). -/
inductive Ecc
  | none
  | corrected (space : Fin 4)   -- 0 = P, 1 = X, 2 = Y, 3 = what an external read reaches
  | double (space : Fin 4)
  deriving DecidableEq, Repr

/-- What the ECC finds in the word that a read reaches in a memory window (R309, R316, R557). -/
inductive WinEcc
  | good
  | corrected
  | double
  deriving DecidableEq, Repr

/-- The bytes of a word that a read asks for (R5). -/
inductive Width
  | word
  | half (i : Fin 2)
  | byte (i : Fin 4)
  deriving DecidableEq, Repr

/-- A 32-bit word of BAR0, or from 64 MiB on of the SMW (BAR2), at byte offset 4 × `a`, the bytes of it that are read (R5)
and what ECC finds. -/
structure BarRead where
  a : BitVec 25
  k : Width
  e : WinEcc
  deriving DecidableEq, Repr

/-- A level or value at a pin, and for how long it has held, in the time unit of the command. -/
structure Held (α : Type) where
  v : α
  held : Nat
  deriving DecidableEq, Repr

/-- Of a flash read: codewords with 40 or more corrected bits, and the most corrected bits of a codeword (R485). -/
structure NandFix where
  corr : Nat
  bits : Nat
  deriving DecidableEq, Repr

/-- What ECC finds in a flash read: codewords that were uncorrectable, and what it corrected. -/
structure NandEcc where
  unc : Nat
  fix : NandFix
  deriving DecidableEq, Repr

/-- A refresh frame of a field group: the supply that the field side samples, in 10 mV, and whether the frame has an error. -/
structure FieldFrame where
  vf : BitVec 12
  err : Bool
  deriving DecidableEq, Repr

/-- Output `i` in current limit for `ns`, or in thermal shutdown (R475). -/
structure Overload where
  i : Fin 16
  ns : Nat
  thermal : Bool
  deriving DecidableEq, Repr

/-- Supply `k` of the safety inputs fails, by an overload or by its read-back (R339). -/
structure TpsFail where
  k : Fin 8
  overload : Bool
  deriving DecidableEq, Repr

/-- What a safety sample reads back: test pulse supplies, vote outputs, contactor drive switches; the heartbeats of the
centres (R332, R339, R349). -/
structure ReadBacks where
  tps : BitVec 8
  out : BitVec 16
  cd : BitVec 8
  hb : BitVec 2
  deriving DecidableEq, Repr

/-- An axis as STEADY_L3 shows it (R457): state (2 = RUN as in AX_STAT), region, the three integrators, p_ref. -/
structure SteadyAxis where
  st : Nat
  region : Nat
  iD : Int
  iQ : Int
  iV : Int
  p : Int
  deriving DecidableEq, Repr, Inhabited

/-- A portal as STEADY_L3 shows it (R397, R457): state, HOMED, learning counts, cycle number, both envelopes in mA. -/
structure SteadyPort where
  st : Nat
  homed : Bool
  learnO : Nat
  learnC : Nat
  cyc : Nat
  env : List Nat
  deriving DecidableEq, Repr, Inhabited

/-- A claim of STEADY_LEDGER (R457). -/
structure SteadyClaim where
  zone : Nat
  queue : Nat
  first : Nat
  count : Nat
  fb : Bool
  deriving DecidableEq, Repr, Inhabited

/-- What a frame of the steady link carries (R457): the spec gives the content and no byte layout. -/
inductive SteadyMsg
  | vote (mode : Nat) (active aligned : Bool) (stoA stoB drv : Nat)
  | l3 (hash : Nat) (axes : List SteadyAxis) (ports : List SteadyPort) (entries : List (Nat × List (BitVec 8)))
  | ledger (claims : List SteadyClaim)
  | time (departed : BitVec 32)
  | delayReq
  | delayResp (arrived departed : BitVec 32)
  deriving DecidableEq, Repr

/-- The commands (spec/opcode_table.json). -/
inductive Instr
  /-- REGISTER_WRITE (R6): A write to a register that has no row of its own, applied per its access code, enumeration and lock rules. At byte offset 4 × `a` of BAR0. -/
  | registerWrite (w : Req) (a : BitVec 24) (v : BitVec 32)
  /-- NARROW_REGISTER_WRITE (R5): An 8-bit or 16-bit write to register space is discarded and raises the register access error event. `a`: byte offset in BAR0. -/
  | narrowRegisterWrite (w : Req) (a : BitVec 26)
  /-- COUNTER_LOW_READ (R8): A read of the low word of a 64-bit counter latches its high word for that requester. -/
  | counterLowRead (w : Req) (r : BarRead)
  /-- UNMAPPED_ACCESS (R499): An access to a reserved BAR0 range, the shadow window or the slot view is ignored or returns 0 and is recorded as UNMAPPED. At byte offset 4 × `a` of BAR0. -/
  | unmappedAccess (w : Req) (a : BitVec 24) (write : Bool)
  /-- DOMAIN_OFF_ACCESS (R497): An access to a block whose domain is off or in reset gets an error response and is recorded. At byte offset 4 × `a` of BAR0. -/
  | domainOffAccess (w : Req) (a : BitVec 24) (write : Bool)
  /-- L3_BOUNDARY (R18): At each 1 ms DT boundary the evaluation results take hold, the measurement snapshot is taken and L3 work starts. `x`: the boundary's DT in ns. -/
  | l3Boundary (x : Nat)
  /-- L2_BOUNDARY (R18): At each 250 us boundary a Sertik cycle starts and the joint-side cross-checks run. -/
  | l2Boundary (x : Nat)
  /-- L1_BOUNDARY (R152): At each 50 us boundary lanes latch inputs, commit the previous L1 outputs and run the L1 updates. -/
  | l1Boundary (x : Nat)
  /-- L0_BOUNDARY (R83): At each reload ready shadow sets are copied to the active sets and a new carrier period starts. -/
  | l0Boundary (x : Nat)
  /-- CARRIER_MIDPOINT (R137): At each carrier midpoint every feedback channel latches POS_MID. -/
  | carrierMidpoint
  /-- BOUNDARY_GENERATOR_START (R437): The boundary generator starts at the first 1 ms DT instant after RUN = 1, setting CYC_RUN and BSEQ and L3_SEQ to 0. -/
  | boundaryGeneratorStart
  /-- IMAGE_LOAD (R39): IMG_CTRL.LOAD starts an image load in M1 or M3, entering M2. -/
  | imageLoad (w : Req) (v : BitVec 32)
  /-- IMAGE_LOAD_DONE (R41): The staged image ends its checks and is applied whole or refused, with a second slot attempt where R42 applies. `e`: what ECC finds in a flash source. -/
  | imageLoadDone (e : NandEcc)
  /-- PATCH_GO (R46): PATCH_CTRL.GO starts the checks of a patch record in a buffer. -/
  | patchGo (w : Req) (v : BitVec 32)
  /-- PATCH_CHECK_DONE (R47): The checks of a patch end and the patch becomes PENDING or is refused. -/
  | patchCheckDone
  /-- PATCH_APPLY (R47): A pending patch applies at the first L3 boundary 50 us or more after its checks. -/
  | patchApply
  /-- BURST_FREEZE (R49): All 144 holds freeze at a burst instant and conversion starts. the conversion codes of AIN[0..127], and of the multiplexed AIN[128..143]. -/
  | burstFreeze (raw muxed : List (BitVec 14))
  /-- BURST_RESULT (R52): The last freeze of a burst completes and result slots and result registers are written. -/
  | burstResult
  /-- CH_CFG_WRITE (R62): A write of a channel configuration, refused for assigned channels outside M3. -/
  | chCfgWrite (w : Req) (c : Fin 144) (v : BitVec 32)
  /-- CH_COEF_WRITE (R76): A write of channel coefficients in M3, clearing CAL_DEFAULT. -/
  | chCoefWrite (w : Req) (c : Fin 144) (v : BitVec 32)
  /-- REF_EN_SET (R64): Setting REF_EN starts the 2 ms reference settling interval. -/
  | refEnSet (w : Req)
  /-- REF_SETTLED (R64): The 2 ms settling interval ends, REF_SETTLED is set and the ADC status event is raised. -/
  | refSettled
  /-- REF_EN_CLEAR (R65): Clearing REF_EN invalidates results from the next freeze and clears REF_SETTLED. -/
  | refEnClear (w : Req)
  /-- ROT_EN_SET (R67): Setting ROT_EN starts converter rotation calibration. -/
  | rotEnSet (w : Req)
  /-- ROT_EN_CLEAR (R70): Clearing ROT_EN ends rotation at the end of the current step. -/
  | rotEnClear (w : Req)
  /-- ROTATION_STEP_END (R67): A converter completes its calibration conversions, takes new corrections or fails, and the next converter leaves. the measured corrections, in the units of CONV_CORR. -/
  | rotationStepEnd (ofs : Int) (gain : Int)
  /-- CONVERTER_CHECK_END (R71): A converter checked after a failure ends its check and a second failure sets ADC_FAULT. -/
  | converterCheckEnd (ofs : Int) (gain : Int)
  /-- SYSCAL_ZERO (R73): System calibration command ZERO for a channel range. `v`: the word written to SYSCAL_CTRL. -/
  | syscalZero (w : Req) (v : BitVec 32)
  /-- SYSCAL_FS (R73): System calibration command FS for a channel range. -/
  | syscalFs (w : Req) (v : BitVec 32)
  /-- SYSCAL_SAVE (R73): System calibration command SAVE writes the live coefficients as a flash record. -/
  | syscalSave (w : Req) (v : BitVec 32)
  /-- SYSCAL_ABORT (R74): System calibration command ABORT restores the coefficients in force before step 1. -/
  | syscalAbort (w : Req) (v : BitVec 32)
  /-- SYSCAL_STEP_END (R75): A calibration step ends after 4 096 L0 periods with its status and the calibration event. -/
  | syscalStepEnd
  /-- SYSCAL_SAVE_DONE (R73): The calibration record programme ends with SAVED or CAL_FLASH. -/
  | syscalSaveDone
  /-- COMPARATOR_CHANGE (R79): A window comparator output changes, setting CMP_LATCH and possibly raising the comparator event. `uv`: the voltage at the selected pins in µV; `n`: CTL clocks for which it has stood. -/
  | comparatorChange (c : Fin 144) (uv : Int) (n : Nat)
  /-- CAP_ARM (R80): CAP_CTRL.ARM arms an ADC capture, reserving a ledger token. `v`: the word written to CAP_CTRL. -/
  | capArm (w : Req) (v : BitVec 32)
  /-- CAP_STOP (R81): CAP_CTRL.STOP stops the ADC capture without a trigger. -/
  | capStop (w : Req) (v : BitVec 32)
  /-- CAP_TRIGGER (R81): The ADC capture trigger occurs and POST further records are counted. -/
  | capTrigger
  /-- CAP_DONE (R81): The ADC capture has written POST records after the trigger and stops. -/
  | capDone
  /-- GRP_COMMIT (R89): GRP_CMD.COMMIT marks the main shadow set ready. -/
  | grpCommit (w : Req) (g : Fin 72)
  /-- GRP_SPARE_COMMIT (R89): GRP_CMD.SPARE_COMMIT marks the spare shadow set ready. -/
  | grpSpareCommit (w : Req) (g : Fin 72)
  /-- GRP_FORCE_TRIP (R94): GRP_CMD.FORCE_TRIP trips a group with cause 0xF0. -/
  | grpForceTrip (w : Req) (g : Fin 72)
  /-- GRP_TRIP_CLR (R103): GRP_CMD.TRIP_CLR clears a group trip unless a source is active. -/
  | grpTripClr (w : Req) (g : Fin 72)
  /-- DUTY_SH_WRITE (R91): A host or core write of a shadow duty, refused where the group or set does not allow it. -/
  | dutyShWrite (w : Req) (g : Fin 72) (p : Fin 4) (v : BitVec 32)
  /-- DT_CFG_WRITE (R91): A write of shadow dead times, accepted only in M3 with the set not ready. -/
  | dtCfgWrite (w : Req) (g : Fin 72) (p : Fin 4) (v : BitVec 32)
  /-- GRP_CFG_WRITE (R91): A write of SRC, SPARE_SRC or TRIP_STATE of a group, with M3 restrictions. -/
  | grpCfgWrite (w : Req) (g : Fin 72) (v : BitVec 32)
  /-- TRIP_PIN_CFG_WRITE (R95): A write of TRIP pin polarity acts on the qualified level at the next count. -/
  | tripPinCfgWrite (w : Req) (v : BitVec 32)
  /-- GROUP_TRIP (R99): An enabled, unblanked trip source reaches a group latch, which latches the trip and drives the trip state. -/
  | groupTrip (g : Fin 72)
  /-- TRIP_SET_AFTER_EOF (R109): A trip command waiting behind a frame that already carries two TRIP sets is sent after its EOF. -/
  | tripSetAfterEof (n : Fin 16)
  /-- GATE_EDGE (R85): A timed gate edge of a pair is made, opening or restarting blanking windows of the group. the edge due at `count` of the period. -/
  | gateEdge (g : Fin 72) (p : Fin 4) (count : Nat) (high : Bool) (on : Bool)
  /-- BLANK_WINDOW_CLOSE (R98): A blanking window closes WIDTH counts after the last edge and an active source then trips. -/
  | blankWindowClose (b : Fin 32)
  /-- SYNC_IN_PULSE (R105): A SYNC_IN rising edge is measured and the timebase trim moves one count. `c`: timebase count of the period at which the rising edge comes. -/
  | syncInPulse (c : Nat)
  /-- L0_UPDATE (R156): A lane turn runs the current-loop update of an axis slot and marks its shadow set ready. -/
  | l0Update (a : Fin 64)
  /-- STATUS_FRAME_RECEIVE (R122): A brick status frame is taken on an UP port, updating trip sources, VDC, acknowledgements and events. the 28 bytes between SOF and EOF. -/
  | statusFrameReceive (n : Fin 16) (frame : List (BitVec 8))
  /-- STATUS_FRAME_TIMEOUT (R122): No valid status frame for 2 T0 sets UP_LOST and raises the brick link event. -/
  | statusFrameTimeout (n : Fin 16)
  /-- STO_FB_MISMATCH (R123): A mismatch of STO_FB and the zone votes lasting over 10 ms sets STO_DISAGREE and is handled by the safety channels. -/
  | stoFbMismatch (n : Fin 16)
  /-- PORT_RESTART (R119): PORT_CMD.RESTART requests RESTART in edge frames until the brick reports OFF_STATE = 0. -/
  | portRestart (w : Req) (n : Fin 16)
  /-- PORT_RETRAIN (R124): PORT_CMD.RETRAIN forces the brick port DOWN and retrains it. -/
  | portRetrain (w : Req) (n : Fin 16)
  /-- LINK_SIGNAL_DETECT (R124): Signal present on an enabled DOWN port starts training. -/
  | linkSignalDetect (n : Fin 16)
  /-- TRAIN_DONE (R124): 64 error-free TRAIN sets move the port to DELAY. -/
  | trainDone (n : Fin 16)
  /-- TRAIN_TIMEOUT (R124): 150 us without training success returns the port to DOWN and counts TRAIN_FAIL. -/
  | trainTimeout (n : Fin 16)
  /-- DELAY_DONE (R124): Eight PING/PONG exchanges set LINK_DELAY and the port turns UP. round trip and TURN, in counts, of seven exchanges and of the eighth. -/
  | delayDone (n : Fin 16) (l : List (Nat × Nat)) (x : Nat × Nat)
  /-- LINK_LOSS (R124): Loss of signal or a violation burst takes an UP port DOWN. -/
  | linkLoss (n : Fin 16)
  /-- FB_EDGE (R127): A filtered TRACK or PHASE edge is counted or judged illegal on a feedback channel. the leg levels from `n` CTL counts after the model's present instant on, and the counts for which they hold. -/
  | fbEdge (c : Fin 72) (track : Bool) (phase : Bool) (n : Held Nat)
  /-- COMPARE_PULSE_END (R144): The compare pulse ends after (PW + 1) x 10 ns. -/
  | comparePulseEnd (c : Fin 72)
  /-- WIRE_FAULT (R141): Both legs of a pair equal for over 200 ns sets WIRE and FB_FAULT and starts the axis fault reaction. the live leg levels, as WIRE_STAT.LEGS, and the counts of 2.5 ns for which they have held; levels of sound pairs end the condition. -/
  | wireFault (c : Fin 72) (legs : Held (Fin 16))
  /-- STILL_TIMEOUT (R138): No counted edge for STILL_T us sets STILL and clears INTERP_VALID. -/
  | stillTimeout (c : Fin 72)
  /-- FB_FAULT_CLR (R142): FB_CMD.FAULT_CLR clears a feedback fault unless its cause persists. -/
  | fbFaultClr (w : Req) (c : Fin 72)
  /-- FB_ALIGN (R148): FB_CMD.ALIGN sets XCHK_OFS at standstill or is refused. -/
  | fbAlign (w : Req) (c : Fin 72)
  /-- FB_CFG_WRITE (R149): A feedback configuration write, refused for assigned channels outside M3; EN 0 to 1 clears the position. `r`: 0 FB_CFG, 1 SPD_CFG, 2 SPD_CFG2, 3 XCHK_CFG. -/
  | fbCfgWrite (w : Req) (c : Fin 72) (r : Fin 4) (v : BitVec 32)
  /-- CMP_VAL_WRITE (R145): A write of CMP_VAL with the behind test of CATCH_UP or FIRE_ONCE. -/
  | cmpValWrite (w : Req) (c : Fin 72) (v : BitVec 32)
  /-- AXIS_ENABLE (R167): A write of AX_CTRL.EN = 1, refused in the listed cases. `v`: the word written to AX_CTRL, its bit EN = 1. -/
  | axisEnable (w : Req) (a : Fin 64) (v : BitVec 32)
  /-- AXIS_DISABLE (R167): A write of EN = 0 puts the axis in DISABLED at its next L0 update. -/
  | axisDisable (w : Req) (a : Fin 64) (v : BitVec 32)
  /-- AXIS_FAULT_CLR (R169): AX_CTRL.FAULT_CLR moves a faulted axis to TRIPPED or RUN unless its cause persists. -/
  | axisFaultClr (w : Req) (a : Fin 64)
  /-- SRC_REQ_WRITE (R161): A source request takes effect at the next L1 boundary or is refused. -/
  | srcReqWrite (w : Req) (a : Fin 64) (src : Fin 8)
  /-- ENGINE_CONFIG_WRITE (R181): A write of axis scale, limit or ELEC registers, refused outside M3. `r`: word index in the axis page. -/
  | engineConfigWrite (w : Req) (a : Fin 64) (r : Fin 256) (v : BitVec 32)
  /-- INJ_GO (R177): INJ_CTRL.GO starts a test injection or is refused. `v`: the word written to INJ_CTRL. -/
  | injGo (w : Req) (a : Fin 64) (v : BitVec 32)
  /-- INJ_STOP (R177): INJ_CTRL.STOP ends the injection at the next sample. -/
  | injStop (w : Req) (a : Fin 64)
  /-- INJECTION_DONE (R177): An injection reaches INJ_LEN samples, becomes DONE and raises the injection event. -/
  | injectionDone (a : Fin 64)
  /-- CCAP_ARM (R180): CCAP_CTRL.ARM arms the control-engine capture, reserving a token. `v`: the word written to CCAP_CTRL. -/
  | ccapArm (w : Req) (v : BitVec 32)
  /-- CCAP_STOP (R180): CCAP_CTRL.STOP stops the capture and releases its token. -/
  | ccapStop (w : Req) (v : BitVec 32)
  /-- CCAP_GO (R179): CCAP_CTRL.GO triggers the capture from software. -/
  | ccapGo (w : Req) (v : BitVec 32)
  /-- CCAP_TRIGGER (R179): An event, injection start or level crossing triggers the control-engine capture. -/
  | ccapTrigger
  /-- CCAP_DONE (R179): 16 383 − PRE records after the trigger are written and the capture becomes DONE. -/
  | ccapDone
  /-- PG_START (R185): PG_CMD.START begins a move to TARGET. -/
  | pgStart (w : Req) (g : Fin 72)
  /-- PG_STOP (R185): PG_CMD.STOP brings a move or jog to rest. -/
  | pgStop (w : Req) (g : Fin 72)
  /-- PG_JOG_POS (R184): A write of JOG_POS starts or ends a positive jog. -/
  | pgJogPos (w : Req) (g : Fin 72) (on : Bool)
  /-- PG_JOG_NEG (R184): A write of JOG_NEG starts or ends a negative jog. -/
  | pgJogNeg (w : Req) (g : Fin 72) (on : Bool)
  /-- PG_TARGET_WRITE (R186): A write of TARGET, accepted only in TRACK or IDLE. the LO or the HI word. -/
  | pgTargetWrite (w : Req) (g : Fin 72) (hi : Bool) (v : BitVec 32)
  /-- PG_LIMIT_WRITE (R187): A write of V_MAX, A_MAX, J_MAX or JOG_V, applied at the next L1 boundary; 0 is refused. `r`: 0 V_MAX, 1 A_MAX, 2 J_MAX, 3 JOG_V. -/
  | pgLimitWrite (w : Req) (g : Fin 72) (r : Fin 4) (v : BitVec 32)
  /-- PG_VLIM_WRITE (R189): A write of a virtual limit, refused if it would invert the limits. VLIM_LO or VLIM_HI, its LO or HI word. -/
  | pgVlimWrite (w : Req) (g : Fin 72) (upper : Bool) (hi : Bool) (v : BitVec 32)
  /-- ST_CFG_WRITE (R191): A write of stepper chopper configuration, with EN refused outside M3–M8 and M10. -/
  | stCfgWrite (w : Req) (n : Fin 8) (v : BitVec 32)
  /-- CHOPPER_CROSSING (R193): A winding comparator crossing switches the winding between drive and decay. winding A or B (`b`), the upper or the lower crossing. -/
  | chopperCrossing (n : Fin 8) (b : Bool) (upper : Bool)
  /-- FAST_DECAY_END (R193): In MIXED decay, T_FAST counts end and the winding turns to SLOW decay. -/
  | fastDecayEnd (n : Fin 8) (b : Bool)
  /-- HOLD_CURRENT_TIMEOUT (R191): After HOLD_T ms of IDLE the winding current becomes I_HOLD. -/
  | holdCurrentTimeout (n : Fin 8)
  /-- LEARN_WINDOW_END (R195): A 64-period learning window ends and OFS is updated. -/
  | learnWindowEnd (n : Fin 8) (b : Bool)
  /-- PP_OPEN (R201): PP_CMD.OPEN opens a plan with a new epoch or is refused. -/
  | ppOpen (w : Req) (p : Fin 16)
  /-- PP_CLOSE (R204): PP_CMD.CLOSE checks a plan record and places its entries and claims or refuses it. `two`: two consecutive buffers. -/
  | ppClose (w : Req) (p : Fin 16) (two : Bool) (buf : Fin 2048)
  /-- PP_ABORT (R201): PP_CMD.ABORT discards the open plan. -/
  | ppAbort (w : Req) (p : Fin 16)
  /-- PP_QUERY (R208): PP_CMD.QUERY reports ledger claims on a zone and records dependencies. `count`: cycles minus 1; the first is in PP_QFIRST. -/
  | ppQuery (w : Req) (p : Fin 16) (zone : Fin 16) (count : Fin 8)
  /-- PP_HELD_COMMAND (R214): A planner-port command held during an evaluation is performed after it, in order. -/
  | ppHeldCommand
  /-- VT_WRITE (R212): A write to the verdict table, ignored from a requester other than VT_REQ or after a seal. `r`: word of the table from VT_VERDICT (0) to VT_SOLVE (9). -/
  | vtWrite (w : Req) (r : Fin 10) (v : BitVec 32)
  /-- VT_SEAL (R213): VT_SEAL.SEAL seals the verdict table for the next L3 boundary or is refused. -/
  | vtSeal (w : Req) (target : BitVec 16)
  /-- L3_EVALUATION (R216): At B(n) − 10 us the evaluation applies verdicts, squashes, fallback and commits for the window. -/
  | l3Evaluation
  /-- FRAME_PUBLISH (R255): The Roughing stage completes the kinematics and publishes a new frame. -/
  | framePublish
  /-- ASSEMBLY_DONE (R256): Assembly of the class S problem completes, starting a late solve if ROUGH_END has passed. -/
  | assemblyDone
  /-- SOLVE_START (R256): At ROUGH_END the class S solve starts. -/
  | solveStart
  /-- S_SUBMIT (R260): FACE_CMD.S_SUBMIT submits a class S job descriptor. -/
  | sSubmit (w : Req) (buf : Fin 2048)
  /-- B_SUBMIT (R261): FACE_CMD.B_SUBMIT submits a class B batch. -/
  | bSubmit (w : Req) (buf : Fin 2048)
  /-- ABORT_S (R262): FACE_CMD.ABORT_S ends the class S job with ABORTED. `iter`: ADMM iterations completed so far. -/
  | abortS (w : Req) (iter : Nat)
  /-- ABORT_B (R262): FACE_CMD.ABORT_B ends running and pending batches. -/
  | abortB (w : Req)
  /-- CLASS_S_JOB_END (R266): A class S job converges or reaches ADMM_MAX and writes its result set. -/
  | classSJobEnd
  /-- S_DEADLINE (R267): A class S deadline passes; the iterate is finalised and the result written. `iter`: ADMM iterations complete at the deadline. -/
  | sDeadline (iter : Nat)
  /-- BATCH_START (R242): A ready batch starts when class S reaches an iteration end or the previous batch ends. -/
  | batchStart
  /-- BATCH_END (R271): A batch completes and its result set passes to CONSUMER. -/
  | batchEnd
  /-- B_DEADLINE (R268): A class B deadline marks unfinished problems NOT_DONE and returns the batch result. of the running batch or of the one that waits; slots finished. -/
  | bDeadline (queued : Bool) (done : BitVec 256)
  /-- NOP (R299): Arithmetic no-operation with optional parallel moves. -/
  | nop (n : Fin 16) (e : Ecc)
  /-- MPY (R299): Fractional multiply into an accumulator. -/
  | mpy (n : Fin 16) (e : Ecc)
  /-- MAC (R299): Fractional multiply-accumulate. -/
  | mac (n : Fin 16) (e : Ecc)
  /-- MSU (R299): Fractional multiply-subtract. -/
  | msu (n : Fin 16) (e : Ecc)
  /-- MPYI (R299): Integer multiply into an accumulator. -/
  | mpyi (n : Fin 16) (e : Ecc)
  /-- MACI (R299): Integer multiply-accumulate. -/
  | maci (n : Fin 16) (e : Ecc)
  /-- MSUI (R299): Integer multiply-subtract. -/
  | msui (n : Fin 16) (e : Ecc)
  /-- MAC2 (R299): Dual fractional multiply-accumulate into paired accumulators. -/
  | mac2 (n : Fin 16) (e : Ecc)
  /-- MAC2I (R299): Dual integer multiply-accumulate. -/
  | mac2i (n : Fin 16) (e : Ecc)
  /-- DMPY (R299): SIMD multiply of halves into accumulator lanes. -/
  | dmpy (n : Fin 16) (e : Ecc)
  /-- DMAC (R299): SIMD multiply-accumulate of halves. -/
  | dmac (n : Fin 16) (e : Ecc)
  /-- DMAC2 (R299): Dual SIMD multiply-accumulate. -/
  | dmac2 (n : Fin 16) (e : Ecc)
  /-- ADDA (R299): Add a register times 2^32 to an accumulator. -/
  | adda (n : Fin 16) (e : Ecc)
  /-- SUBA (R299): Subtract a register times 2^32 from an accumulator. -/
  | suba (n : Fin 16) (e : Ecc)
  /-- CLRA (R299): Clear an accumulator. -/
  | clra (n : Fin 16) (e : Ecc)
  /-- ADD (R299): Wrapping register add setting flags. -/
  | add (n : Fin 16) (e : Ecc)
  /-- SUB (R299): Wrapping register subtract setting flags. -/
  | sub (n : Fin 16) (e : Ecc)
  /-- ADDS (R299): Saturating register add. -/
  | adds (n : Fin 16) (e : Ecc)
  /-- SUBS (R299): Saturating register subtract. -/
  | subs (n : Fin 16) (e : Ecc)
  /-- AND (R299): Bitwise AND. -/
  | and (n : Fin 16) (e : Ecc)
  /-- OR (R299): Bitwise OR. -/
  | or (n : Fin 16) (e : Ecc)
  /-- XOR (R299): Bitwise XOR. -/
  | xor (n : Fin 16) (e : Ecc)
  /-- ANDN (R299): Bitwise AND with complement. -/
  | andn (n : Fin 16) (e : Ecc)
  /-- ASL (R299): Arithmetic shift left. -/
  | asl (n : Fin 16) (e : Ecc)
  /-- ASR (R299): Arithmetic shift right. -/
  | asr (n : Fin 16) (e : Ecc)
  /-- LSR (R299): Logical shift right. -/
  | lsr (n : Fin 16) (e : Ecc)
  /-- ASLS (R299): Saturating arithmetic shift left. -/
  | asls (n : Fin 16) (e : Ecc)
  /-- MULR (R299): Rounded fractional register multiply. -/
  | mulr (n : Fin 16) (e : Ecc)
  /-- MULI (R299): Low 32 bits of an integer multiply. -/
  | muli (n : Fin 16) (e : Ecc)
  /-- MIN (R299): Signed minimum. -/
  | min (n : Fin 16) (e : Ecc)
  /-- MAX (R299): Signed maximum. -/
  | max (n : Fin 16) (e : Ecc)
  /-- ABS (R299): Saturating absolute value. -/
  | abs (n : Fin 16) (e : Ecc)
  /-- NEG (R299): Saturating negation. -/
  | neg (n : Fin 16) (e : Ecc)
  /-- CMP (R299): Compare registers and set flags. -/
  | cmp (n : Fin 16) (e : Ecc)
  /-- CMPI (R299): Compare a register with a signed immediate. -/
  | cmpi (n : Fin 16) (e : Ecc)
  /-- EXT (R293): Extract an accumulator to a register with rounding and saturation, s = 32 − SB. -/
  | ext (n : Fin 16) (e : Ecc)
  /-- EXTI (R293): Extract an accumulator with s = SB. -/
  | exti (n : Fin 16) (e : Ecc)
  /-- EXTD (R293): Extract both accumulator lanes to 16-bit halves. -/
  | extd (n : Fin 16) (e : Ecc)
  /-- NORM (R295): Count the normalising shift of a word. -/
  | norm (n : Fin 16) (e : Ecc)
  /-- ASRA (R299): Rounded arithmetic shift right of an accumulator. -/
  | asra (n : Fin 16) (e : Ecc)
  /-- ASLA (R299): Saturating shift left of an accumulator. -/
  | asla (n : Fin 16) (e : Ecc)
  /-- ADDAA (R299): Add one accumulator to another. -/
  | addaa (n : Fin 16) (e : Ecc)
  /-- LDA (R299): Load an accumulator from a register times 2^32. -/
  | lda (n : Fin 16) (e : Ecc)
  /-- LDI (R300): Load a sign-extended immediate. -/
  | ldi (n : Fin 16) (e : Ecc)
  /-- LDIH (R300): Load the upper half of a register. -/
  | ldih (n : Fin 16) (e : Ecc)
  /-- MOVC (R300): Move between registers, including control registers and accumulator parts. -/
  | movc (n : Fin 16) (e : Ecc)
  /-- LDX (R300): Load or store through a pointer with displacement. -/
  | ldx (n : Fin 16) (e : Ecc)
  /-- LDP (R300): Load a word from P memory. -/
  | ldp (n : Fin 16) (e : Ecc)
  /-- BRA (R301): Conditional branch. -/
  | bra (n : Fin 16) (e : Ecc)
  /-- CALL (R301): Conditional call pushing the return address. -/
  | call (n : Fin 16) (e : Ecc)
  /-- RTS (R301): Return from subroutine. -/
  | rts (n : Fin 16) (e : Ecc)
  /-- RTI (R301): Return from exception restoring SR, loop state and PC. -/
  | rti (n : Fin 16) (e : Ecc)
  /-- LOOPI (R286): Start a hardware loop with an immediate count. -/
  | loopi (n : Fin 16) (e : Ecc)
  /-- LOOPG (R286): Start a hardware loop with a count from a register. -/
  | loopg (n : Fin 16) (e : Ecc)
  /-- JMPR (R301): Jump to an address held in a register. -/
  | jmpr (n : Fin 16) (e : Ecc)
  /-- TRAP (R301): Raise the TRAP exception with a code. -/
  | trap (n : Fin 16) (e : Ecc)
  /-- LEXIT (R287): End the innermost loop after the current instruction. -/
  | lexit (n : Fin 16) (e : Ecc)
  /-- BXV (R295): Block exponent over COUNT words. -/
  | bxv (n : Fin 16) (e : Ecc)
  /-- WAIT (R302): Stop issue until an enabled interrupt is pending. -/
  | wait (n : Fin 16) (e : Ecc)
  /-- HALT (R302): Halt the core with cause HALT_INSN. -/
  | halt (n : Fin 16) (e : Ecc)
  /-- SYNC (R277): Stall until every external write has completed. -/
  | sync (n : Fin 16) (e : Ecc)
  /-- NOP_B (R302): Class B no-operation. -/
  | nopB (n : Fin 16) (e : Ecc)
  /-- INTERRUPT_ENTRY (R304): An enabled pending interrupt line enters its vector. -/
  | interruptEntry (n : Fin 16)
  /-- BREAKPOINT_HALT (R308): A breakpoint or watchpoint match halts the core or raises vector 7. -/
  | breakpointHalt (n : Fin 16)
  /-- GC_SOFT_RST (R306): GC_CTRL.SOFT_RST resets a core and restarts it under GC_BOOT_CFG. -/
  | gcSoftRst (w : Req) (n : Fin 16)
  /-- GC_HALT (R308): GC_CTRL.HALT halts a core at the next boundary. -/
  | gcHalt (w : Req) (n : Fin 16)
  /-- GC_RUN (R308): GC_CTRL.RUN resumes a halted core at GC_PC. -/
  | gcRun (w : Req) (n : Fin 16)
  /-- GC_STEP (R308): GC_CTRL.STEP issues one instruction and halts. `e`: what ECC finds in the words the instruction reads. -/
  | gcStep (w : Req) (n : Fin 16) (e : Ecc)
  /-- GC_PC_WRITE (R308): A write of GC_PC, accepted only while HALTED. -/
  | gcPcWrite (w : Req) (n : Fin 16) (v : BitVec 32)
  /-- GC_DBG_DATA_WRITE (R308): A write of the debug-selected register while HALTED. -/
  | gcDbgDataWrite (w : Req) (n : Fin 16) (v : BitVec 32)
  /-- P_MEMORY_WRITE (R278): A window write to core P memory, performed only while halted or from the boot ROM. -/
  | pMemoryWrite (w : Req) (n : Fin 16) (a : Fin 16384) (v : BitVec 32)
  /-- CORE_BOOT (R306): At domain release a core halts with BOOT_WAIT or starts its boot ROM. -/
  | coreBoot (n : Fin 16)
  /-- BOOT_ROM_LOAD (R306): Once VALID = 1 the boot ROM loads the core's user section and jumps to its entry point. -/
  | bootRomLoad (n : Fin 16)
  /-- WDOG_KICK (R307): A write of 0xC0DE to GC_WDOG_KICK restarts the core watchdog. -/
  | wdogKick (w : Req) (n : Fin 16) (v : BitVec 32)
  /-- CORE_WATCHDOG_EXPIRY (R307): The core watchdog expires, raising its event and requesting a core or cluster reset. -/
  | coreWatchdogExpiry (n : Fin 16)
  /-- ENQ_GO (R318): ENQ_CMD.GO enqueues a job descriptor or refuses it. -/
  | enqGo (w : Req)
  /-- HW_ENQUEUE_RETRY (R320): A held hardware job is enqueued when a pool entry frees. -/
  | hwEnqueueRetry
  /-- JOB_DISPATCH (R325): A core becomes idle and the Chuck delivers the chosen job to its mailbox. the core that has become idle. -/
  | jobDispatch (c : Fin 16)
  /-- AFFINITY_WINDOW_END (R324): AFF_WIN passes and a job waiting for its affinity core may go to another idle core. -/
  | affinityWindowEnd (f : Fin 256)
  /-- CORE_DONE (R326): A core ends its job with a status and optional result buffer. -/
  | coreDone (w : Req) (c : Fin 16) (status : BitVec 8) (resValid : Bool) (resBuf : Fin 2048)
  /-- JOB_RELEASE (R328): A completion is written to the sink's queue, the result buffer passed and the release event raised. -/
  | jobRelease (f : Fin 256)
  /-- COMPLETION_POP (R328): A read of CQ_LO pops the oldest completion record. -/
  | completionPop (w : Req) (k : Fin 17)
  /-- SMW_FLAG_WRITE (R312): The owner passes a buffer by writing its flag word. -/
  | smwFlagWrite (w : Req) (b : Fin 2048) (v : BitVec 32)
  /-- SMW_PASS (R314): SMW_PASS passes a range of buffers in one step. -/
  | smwPass (w : Req) (v : BitVec 32)
  /-- SMW_RECLAIM (R315): SMW_RECLAIM takes ownership of a buffer for the host or supervisor. -/
  | smwReclaim (w : Req) (b : Fin 2048)
  /-- SMW_PAYLOAD_WRITE (R311): A payload write to the SMW, discarded and flagged if the requester is not the owner. bytes from offset `o` of buffer `b`. -/
  | smwPayloadWrite (w : Req) (b : Fin 2048) (o : Fin 4096) (data : List (BitVec 8))
  /-- FLOW_CFG_WRITE (R329): A write of FLOW_CFG or FLOW_MASK, accepted only for an empty flow. FLOW_CFG, or FLOW_MASK (`mask`). -/
  | flowCfgWrite (w : Req) (f : Fin 256) (mask : Bool) (v : BitVec 32)
  /-- CHUCK_WATCHDOG_EXPIRY (R330): The Chuck watchdog expires and requests the Chuck watchdog reset. -/
  | chuckWatchdogExpiry
  /-- SAFETY_SAMPLE (R332): Every 100 us each channel samples inputs, evaluates functions and votes, and exchanges state. -/
  | safetySample (x : Nat) (siD siL : BitVec 24) (edm : BitVec 4) (rb : ReadBacks)
  /-- INPUT_FILTER_STOP (R335): An input low for T_OFF turns its filtered state to stop. -/
  | inputFilterStop (live : Bool) (i : Fin 24)
  /-- INPUT_FILTER_RUN (R335): Three consecutive high samples turn a filtered state to run. -/
  | inputFilterRun (live : Bool) (i : Fin 24)
  /-- TEST_PULSE_START (R336): A test-pulse supply switches off in its pulse slot. -/
  | testPulseStart (x : Nat) (k : Fin 8)
  /-- TEST_PULSE_END (R336): A test-pulse supply switches on again at slot start + 70 us. -/
  | testPulseEnd (x : Nat) (k : Fin 8)
  /-- TEST_READ (R337): Each channel makes a test read of every input and checks the pattern. -/
  | testRead (x : Nat) (d l : BitVec 24)
  /-- HEARTBEAT_TIMEOUT (R332): A channel heartbeat missing for 1 ms marks that channel failed. -/
  | heartbeatTimeout (live : Bool)
  /-- DISCREPANCY_TIMEOUT (R341): Channels disagreeing for T_DISC put a function in FAULT. -/
  | discrepancyTimeout (live : Bool) (f : Fin 24)
  /-- RESET_PULSE (R342): A valid reset pulse acts on the waiting functions of its group. -/
  | resetPulse (g : Fin 4)
  /-- REMOTE_TIMEOUT (R345): No valid safety frame for REM_TO cycles puts a remote function in FAULT. -/
  | remoteTimeout (f : Fin 24)
  /-- SS1_TIMEOUT (R347): SS1_T passes and the zone vote turns to STO. -/
  | ss1Timeout (z : Fin 8)
  /-- DARK_TEST_START (R349): A released vote output is switched off for its dark test. -/
  | darkTestStart (o : Fin 16)
  /-- DARK_TEST_END (R349): The 200 us dark test ends and the output is released again. -/
  | darkTestEnd (o : Fin 16)
  /-- OUTPUT_FAULT (R349): A vote output reading released over 1 ms after STO is an output fault, opening the cross-off switch and entering M9. -/
  | outputFault (o : Fin 16)
  /-- EDM_TIMEOUT (R351): EDM not at the matching level within EDM_T latches EDM_FAULT and enters M9. -/
  | edmTimeout (k : Fin 4)
  /-- CONTACTOR_DELAY_END (R351): CD_DELAY after all zones of the mask went to STO, the contactor switch opens. -/
  | contactorDelayEnd (k : Fin 4)
  /-- CONTACTOR_STALE (R351): A contactor not switched for 24 h sets STALE. -/
  | contactorStale (k : Fin 4)
  /-- TPS_FAULT (R339): A supply low outside its pulses for over 200 us or overloaded latches TPS_FAULT. -/
  | tpsFault (k : TpsFail)
  /-- SSM_OUTCOME (R377): Both channels agree levels and distances, and the outcome applies at the next L1 boundary. -/
  | ssmOutcome
  /-- CROSS_CHECK_TIMEOUT (R357): A channel difference lasting over 2 ms is a single-channel fault. -/
  | crossCheckTimeout (c : Fin 3)
  /-- LOCKSTEP_MISMATCH (R357): A lockstep mismatch in the live centre marks it failed. -/
  | lockstepMismatch
  /-- SELF_TEST_DONE (R358): A channel self-test completes, attributing a fault or releasing a channel. -/
  | selfTestDone (live pass : Bool)
  /-- DEGRADED_TIMEOUT (R360): DEG_LEFT reaches 0 and the module enters M9 with DEG_EXPIRED. -/
  | degradedTimeout
  /-- PORT_OPEN (R386): PORT_CMD.OPEN opens a portal. -/
  | portOpen (w : Req) (p : Fin 8)
  /-- PORT_CLOSE (R386): PORT_CMD.CLOSE closes a portal. -/
  | portClose (w : Req) (p : Fin 8)
  /-- PORT_STOP (R386): PORT_CMD.STOP stops a portal. -/
  | portStop (w : Req) (p : Fin 8)
  /-- PORT_RELEARN (R390): PORT_CMD.RELEARN clears the envelopes and learning counts. -/
  | portRelearn (w : Req) (p : Fin 8)
  /-- UNLOCK_TIMEOUT (R387): UNLOCK_TO passes in UNLOCK_WAIT and the request is withdrawn. -/
  | unlockTimeout (p : Fin 8)
  /-- LOCK_TIMEOUT (R387): LOCK_T passes in CLOSED without lock and the portal enters FAULT. -/
  | lockTimeout (p : Fin 8)
  /-- TRAVEL_TIMEOUT (R387): Travel longer than TRAVEL_MAX puts the portal in FAULT. -/
  | travelTimeout (p : Fin 8)
  /-- OBSTACLE_DETECT (R392): OBS_N consecutive exceedances detect an obstacle and the portal brakes. -/
  | obstacleDetect (p : Fin 8)
  /-- REVERSE_DRIVE_START (R392): BRAKE_T after detection the portal drives in the opposite direction. -/
  | reverseDriveStart (p : Fin 8)
  /-- START_BLANK_END (R391): START_BLANK ms into a movement the threshold returns to I_THR. -/
  | startBlankEnd (p : Fin 8)
  /-- SERTIK_SLOT_START (R403): A Sertik slot begins and the owner transmits under its guardian. -/
  | sertikSlotStart (k : Fin 80) (stray : Bool)
  /-- SERTIK_FRAME_RECEIVE (R408): A Sertik frame is checked and stored or discarded. -/
  | sertikFrameReceive (ch : Fin 2) (sof : Nat) (code : Bool) (fr : List (BitVec 8))
  /-- TX_COMMIT (R411): TX_CTRL.COMMIT copies TX_DATA into the send buffer or pends it. -/
  | txCommit (w : Req) (f : Fin 256)
  /-- CHANNEL_LOSS (R415): Three consecutive counted slots without a valid frame declare a channel lost. -/
  | channelLoss (ch : Fin 2)
  /-- SRT_EN_WRITE (R418): A write of SRT_CTRL.EN enables the engine into LISTEN or turns it OFF. -/
  | srtEnWrite (w : Req) (v : BitVec 32)
  /-- LISTEN_TIMEOUT (R418): A coldstart node hearing nothing for 2 cycles enters COLDSTART. -/
  | listenTimeout
  /-- BACKOFF_END (R418): The backoff silence and listening cycle end in INTEGRATE or COLDSTART. -/
  | backoffEnd
  /-- SYNC_LOSS (R418): No valid SYNC for 4 cycles returns a follower to LISTEN. -/
  | syncLoss
  /-- TAKEOVER_CYCLE_START (R424): At TAKEOVER_CYCLE the bus cycle shifts by SHIFT and the module leads. -/
  | takeoverCycleStart
  /-- GRANT_TIMEOUT (R426): A granted spare slot without a frame for 64 cycles is freed. -/
  | grantTimeout (i : Fin 24)
  /-- STEP_GO (R436): STEP_CMD.GO loads SET_SEC and SET_NS into DT, or is refused while CYC_RUN = 1. -/
  | stepGo (w : Req)
  /-- HOLD_EXIT (R445): STEP_CMD.HOLD_EXIT clears HOLDOVER and SLEW_LEFT. -/
  | holdExit (w : Req)
  /-- RATE_ADJ_WRITE (R439): A write of RATE_ADJ, clamped to RATE_MAX or refused by source and holdover. -/
  | rateAdjWrite (w : Req) (v : BitVec 32)
  /-- RATE_MAX_WRITE (R439): A write of RATE_MAX, clamping RATE_ADJ and any slew. -/
  | rateMaxWrite (w : Req) (v : BitVec 32)
  /-- SLEW_WRITE (R438): A write of SLEW_NS starts or replaces a slew. -/
  | slewWrite (w : Req) (v : BitVec 32)
  /-- SLEW_END (R438): SLEW_LEFT reaches 0 and the slew rate is removed. -/
  | slewEnd
  /-- TIME_RUN_SET (R437): TIME_CTRL.RUN = 1 arms the boundary generator start. -/
  | timeRunSet (w : Req)
  /-- TIME_RUN_CLEAR (R437): TIME_CTRL.RUN = 0 stops the boundary generator at once. -/
  | timeRunClear (w : Req)
  /-- DT_NS_READ (R435): A read of DT_NS latches the seconds of the same edge for the requester. -/
  | dtNsRead (w : Req)
  /-- TXTS_POP (R443): A read of TXTS_HDR pops the oldest transmit timestamp. -/
  | txtsPop (w : Req) (p : Fin 2)
  /-- PTP_SYNC_TIMEOUT (R444): No Sync for SYNC_TO ms sets HOLDOVER and stops any slew. -/
  | ptpSyncTimeout
  /-- ROLE_CHANGE (R450): A qualified ROLE level takes effect at the next L1 boundary. the level of the ROLE pin, and the ns for which it has held. -/
  | roleChange (active : Held Bool)
  /-- REFEREE_TIMEOUT (R454): No accepted referee frame for 4 cycles makes its votes unknown. -/
  | refereeTimeout
  /-- STEADY_FRAME_RECEIVE (R457): A steady-link frame is received, updating partner state, pair state and backlog. -/
  | steadyFrameReceive (ns : Nat) (bad : Bool) (m : SteadyMsg)
  /-- INTEGRATOR_TRACKING (R459): At b + 100 us the standby sets its integrators from the active module's values. -/
  | integratorTracking
  /-- PAIR_LINK_TIMEOUT (R461): The steady link not UP for 1 ms returns the pair to SOLO. -/
  | pairLinkTimeout
  /-- SWAP_DUE (R462): SWAP_AGE reaches 86 400 s, setting SWAP_DUE and SWAP_REQ. -/
  | swapDue
  /-- FYVER_FRAME_RECEIVE (R464): A Fyver frame is received and used or discarded. -/
  | fyverFrameReceive (l : Fin 4) (ns : Nat) (fr : List (BitVec 8))
  /-- FYVER_LINK_UP (R464): A Fyver link becomes UP after block lock and delay measurement. -/
  | fyverLinkUp (l : Fin 5) (trip turn : Nat)
  /-- FYVER_LINK_DOWN (R464): Header errors or 1 ms without a valid frame take a Fyver link DOWN. -/
  | fyverLinkDown (l : Fin 5)
  /-- FYVER_TIME_LOSS (R465): No TIME frame for 10 L3 cycles is a loss of Fyver time. -/
  | fyverTimeLoss
  /-- IMG_SEND (R467): IMG_SEND.GO sends a follower's image in IMAGE frames. -/
  | imgSend (w : Req) (v : BitVec 32)
  /-- CONSENSUS_ROUND_START (R469): A consensus round job starts at its window instant. -/
  | consensusRoundStart
  /-- CONSENSUS_AVERAGE (R469): The master averages CONS_UP values and sends CONS_DOWN. -/
  | consensusAverage
  /-- FIELD_REFRESH (R471): Every 10 us a coupler refresh exchanges output commands and input states. of the two groups. -/
  | fieldRefresh (vf0 : FieldFrame) (vf1 : FieldFrame)
  /-- REFRESH_TIMEOUT (R472): 10 ms without refresh switches the group outputs off and latches SILENT. -/
  | refreshTimeout (g : Fin 2)
  /-- FIELD_INPUT_CHANGE (R473): A field input's filtered state changes after FILT. the level of the input, and the 10 µs samples for which it has held. -/
  | fieldInputChange (i : Fin 32) (on : Held Bool)
  /-- OUTPUT_OVERLOAD (R475): An overloaded output switches off and latches OVLD. -/
  | outputOverload (o : Overload)
  /-- OVLD_CLR (R475): DIO_OVLD_CLR clears an overload latch. -/
  | ovldClr (w : Req) (v : BitVec 32)
  /-- COMPARE_OUTPUT_END (R474): A compare-driven output turns off 50 us after its last pulse. -/
  | compareOutputEnd (i : Fin 16)
  /-- UNDERVOLTAGE_LATCH (R476): VF below 16 V for 1 ms switches the group off and latches UV_LATCH. -/
  | undervoltageLatch (g : Fin 2)
  /-- RESTORE_READY (R476): VF good for 100 ms sets RESTORE_READY, or restores at once with AUTO_RESTORE. -/
  | restoreReady (g : Fin 2)
  /-- GROUP_ACK (R476): DIO_GRP_CTRL.ACK clears latches when RESTORE_READY or is refused. -/
  | groupAck (w : Req) (g : Fin 2)
  /-- CR_APPEND (R489): CR_CMD.GO appends a user cycle record entry. -/
  | crAppend (w : Req) (v : BitVec 32)
  /-- CR_FLUSH (R487): CR_CMD.FLUSH programmes the ring buffer. -/
  | crFlush (w : Req) (v : BitVec 32)
  /-- FLUSH_TIMEOUT (R487): FLUSH_MS after the first entry the ring buffer is programmed. -/
  | flushTimeout (cycle : Bool)
  /-- NAND_PROGRAMME_DONE (R486): A page programme completes, advancing DURABLE_RSEQ or retiring a bad block. -/
  | nandProgrammeDone (ok : Bool)
  /-- NAND_ERASE_DONE (R482): A block erase completes or fails. -/
  | nandEraseDone (ok : Bool)
  /-- RD_GO (R479): RD_CMD.GO reads ring entries into an SMW buffer. -/
  | rdGo (w : Req) (v : BitVec 32)
  /-- IMG_WR_GO (R494): IMG_WR.GO checks and programmes the staged image into a slot. -/
  | imgWrGo (w : Req) (v : BitVec 32)
  /-- IMG_WR_DONE (R494): The image programme and verify end, updating the boot record. -/
  | imgWrDone (prog verify : Bool)
  /-- SCRUB_SCAN (R485): The background scan reads pages and scrubs blocks over their limits. -/
  | scrubScan (b : Fin 4096) (bits unc corr : Nat)
  /-- ETHERNET_RECEIVE (R501): An accepted frame is written to the receive ring or dropped. `fcs`: good; `ts`: DT of the first bit in units of 0.8 ns; `fr`: the frame without FCS. -/
  | ethernetReceive (p : Fin 2) (fcs : Bool) (ts : Nat) (fr : List (BitVec 8))
  /-- NET_TX_GO (R502): NET_TX_CMD.GO queues a frame for transmission or refuses it. -/
  | netTxGo (w : Req) (p : Fin 2) (v : BitVec 32)
  /-- ETHERNET_FRAME_SENT (R502): A frame leaves the port and its buffer returns to PREV. `ts`: DT of the first bit in units of 0.8 ns. -/
  | ethernetFrameSent (p : Fin 2) (ts : Nat)
  /-- ETHERNET_LINK_CHANGE (R503): The Ethernet link changes state, setting LINK_CHG. -/
  | ethernetLinkChange (p : Fin 2) (up present los : Bool)
  /-- EVT_PEND_CLEAR (R504): A W1C write clears pending event bits. -/
  | evtPendClear (w : Req) (i : Fin 8) (v : BitVec 32)
  /-- EVT_VEC_ACK (R506): EVT_VEC_ACK re-arms an MSI-X vector. -/
  | evtVecAck (w : Req) (v : BitVec 32)
  /-- EVT_SET (R508): EVT_SET raises a doorbell event. -/
  | evtSet (w : Req) (v : BitVec 32)
  /-- EVT_ROUTE_WRITE (R507): A write of an event route, refused for other requesters or when locked. -/
  | evtRouteWrite (w : Req) (e : Fin 256) (v : BitVec 32)
  /-- MSIX_MESSAGE (R506): An armed vector with a pending event sends its message once all conditions hold. -/
  | msixMessage (k : Fin 32)
  /-- PERF_CLR (R514): PERF_CTRL.CLR clears all counters at the next L3 boundary. -/
  | perfClr (w : Req) (v : BitVec 32)
  /-- PERF_HIST_CLR (R514): PERF_CTRL.HIST_CLR clears all histogram bins at the next L3 boundary. -/
  | perfHistClr (w : Req) (v : BitVec 32)
  /-- SNAPSHOT_WRITE_DONE (R512): The counter snapshot set is written, passed to SNAP_TO and EVT[224] raised. -/
  | snapshotWriteDone
  /-- TAG_PC_READ (R516): A read of TAG_PC latches the tag record and frees it. -/
  | tagPcRead (w : Req) (n : Fin 16)
  /-- MODE_REQ_GO (R519): MODE_REQ.GO requests a mode, checked and made pending or refused. -/
  | modeReqGo (w : Req) (v : BitVec 32)
  /-- MODE_REQ_ABORT (R519): MODE_REQ.ABORT withdraws a pending request. -/
  | modeReqAbort (w : Req) (v : BitVec 32)
  /-- MODE_CHANGE (R520): A pending request takes effect at its boundary after re-checking, raising EVT[4]. -/
  | modeChange
  /-- MODE_REQUEST_TIMEOUT (R525): No valid reset pulse within MODE_TIMEOUT discards a waiting request. -/
  | modeRequestTimeout
  /-- POWER_ON_RESET (R544): The AON supply falls below threshold and a full reset clears retained state. the strap pins as RST_STRAP shows them. -/
  | powerOnReset (straps : BitVec 9)
  /-- SUPPLY_RESET (R557): A main rail fails while AON stays supplied, causing a full reset. -/
  | supplyReset (straps : BitVec 9)
  /-- RESET_N_ASSERT (R571): RESET_N low for 1 us or more causes a full reset. the straps, and the ns for which the pin has been low. -/
  | resetNAssert (straps : Held (BitVec 9))
  /-- PCIE_HOT_RESET (R571): PERST_N or a hot reset resets the HOST domain. -/
  | pcieHotReset
  /-- LIVE_WATCHDOG_EXPIRY (R544): The live centre watchdog resets the LIVE domain. -/
  | liveWatchdogExpiry
  /-- DEAD_CENTRE_DEMAND (R540): REF out of tolerance or PLL_MAIN unlocked over 10 us: STO in every zone and a demand reset. PLL_MAIN unlocked, or another of its causes. -/
  | deadCentreDemand (unlock : Bool)
  /-- SAFETY_RAM_ERROR (R544): An ECC or parity error in a safety parameter RAM resets that channel's domain. -/
  | safetyRamError (live : Bool)
  /-- IMAGE_SHADOW_ERROR (R43): A double-bit or parity error in the image shadow causes a system reset. -/
  | imageShadowError
  /-- ENGINE_PARITY_ERROR (R544): A parity error in control-engine parameter RAM causes a system reset. -/
  | engineParityError
  /-- DT_PARITY_ERROR (R544): A parity error in the DT registers causes a system reset. -/
  | dtParityError
  /-- SYS_RST (R544): RST_CTRL.SYS_RST requests a system reset. -/
  | sysRst (w : Req) (v : BitVec 32)
  /-- RST_BLK_WRITE (R549): A write of RST_BLK holds or releases domains. -/
  | rstBlkWrite (w : Req) (v : BitVec 32)
  /-- OPTION_LOAD_DONE (R552): The option area copy passes or both fail, setting OPTIONS_VALID or OPT_FAIL. -/
  | optionLoadDone
  /-- DOMAIN_RELEASE (R548): The sequencer releases the next domain once clock-good and its gap has passed. `good`: the domain is clock-good. -/
  | domainRelease (d : Fin 16) (good : Bool)
  /-- REF_QUALIFIED (R538): An external reference qualifies and REF switches to it. the selected source against the crystal, and the ns for which it has been within ±50 ppm. -/
  | refQualified (ppm : Held Int)
  /-- REF_LOST (R539): The external reference leaves tolerance or stops and REF falls back to the crystal. the selected source against the crystal, and the REF cycles for which it has stopped. -/
  | refLost (ppm : Held Int)
  /-- REF_RESTORE (R539): CLK_CMD.REF_RESTORE permits the switch back after requalification. -/
  | refRestore (w : Req) (v : BitVec 32)
  /-- NET_PLL_UNLOCK (R541): PLL_NET loses lock, taking both Ethernet links down. -/
  | netPllUnlock
  /-- CLOCK_GOOD_LOSS (R542): A released domain's clock-good falls, setting DOM_CLK. -/
  | clockGoodLoss (d : Fin 16)
  /-- LAT_TOL_WRITE (R560): A write of LAT_TOL re-evaluates the power state. -/
  | latTolWrite (w : Req) (v : BitVec 32)
  /-- CLOCK_RESTART (R561): In P1 a request to a stopped domain restarts its clock. -/
  | clockRestart (d : Fin 16)
  /-- CLOCK_IDLE_STOP (R561): A restarted clock stops again after 100 us without a request. -/
  | clockIdleStop (d : Fin 16)
  /-- WAKE_DONE (R562): A wake to P0 completes. -/
  | wakeDone
  /-- LEDGER_GRANT (R565): A waiting ledger request is granted when tokens are released or the budget changes. -/
  | ledgerGrant
  /-- THERMAL_SAMPLE (R567): Every 100 us T_DIE is measured against warn, throttle and trip limits. the die temperature in °C. -/
  | thermalSample (t : Int)
  /-- THROTTLE_CLEAR (R567): T_DIE 5 C below T_THROT for 1 s clears THROTTLE. -/
  | throttleClear
  /-- THERMAL_RELEASE (R568): After a trip the held domains are released once T_DIE is 100 C or below. -/
  | thermalRelease
  /-- TRIP_PIN_CHANGE (R95): A TRIP pin level changes and its qualified level, TRIP_PIN_LIVE and the activity of its trip source follow after QUAL counts. the pin's level, and the counts for which it has held. -/
  | tripPinChange (i : Fin 16) (level : Held Bool)
  /-- RET_DATA_READ (R556): A read of RET_DATA returns the retained word at RET_PTR and advances RET_PTR by 4. `bad`: the word has a double-bit error. -/
  | retDataRead (w : Req) (bad : Bool)
  /-- MEMORY_WINDOW_WRITE (R498): A host write into a BAR0 memory window: the image staging window, gouge core X and Y memory, capture RAM or the lower retained SRAM. At byte offset 4 × `a` of BAR0. -/
  | memoryWindowWrite (w : Req) (a : BitVec 24) (v : BitVec 32)
  /-- PCIE_LINK_CHANGE (R496): The PCIe link trains up or goes down, changing HOST_CFG.PCIE_UP, WIDTH and SPEED and the MSI-X sending conditions. width ×2^`width`; speed code `speed` + 1. -/
  | pcieLinkChange (up : Bool) (width speed : Fin 3)
  /-- PCIE_CONFIG_WRITE (R506): A host configuration write changes Bus Master Enable or the D0 or D3hot power state. -/
  | pcieConfigWrite (bme d3 : Bool)
  /-- NET_PLL_RELOCK (R541): PLL_NET locks again by itself, NET_LOCK returns to 1 and the Ethernet links may come up. -/
  | netPllRelock
  /-- NAND_READ_DONE (R479): A ring read started by RD_CMD completes, fills the buffer, returns it to PREV and sets RD_STAT. -/
  | nandReadDone (unc : Nat) (fix : NandFix) (raw : List (Nat × List (BitVec 8)))
  /-- STANDBY_EDGE_FRAME_SEND (R448): In the standby module an edge frame leaves its port PAIR_OFS counts after it is ready. -/
  | standbyEdgeFrameSend (n : Fin 16)
  /-- WAIT_RESUME (R305): A core in WAIT resumes issue when an enabled interrupt becomes pending, without vector entry while IE = 0. -/
  | waitResume (n : Fin 16)
  /-- ILLEGAL_INSTRUCTION (R296): An instruction word with a reserved class, opcode, field value or non-zero reserved field issues and raises the illegal-instruction exception. -/
  | illegalInstruction (n : Fin 16) (e : Ecc)
  /-- PPS_PULSE (R432): At each change of DT SEC with PPS_EN = 1, PPS_OUT goes high for 1 ms. -/
  | ppsPulse
  deriving DecidableEq, Repr

end Sys2Proof
end

