-- ==== Sys2Proof/Decode.lean ====
section
/-!
DEFINITION. Words of the command table. No row of spec/opcode_table.json gives bits: a command is a register access, a
frame or an event, and no word spells it.
-/
namespace Sys2Proof

/-- The command that a word spells by the table's bits: none (no row gives bits). -/
def decodeTableWord (_nbits _w : Nat) : Option Instr := none

end Sys2Proof
end

