-- ==== Sys2Proof/Machine/Sparse.lean ====
section
/-!
DEFINITION. Sparse storage by number: a list of (key, value) pairs with a default for every key that is not listed.
Register windows, memories and per-instance state are all kept this way, in one canonical form.
-/
namespace Sys2Proof.Machine

/-- A finite list of the cells that differ from their default. -/
structure Sparse (α : Type) where
  cells : List (Nat × α)
  deriving DecidableEq, Repr, Inhabited

/-- The first value listed under a key. -/
def lookupCell {α : Type} (k : Nat) : List (Nat × α) → Option α
  | [] => none
  | (j, v) :: t => if j = k then some v else lookupCell k t

/-- A list without the cells of a key. -/
def dropCell {α : Type} (k : Nat) : List (Nat × α) → List (Nat × α)
  | [] => []
  | (j, v) :: t => if j = k then dropCell k t else (j, v) :: dropCell k t

/-- A cell put in front of the first larger key. -/
def insertCell {α : Type} (k : Nat) (v : α) : List (Nat × α) → List (Nat × α)
  | [] => [(k, v)]
  | (j, w) :: t => if k < j then (k, v) :: (j, w) :: t else (j, w) :: insertCell k v t

/-- The value at a key whose default is `d`. -/
def Sparse.getD {α : Type} (m : Sparse α) (k : Nat) (d : α) : α := (lookupCell k m.cells).getD d

/-- The map with `v` at a key whose default is `d`: writing the default removes the cell. -/
def Sparse.put {α : Type} [DecidableEq α] (m : Sparse α) (k : Nat) (v d : α) : Sparse α :=
  if v = d then ⟨dropCell k m.cells⟩ else ⟨insertCell k v (dropCell k m.cells)⟩

/-- Per-instance state: the default of every instance is its value after reset, all of whose fields are zero, false or empty but
those whose declaration names another. -/
def Sparse.get {α : Type} [Inhabited α] (m : Sparse α) (k : Nat) : α := m.getD k default

/-- Per-instance state with instance `k` replaced. -/
def Sparse.set {α : Type} [DecidableEq α] [Inhabited α] (m : Sparse α) (k : Nat) (v : α) : Sparse α :=
  m.put k v default

/-- The map without the cells whose keys satisfy `p`: those keys are back at their default. -/
def Sparse.clearIf {α : Type} (p : Nat → Bool) (m : Sparse α) : Sparse α := ⟨m.cells.filter (fun c => !p c.1)⟩

/-- The map with `f` applied to every cell; a cell that becomes its default is removed. -/
def Sparse.update {α : Type} [DecidableEq α] (f : Nat → α → α) (d : Nat → α) (m : Sparse α) : Sparse α :=
  ⟨m.cells.filterMap (fun c => if f c.1 c.2 = d c.1 then none else some (c.1, f c.1 c.2))⟩

/-- Canonical form: keys strictly rising, and no cell equal to the default of its key. -/
def Sparse.wf {α : Type} [DecidableEq α] (m : Sparse α) (d : Nat → α) : Bool :=
  decide (m.cells.Pairwise (fun a b => a.1 < b.1)) && m.cells.all (fun c => decide (c.2 ≠ d c.1))

/-- A memory: bytes by address; a byte that is not listed reads 0 (log entry 5). -/
abbrev Memory := Sparse (BitVec 8)

/-- The canonical form of a memory: addresses strictly rising, and no listed byte equal to what an unlisted one reads
as. -/
def Memory.wf (m : Memory) : Bool := Sparse.wf m (fun _ => 0)

end Sys2Proof.Machine
end

