-- ==== Sys2Proof/Machine/Content.lean ====
section
/-!
DEFINITION. What the sections of a grain image set (R35), as the chapters of the blocks state it. Sections whose byte
layout is public are parsed byte by byte in Image.lean; for the others (R584) this is the content that the private
layout carries. A section that only loads registers is a list of (BAR0 offset, word).
-/
namespace Sys2Proof.Machine

/-- An axis slot in TOPOLOGY (R15, R62, R149, R196). -/
structure AxisTopo where
  used : Bool
  arm : Nat            -- 0-7, 8 = auxiliary
  jnt : Nat            -- position in the arm's chain
  ainA : Nat
  ainB : Nat
  cfgA : Nat           -- MUX and GAIN of the inputs, as a CH_CFG word
  cfgB : Nat
  ainDc : Nat          -- DC-link input of a local axis
  fb : Nat
  isLocal : Bool
  lpg : Nat            -- local group of a local axis, 0-7
  queue : Nat          -- setpoint queue, 16 = none
  qpos : Nat           -- position in the queue
  deriving DecidableEq, Repr, Inhabited

/-- A setpoint queue in TOPOLOGY (R196). -/
structure QueueTopo where
  used : Bool
  axes : List Nat
  stopArm : Nat        -- arm whose stop demand acts on it, 15 = none
  deriving DecidableEq, Repr, Inhabited

/-- A brick port in BRICK (R35): the axis at each position (64 = none), the STO zone. -/
structure BrickTopo where
  used : Bool
  axes : List Nat
  zone : Nat
  deriving DecidableEq, Repr, Inhabited

/-- A local group in LOCAL_GROUP (R87, R191): mode as GRP_CFG.MODE, the stepper's current inputs, the STO zone. -/
structure LocalTopo where
  mode : Nat
  ainA : Nat
  ainB : Nat
  zone : Nat
  deriving DecidableEq, Repr, Inhabited

/-- GAIN_SCHED of an axis (R170, R171): the two variables, and a set of the seven gains per region. -/
structure GainSched where
  used : Bool
  varA : Nat
  na : Nat
  bpA : List Int
  hysA : Int
  varB : Nat
  nb : Nat
  bpB : List Int
  hysB : Int
  sets : List (List Int)  -- by REGION: KP_POS, KP_VEL, KI_VEL, KP_D, KI_D, KP_Q, KI_Q
  deriving DecidableEq, Repr, Inhabited

/-- A tile of the class S schedule (R245). `base`: value-memory index of its first VALID entry (R247). -/
structure Tile where
  out : Nat
  first : Bool
  last : Bool
  phase : Nat
  eM : Int
  seg : Nat
  cols : List Nat              -- column offsets of its VALID entries, in order
  base : Nat
  deriving DecidableEq, Repr, Inhabited

/-- A class B slot (R244). -/
structure BSlot where
  op : Nat
  n : Nat
  m : Nat
  nrhs : Nat
  eMat : Int
  eRhs : Int
  eSol : Int
  eFac : Int
  deriving DecidableEq, Repr, Inhabited

/-- An assembly run (R257). -/
structure ARun where
  dest : Nat
  target : Nat
  count : Nat
  stride : Int
  word : Nat                   -- frame word offset, or the constant
  kind : Nat
  wgroup : Nat
  deriving DecidableEq, Repr, Inhabited

/-- FACE_SCHED (R243-R245, R257). Parameters are kept in the format of R228. -/
structure FaceSched where
  n : Nat
  m : Nat
  nnzP : Nat
  nnzA : Nat
  nnzOp : Nat
  preOff : Nat
  hash : Nat
  maxIterCyc : Nat
  rhoMin : Nat
  rhoMax : Nat
  sigmaMin : Nat
  sigmaMax : Nat
  wMax : Nat
  pivFloor : Nat
  bCost : Nat
  segN : List Nat              -- segment lengths
  segM : List Nat
  exps : List (List Int)       -- per vector, per segment
  accE : List (List Int)       -- per phase, per output segment
  blocks : List Nat            -- block sizes
  rows : List Nat              -- row types
  tiles : List Tile
  slots : List BSlot
  runs : List ARun
  deriving DecidableEq, Repr, Inhabited

/-- CELL_WEIGHTS (R237). -/
structure CellWeights where
  sigma : Nat
  rho : Nat
  rhoEq : Nat
  alpha : Nat
  ncg : Nat
  cgEps : Nat
  epsAbs : Nat
  epsRel : Nat
  admmMax : Nat
  resEvery : Nat
  weight : List Nat
  deriving DecidableEq, Repr, Inhabited

/-- The MODEL of an arm (R251), as its data words. -/
structure ArmModel where
  used : Bool
  nj : Nat
  screws : List (List Int)     -- per joint: ω x y z, v x y z
  ofs : List Int
  jscale : List Int
  caps : List (List Int)       -- per capsule: LINK, end 0 x y z, end 1 x y z, radius
  links : List (List Int)      -- per link: mass, centre x y z, Ixx Iyy Izz Ixy Ixz Iyz
  grav : List Int
  deriving DecidableEq, Repr, Inhabited

/-- The cascade part of TOPOLOGY (R463, R468). `shared`: local unknown and consensus index, by consensus index; `maps`:
the consensus indices of each position, for the master. -/
structure CascTopo where
  pos : Nat
  npos : Nat
  rounds : Nat                 -- 0 = no consensus split
  rho : Nat
  shared : List (Nat × Nat)
  maps : List (List Nat)
  deriving DecidableEq, Repr, Inhabited

/-- A robot arm in the SSM model (R364): lengths in mm, angles in radians. -/
structure SsmJoint where
  screw : List Rat             -- ω x y z, v x y z
  zero : Int                   -- hub LSB
  scale : Rat                  -- radians per hub LSB
  deriving DecidableEq, Repr, Inhabited

structure SsmCap where
  link : Nat                   -- joint whose motion carries it; 8 = the base
  p0 : List Rat
  p1 : List Rat
  radius : Rat
  deriving DecidableEq, Repr, Inhabited

structure SsmModel where
  base : SsmJoint              -- the base axis, where SSM_ARM_CFG.BASE_AX = 1
  baseHub : Nat × Nat          -- arm whose hub frame reports it, and the joint position in that frame
  joints : List SsmJoint
  caps : List SsmCap
  deriving DecidableEq, Repr, Inhabited

/-- A bit of a safety frame that a remote function reads (R345). -/
structure RemBit where
  fn : Nat
  ch : Nat
  frame : Nat
  bitNo : Nat
  deriving DecidableEq, Repr, Inhabited

/-- What the SAFETY section holds beside the values mirrored in SAFE registers. -/
structure SafeTopo where
  regs : List (Nat × Nat)      -- the mirrors of R363
  remote : List RemBit
  hubs : List (Nat × Nat)      -- (arm, FRAME_ID) of the arm hubs (R430)
  sensors : List (Nat × Nat × Nat) -- (sensor, FRAME_ID, node)
  conn : List (Nat × Nat)      -- (FRAME_ID, CONN_ID) of every safety frame (R428)
  ageMax : Nat                 -- SAFE_AGE_MAX, µs (R429)
  collab : Nat                 -- mask of collaborative zones (R394)
  models : List SsmModel       -- by arm
  deriving DecidableEq, Repr, Inhabited

/-- PORTAL section of a portal (R382). Lengths in increments, times in ms, currents in mA. -/
structure PortTopo where
  used : Bool
  kind : Nat                   -- MOTOR_KIND
  brake : Bool
  lpg : Nat
  ain : Nat                    -- the single current input of kinds 1 and 2
  posLs : Bool                 -- POS_SRC
  fb : Nat                     -- 64-71
  zone : Nat
  closedLs : Nat               -- field inputs and outputs (R385, R382)
  openLs : Nat
  runOpen : Nat
  runClose : Nat
  travel : Nat                 -- travel speed, increments per second
  creep : Nat
  creepDist : Nat
  accel : Nat                  -- increments per second squared
  gains : List Int             -- velocity loop
  travelMax : Nat
  brakeT : Nat
  obsN : Nat
  marginRel : Rat
  marginAbs : Nat
  iStart : Nat
  startBlank : Nat
  learnScale : Rat
  iFix : Nat
  revDist : Nat
  lockT : Nat
  unlockTo : Nat
  curScale : Rat               -- mA per code
  posOpen : Int
  deriving DecidableEq, Repr, Inhabited

/-- A slot of the Sertik schedule (R406): kinds 0 PRIMARY, 1 DUAL, 2 TWIN, 3 FAILOVER, 4 FILL. -/
structure SrtSlot where
  owner : Nat
  frame : Nat
  len : Nat
  kind : Nat
  deriving DecidableEq, Repr, Inhabited

/-- SERTIK section (R406). -/
structure SrtTopo where
  used : Bool
  node : List Nat              -- node ID by pair member
  idx : List Nat               -- coldstart index by pair member
  csNodes : List Nat           -- node that holds coldstart index 0, 1, 2; 32 = none
  schedId : Nat
  prop : Nat                   -- ns
  chA : List SrtSlot           -- slots 4-67
  chB : List SrtSlot
  claimants : List Nat
  heart : List Nat             -- FRAME_IDs with SRC = HEARTBEAT, by member
  referee : Nat                -- FRAME_ID of the referee's frame (R454), 256 = none
  guardOk : Bool               -- the two copies of the slot table agree (R414)
  deriving DecidableEq, Repr, Inhabited

-- CFG BEGIN
/-- The content of the image in force, as the blocks use it. -/
structure Cfg where
  burstN : Nat                 -- TIMING (R36)
  roughEnd : Nat
  solveDl : Nat
  axes : List AxisTopo
  queues : List QueueTopo
  bricks : List BrickTopo
  locals : List LocalTopo
  gains : List GainSched
  face : FaceSched
  weights : CellWeights
  models : List ArmModel       -- by arm
  casc : CascTopo
  safe : SafeTopo
  portals : List PortTopo
  srt : SrtTopo
  deriving DecidableEq, Repr, Inhabited
-- CFG END

/-! ### Sections whose byte layout is private (R584) -/

/-- Bits of one register that a section sets: the bits of `mask` take their values from `val`. -/
structure RegSet where
  addr : Nat
  mask : Nat
  val : Nat
  deriving DecidableEq, Repr, Inhabited

/-- What a section carries: its content, the register bits that it sets, and whether it describes one of its slots, groups
or channels twice (R40, step 14). -/
structure Sec (α : Type) where
  body : α
  regs : List RegSet
  twice : Bool
  deriving Inhabited

/-- TOPOLOGY: axes by slot, queues by number, the cascade part, and the pair values of R448. -/
structure TopoSec where
  axes : List AxisTopo
  queues : List QueueTopo
  casc : CascTopo
  alignTol : Nat
  pairOfs : Nat
  deriving Inhabited

end Sys2Proof.Machine
end

