-- ==== Sys2Proof/Config.lean ====
section
/-!
DEFINITION. What the spec leaves open, as constants without a body: free values (nothing constrains them), and the
algorithms and private layouts that the spec names but does not write out (SHA-256, Ed25519, the
section bodies of R584). No proof can see what any of them is.
-/
namespace Sys2Proof.Config
open Sys2Proof.Machine

/-- A fresh free value: the model reads it at the counter `State.freeN`, which then advances (log entry 2). -/
opaque freeValue : Nat → BitVec 64

/-- Whether the increment of DT for a RATE is rounded up in its last fraction bit, where it is not exact (R432 states
no rounding; log entry 6). -/
opaque dtIncrUp : Int → Bool

/-- SHA-256 of a byte string (R32, R37): the spec names the algorithm and does not restate it. -/
opaque sha256 : List Byte → List Byte

/-- Ed25519 verification of a signature over a message under a public key (R38). -/
opaque ed25519 : (key msg sig : List Byte) → Bool

/-- AES-CMAC or whichever MAC the key store uses over the anti-rollback floor: the spec names no algorithm. -/
opaque macOk : (key msg mac : List Byte) → Bool

/-- The code after converter correction, from a raw code and the offset and gain corrections in force: the spec gives
the units of the corrections and states no formula (R55; log entry 8). -/
opaque convCorr : (raw ofs gain : Int) → Int

/-- Whether the Faceplate rounds the scalar num/den, scaled to its mantissa, up where it is not exact (R227 states no
rounding; log entry 23). -/
opaque scalarUp : (num : Int) → (den : Nat) → Bool

/-- Which of the results within 1 LSB of the exact num/den a divide unit gives (R222; log entry 23). -/
opaque divideErr : (num : Int) → (den : Nat) → Int

/-- The error of an entry of a preconditioner block's inverse, in LSB: R235 states no precision for the factorisation
(log entry 23). -/
opaque precondErr : (num : Int) → (den : Nat) → Int

/-- A quotient whose divisor is 0, which R238-R241 do not exclude (log entry 23). -/
opaque divideByZero : (num : Int) → (den : Nat) → Int

/-- Whether C after a subtraction of the gouge cores is the borrow or its complement: R299 names the flag and no
convention (log entry 27). -/
opaque subCarryIsBorrow : Bool

/-- The words of the gouge cores' boot ROM: R306 gives what it does and no content (log entry 27). -/
opaque bootRom : Nat → BitVec 32

/-- What a safety channel's arithmetic adds to a length or speed num/den: sixteenths of a mm in the dead centre, multiples of
2^-16 in the live centre (R365 names the methods and no precision; log entry 32). -/
opaque ssmErr : (live : Bool) → (num : Int) → (den : Nat) → Int

/-- Whether a portal's measured current num/den mA is rounded up where it is not exact (R383 states no rounding; log entry
33). -/
opaque portUp : (num : Int) → (den : Nat) → Bool

/-- The RATE_ADJ that a Fyver follower's hardware chooses from the one in force and the offset in ns: R465 gives its goal
and no law (log entry 36). -/
opaque fyvServo : (adj ofs : Int) → Int

/-! ### Section bodies with a private layout (R584; log entry 37)

What a body carries, from its SECT_VER and its bytes; none where a value lies outside its range or reserved content is
not 0. -/

opaque parseTopology : Nat → List Byte → Option (Sec TopoSec)
opaque parseBrick : Nat → List Byte → Option (Sec (List BrickTopo))
opaque parseLocal : Nat → List Byte → Option (Sec (List LocalTopo))
opaque parseScale : Nat → List Byte → Option (Sec Unit)
opaque parseGains : Nat → List Byte → Option GainSched
opaque parsePwmTiming : Nat → List Byte → Option (Sec Unit)
opaque parseSertik : Nat → List Byte → Option SrtTopo
opaque parseZone : Nat → List Byte → Option Unit
opaque parsePortal : Nat → List Byte → Option PortTopo
opaque parseLimits : Nat → List Byte → Option (Sec Unit)
opaque parseCalRef : Nat → List Byte → Option (List Nat)
opaque parseSafety : Nat → List Byte → Option (Sec SafeTopo)

end Sys2Proof.Config
end

