-- ==== Sys2Proof/Machine/Parts.lean ====
section
/-!
DEFINITION. The state that the spec gives each block beside its registers: queues, timers, latches, positions of
sequencers, contents of buffers. One structure per block; every field's value after a reset of the block's domain is
zero, false or empty unless State.lean says otherwise.
-/
namespace Sys2Proof.Machine
open Sys2Proof

/-- The option and trim area's content, one copy (R551): converter trims, key store (R38), identities, power-on
`RST_GAP`. `good` stands for the copy's CRC-32C being correct. -/
structure OptArea where
  good : Bool
  trims : List Nat            -- CONV_CORR[0..7] (R71)
  deadTrim : Nat              -- dead centre oscillator trim
  imgKeys : List (List Byte)  -- four image public keys, [] = not programmed
  safeKeys : List (List Byte) -- two safety public keys
  revoked : Nat               -- bits 0-3 image keys, bits 4-5 safety keys
  safetyFloor : Nat           -- SAFETY_VER floor (R38)
  subsys : Nat                -- PCIe subsystem IDs
  mac0 : Nat
  mac1 : Nat                  -- Ethernet MAC addresses of both ports, 48 bits each
  gap : Nat                   -- RST_GAP for power-on
  deriving DecidableEq, Repr, Inhabited

/-- A patch in progress (R45-R48): `data` and `crc` are taken from the buffer when its checks start. -/
structure PatchJob where
  buf : Nat
  prevOwner : Nat
  ty : Nat
  inst : Nat
  off : Nat
  data : List Byte
  crc : Nat
  checkedNs : Nat
  len : Nat                   -- LENGTH as the record gives it
  deriving DecidableEq, Repr, Inhabited

/-- State of the grain image loader, the patch engine and the mode machine that no register shows. -/
structure SysH where
  loading : Bool              -- an accepted load is in progress (R39)
  loadSrc : Nat               -- the source of the attempt in progress, coded as IMG_CTRL.SRC
  secondTry : Bool            -- the second attempt of R42 is in progress
  stageLen : Nat              -- bytes written into the host staging window
  patch : PatchJob
  reqNs : Nat                 -- DT of acceptance of the mode request that waits (R525)
  reqPulse : Bool             -- a valid group-0 reset pulse has acted for the waiting request (R525)
  bootPend : Bool             -- the boot load of R523 has not been started since the last entry into M0
  deriving DecidableEq, Repr, Inhabited

/-- Reset sequencer (R546-R550). -/
structure RstH where
  seq : List Nat              -- domains still to be released, in release order
  reach : Nat                 -- mask of the running reset's reach
  size : Nat                  -- number of domains of the recorded source's own reach (R546)
  holdTick : Sparse Nat       -- per domain: CTL edges + 1 counted when it was put into reset (R550)
  gapTick : Nat               -- CTL edges + 1 counted at the latest release of the sequence, or at OPTIONS_VALID (R548)
  relWait : List Nat          -- domains released by RST_BLK inside the time of R550
  cause : Nat
  inst : Nat
  coolHold : Bool             -- released only at T_DIE <= 100 °C (R568)
  wakeSeq : Bool              -- a wake from P3: released as after a reset, none recorded
  gens : Sparse Nat           -- transaction generation tags (R554), by requester code
  coreWdNs : List (Nat × Nat) -- core and DT ns + 1 of its last watchdog reset (R544, code 0x06)
  deriving DecidableEq, Repr, Inhabited

/-- Clock tree state (R537-R542). -/
structure ClkH where
  restoreArmed : Bool         -- CLK_CMD.REF_RESTORE has been written (R539)
  switchedOnce : Bool         -- the automatic switch of R538 has happened
  deriving DecidableEq, Repr, Inhabited

/-- A ledger request that waits (R565). `cls` is the class, `id` says which user of the class. -/
structure LedReq where
  cls : Nat
  id : Nat
  tok : Nat
  atNs : Nat
  deriving DecidableEq, Repr, Inhabited

/-- Tokens held by one operation. -/
structure LedHold where
  cls : Nat
  id : Nat
  tok : Nat
  deriving DecidableEq, Repr, Inhabited

/-- Power states, ledger and thermal monitor (R558-R568). -/
structure PwrH where
  waiting : List LedReq       -- in order of arrival
  holding : List LedHold
  restarted : Nat             -- in P1: domains whose clock runs again (R561)
  reqAt : Sparse Nat          -- domains 0-15: DT ns + 1 of the latest request to one whose clock runs again (R561)
  thermNs : Nat               -- DT ns + 1 of the latest measurement of T_DIE (R567)
  coolFrom : Nat              -- DT ns + 1 since which T_DIE lies 5 °C or more below T_THROT, 0 = it does not
  deriving DecidableEq, Repr, Inhabited

/-- Device time (R432): `dt` counts 2^-32 ns. -/
structure TimeH where
  dt : Nat
  ticks : Nat                 -- CTL edges counted so far
  slewing : Int               -- rate added by the slew, in 2^-40
  slewLeft : Int              -- remainder of the slew in 2^-32 ns
  rate : Int                  -- RATE_ADJ in force, in 2^-40 (differs from the register only in the ramp of R421)
  startArmed : Bool           -- RUN = 1, generator not yet started (R437)
  startNs : Nat               -- the starting instant
  bnd : Nat                   -- instant of the latest boundary event, ns
  l0next : Nat                -- nominal instant of the next reload, ns
  l1next : Nat                -- no L1, L2, L3 boundary comes before these instants, ns
  l2next : Nat
  l3next : Nat
  gmLatch : Bool              -- GM_ID is to be latched from the next Announce (R444)
  syncNs : Nat                -- DT ns of the last Sync message on the servo port, or of the write of SRC (R444)
  txts : Sparse (List (Nat × Nat × Nat)) -- per port: (FRAME_TAG, NS, SEC) oldest first (R443)
  ppsNs : Nat                 -- DT ns + 1 of the latest rise of PPS_OUT; the line is high for 1 ms from it
  deriving DecidableEq, Repr, Inhabited

/-- Event array and MSI-X (R504-R508). -/
structure EvtH where
  disarmed : Nat              -- bit v = vector v has sent and is not re-armed
  lastMsg : Sparse Nat        -- per vector: DT ns of the last message + 1, 0 = none
  raisedAt : Sparse Nat       -- per event: DT ns of its raise + 1
  bme : Bool                  -- Bus Master Enable
  d3 : Bool                   -- D3hot
  sent : Sparse Nat           -- per vector: messages sent (the host's view of the link)
  capTrig : Bool              -- the trigger that an armed ADC capture waits for has occurred (R81)
  ccTrig : Bool               -- the same of the engine capture (R179)
  deriving DecidableEq, Repr, Inhabited

/-- Counters, histograms and the tag units (R511-R516). -/
structure PerfH where
  pc : Sparse Nat             -- key 8 b + c: PC[b][c], modulo 2^48
  clrPend : Bool
  histClrPend : Bool
  snapIdx : Nat               -- next set of the ring
  latchPc : Sparse Nat        -- the counters latched for the set being written
  latchHist : Sparse Word
  latchValid : Nat
  latchSeq : Nat
  latchNs : Nat
  snapAt : Nat                -- first buffer of the set that takes the latch
  snapBusy : Bool
  deriving DecidableEq, Repr, Inhabited

/-- The model's record of how the last access was answered (log entry 3): not a register of the module. -/
inductive Answer | nothing | data (v : Nat) | completerAbort | unsupported | busError
  deriving DecidableEq, Repr, Inhabited

/-- One channel of one freeze (R54-R60): 4 × raw′ before channel correction, the corrected value, and its tags. -/
structure FrzCh where
  raw4 : Int
  val : Int
  clip : Bool
  use : Bool                  -- contributes: not discarded under R59
  settling : Bool
  deriving DecidableEq, Repr, Inhabited

/-- One freeze of the burst in progress. -/
structure Freeze where
  ref : Bool                  -- the reference was settled at the freeze
  fault : Bool                -- ADC_FAULT stood at the freeze (R72)
  ch : List FrzCh
  deriving DecidableEq, Repr, Inhabited

/-- A burst result kept in a channel's filter window (R61): value and the tags VALID, SETTLING, REF_UNSETTLED, CLIP. -/
structure WinRes where
  val : Int
  valid : Bool
  settling : Bool
  unset : Bool
  clip : Bool
  mux : Bool                  -- a freeze of the burst fell in the interval of R59
  deriving DecidableEq, Repr, Inhabited

/-- One analog channel. -/
structure AdcCh where
  loaded : Bool               -- the effective words below differ from the reset words
  cfg : Nat                   -- CH_CFG in force (R58)
  coef : Nat                  -- CH_COEF in force
  pend : Bool                 -- a write waits for the next L0 boundary
  disc : Nat                  -- freezes still to be discarded (R59)
  settle : Nat                -- freezes still settling (R60)
  win : List WinRes           -- burst results, newest first, at most 256 (R61)
  phase : Nat                 -- burst results since the last filter output
  decAge : Nat                -- burst results that still settle after a change of DEC
  calDef : Bool               -- the CAL_DEFAULT state (R76)
  above : Bool                -- comparator directions (R77)
  below : Bool
  calSum : Int                -- system calibration accumulators (R73)
  calSq : Int
  zero : Int                  -- O of the last ZERO step
  saveCoef : Nat              -- CH_COEF and CAL_DEFAULT before step 1 (R74)
  saveDef : Bool
  slot : Nat                  -- latest burst result word, as the axis result slots take it (R52)
  deriving DecidableEq, Repr, Inhabited

/-- State of the sampling block. -/
structure AdcH where
  ch : Sparse AdcCh
  burst : List Freeze         -- freezes of the burst in progress, in order
  lastBurst : List Freeze     -- freezes of the last complete burst since the reload (R195)
  serving : List Nat          -- converters in service at the first freeze of the burst (R68)
  corr : List (Int × Int)     -- corrections (offset, gain) in force at the first freeze
  refNs : Nat                 -- DT ns + 1 of the write that started the 2 ms of R64, while they run
  rotNext : Nat               -- converter that leaves next or has left
  rotWant : Bool              -- a rotation step waits for its token
  chkConv : Nat               -- converter under check while one has failed (R71)
  chkRun : Bool               -- that check runs
  calStep : Nat               -- 0 none, 1 ZERO, 2 FS, 3 SAVE
  calN : Nat                  -- burst results averaged so far
  calZeroed : Bool            -- a ZERO_DONE stands for the range below
  calFirst : Nat
  calCount : Nat
  calBegun : Bool             -- step 1 has been started and its coefficients are kept for ABORT
  saveId : Nat                -- REC_ID of the record that SAVE writes
  postLeft : Nat              -- records still to be written after the trigger (R81)
  deriving DecidableEq, Repr, Inhabited


/-- One pair of a carrier group (R85): the commanded level S, the two gates, and the edges still to be made, as
(timebase count of the period, high side, on). -/
structure PwmPair where
  lvl : Bool
  hi : Bool
  low : Bool
  due : List (Nat × Bool × Bool)
  hiOff : Int                 -- count at which the high-side gate last turned off (R100), below 0 in earlier periods
  deriving DecidableEq, Repr, Inhabited

/-- One carrier group. -/
structure PwmGrp where
  p0 : PwmPair
  p1 : PwmPair
  p2 : PwmPair
  p3 : PwmPair
  drive : Bool                -- the user of pairs 0-2 (0-3 in STEPPER) lets its gates switch
  held : Bool                 -- cleared, in its trip state until the next reload (R103)
  lateMain : Bool             -- ready mark set in the guard window: waits one reload more (R90)
  lateSpare : Bool
  ackWait : Bool              -- remote: dead times await the brick's acknowledgement (R115)
  deriving DecidableEq, Repr, Inhabited

structure PwmH where
  grp : Sparse PwmGrp
  reloadTick : Nat            -- CTL edge (`TimeH.ticks`) of the latest reload
  relNs : Nat                 -- its nominal L0 boundary in ns, plus 1
  mid : Nat                   -- count M of the present period at the rate in force (R83)
  per : Nat                   -- count P
  midDt : Nat                 -- DT (2^-32 ns) that M and P wait for
  perDt : Nat
  reloads : Nat
  pinLow : Nat                -- bit i = qualified level of TRIP[i] is low (R95)
  gotPulse : Bool             -- SYNC_IN measured since the last reload (R105)
  syncErr : Int
  errRun : Nat                -- consecutive periods with excess error
  missRun : Nat               -- consecutive periods without a pulse
  syncOuts : Nat              -- SYNC_OUT pulses driven (R104)
  edgeTick : Sparse Nat       -- per blanking channel: CTL edge of the latest edge that opened its window, plus 1 (R96)
  latchDt : Nat               -- DT (2^-32 ns) of the latest group trip that opened windows (R96, R97)
  latchOpen : List Nat        -- the blanking channels it opened
  deriving DecidableEq, Repr, Inhabited

/-- One brick port (R107-R125). -/
structure BlkPort where
  cfgId : Nat
  bank : Nat                  -- dead-time bank in use at the brick
  bankWant : Nat              -- bank that the module's active dead times stand in
  frBank : Option Nat         -- DT_BANK of the edge frame sent for the coming reload (R115)
  cfgDt : List Nat            -- the twelve dead-time words of the configuration frame that waits
  tx : List (Nat × Nat)       -- frames leaving the port in order: DT ns at which each has left, TRIP sets inserted into it
  tripQ : List Nat            -- TD of the trip commands that wait behind the first of them, oldest first (R109)
  lastTd : Nat                -- TD of the last TRIP set sent
  tripSets : Nat              -- TRIP sets sent
  lastFrame : List Byte       -- the last edge frame sent
  frames : Nat                -- edge frames sent
  lastCfgFrame : List Byte
  standbyFrame : List Byte    -- edge frame ready, to leave PAIR_OFS counts later (R448)
  readyTick : Nat             -- CTL edge at which it became ready
  lastStat : Nat              -- DT ns of the last valid status frame, or of the port turning UP
  okStat : Bool               -- a valid status frame has arrived since the port last turned UP (R122, R158, R165)
  otFlags : Nat               -- OT of positions 0-3, BRICK_FAULT in bit 4, of the last valid frame
  faults : Nat                -- bit a = DESAT, OC or GATE_UV of position a
  stoFb : Bool
  stoNs : Nat                 -- DT ns + 1 since which STO_FB differs from the zone's votes, 0 = it agrees (R123)
  trainNs : Nat               -- DT ns at which TRAIN was entered (R124)
  offState : Bool
  deriving DecidableEq, Repr, Inhabited

structure BlkH where
  port : Sparse BlkPort
  deriving DecidableEq, Repr, Inhabited

/-- One feedback channel (R126-R148). Times are in CTL counts of 2.5 ns (`TimeH.ticks`). -/
structure FbCh where
  track : Bool                -- filtered levels
  phase : Bool
  skipTrack : Bool            -- extra tooth: the TRACK edge that follows is not counted (R130)
  pos : Int                   -- integer increments, modulo 2^32 as signed
  times : List Nat            -- instants of the last five counted edges, newest first
  still : Bool                -- holds the fraction since STILL or a wire condition
  fracHold : Nat
  edgesSince : Nat            -- counted edges since enable or STILL, at most 2
  lastEdge : Nat              -- instant of the last counted edge (R138)
  busyTick : Nat              -- instant + 1 of the latest edge or write of CMP_VAL: the next edge comes at a later count
  lastRise : Nat              -- instant of the last rising TRACK edge + 1, 0 = none
  lastReg : Nat               -- the same of the last one that R130 does not leave out
  regular : Nat               -- regular period in counts, 0 = none measured yet (R129)
  skipTest : Bool             -- the present period follows a detection
  dirs : List Nat             -- direction codes of the last periods, newest first: 1 forward, 2 reverse, 3 mixed
  curDir : Nat                -- code of the present period, 0 = no edge yet
  lastWasPhase : Bool         -- the last filtered edge was of PHASE
  gapProv : Bool              -- that PHASE edge was counted against the motion and may lie in a gap (R130)
  provDir : Nat               -- direction code before it
  refPt : Int                 -- reference point of the missed-reference test (R133)
  run : Nat                   -- consecutive mismatches
  wSteps : Nat                -- weight W in steps of 1/BLEND_N (R140)
  bndL2 : Int                 -- integer part of POS_BND at the previous L2 boundary (R147)
  xRun : Nat                  -- consecutive exceedances
  xDiff : Int                 -- difference of the last check, not saturated (R142, R147)
  alignPend : Bool
  pulse : Bool                -- compare line high
  pulseNs : Nat               -- DT ns of the latest pulse
  deriving DecidableEq, Repr, Inhabited

structure FbH where
  ch : Sparse FbCh
  bndNs : Nat                 -- DT ns + 1 of the L0 boundary of the latest POS_BND
  deriving DecidableEq, Repr, Inhabited

/-- Field side of the 24 V inputs and outputs (R471-R476). -/
structure DioH where
  silent : Nat                -- SILENT latched at the field side, bit per group
  uv : Nat                    -- UV_LATCH at the field side
  cmpOn : Nat                 -- outputs held on by a compare pulse (R474)
  cmpNs : Sparse Nat          -- DT ns of the latest pulse of each
  portOut : Nat               -- outputs that the portal block drives on (R384)
  lastRefresh : Sparse Nat    -- per group: DT ns of the last good refresh frame
  foOn : Nat                  -- outputs that are on, as switched at the field side
  tickNs : Nat                -- DT ns of the latest refresh (R471)
  uvFrom : Sparse Nat         -- per group: DT ns since which every sample lies below 16 V, 0 = the last one does not (R476)
  okFrom : Sparse Nat         -- per group: DT ns since which every sample lies at or above 19.2 V with no new latch
  deriving DecidableEq, Repr, Inhabited


/-- The L1 results computed for a boundary, committed one L1 period later (R152). -/
structure L1Next where
  ok : Bool
  id : Int
  iq : Int
  posRef : Int
  velRef : Int
  velAct : Int
  posErr : Int
  satVel : Bool
  iv : Int
  deriving DecidableEq, Repr, Inhabited

/-- One axis slot of the control engine. Signals are in units of 2^-28 pu (R154). -/
structure AxH where
  iD : Int                    -- integrators, Q19.28
  iQ : Int
  iV : Int
  vdc : Int                   -- VDC_pu of the last L0 update
  ia : Int                    -- phase currents of the last L0 update
  ib : Int
  iqInj : Int                 -- IQ_REF including the injection
  lastBad : Bool              -- the last update's sample was unusable (R169)
  l0Old : Option (Int × Int)  -- old KP_D and KP_Q: a preset waits (R173)
  l1Old : Option (Int × Int)  -- old KP_POS and KP_VEL
  tau : Nat                   -- τ in 2^-15 ns (R163)
  pRef : Int                  -- p_ref, 1/256 increment
  autoP : Int                 -- p_ref at the last transfer to AUTO, and its boundary number (R217)
  autoBn : Nat
  srcPend : Bool              -- a source request waits for the next L1 boundary
  hosted : Bool               -- SRC = HOST at the last update (R91)
  fresh : Bool                -- RUN entered; the next L1 boundary is its first (R166, R171)
  next : L1Next
  injReg : Nat                -- PRBS register
  injStop : Bool
  injVal : Int                -- the latest injection sample
  injN : Nat                  -- samples emitted
  injGo : Bool                -- a boundary of its rate has come since GO (R177)
  deriving DecidableEq, Repr, Inhabited

structure CtlH where
  ax : Sparse AxH
  l0done : Nat                -- bit a: AXIS[a] updated since the last reload
  gsPatch : Nat               -- bit a: a GAIN_SCHED patch of AXIS[a] applies at the coming L1 boundary (R172)
  l0ran : Bool                -- the period that ends at the next reload is a whole one
  l1seen : Nat                -- L1 boundaries since release of the domain, at most 2 (R153)
  ccW : Nat                   -- record index of the capture ring that is written next
  ccN : Nat                   -- records written since arming, at most 16 384
  ccDiv : Nat
  ccPrev : Option Nat         -- selector 0 signal of the record before (R179)
  ccLeft : Nat                -- records still to be written after the trigger record
  deriving DecidableEq, Repr, Inhabited


/-- One profile generator (R182-R190): p, v and a in units of 2^-40 of the units of R182. -/
structure PgH where
  p : Int
  v : Int
  a : Int
  startPend : Bool            -- commands for the next L1 boundary (R185)
  stopPend : Bool
  jogPend : Bool
  limAt : Option Bool         -- STOPPING that comes to rest at a virtual limit, true the upper one (R188)
  limits : List Int           -- target and limits that the last step applied (R187, R189)
  sc : Nat := 0x8000          -- PG[64..71]: the speed scale in force (R162, R182)
  idleNs : Nat                -- DT ns since which the generator is IDLE
  holding : Bool              -- PG[64..71]: the winding current is I_HOLD (R191)
  deriving DecidableEq, Repr, Inhabited

/-- One winding of a stepper (R191-R195). -/
structure Winding where
  tgt : Int                   -- target in force, mV
  next : Int                  -- target computed at the last L1 boundary
  decay : Nat                 -- 0 drive, 1 slow, 2 fast, 3 fast for T_FAST
  blankEnd : Nat              -- count (ticks) until which the upper crossing is ignored
  fastEnd : Nat
  winN : Nat                  -- L0 periods of the learning window
  peak : Int                  -- largest σ × VALUE of the window
  restart : Bool              -- starts in drive at the next reload
  deriving DecidableEq, Repr, Inhabited

structure PrfH where
  pg : Sparse PgH
  wind : Sparse Winding       -- key 2 n + b
  deriving DecidableEq, Repr, Inhabited


/-- One axis record of an entry (R198): position word, velocity, torque feedforward. -/
structure TrjRec where
  p : Int
  v : Int
  f : Int
  deriving DecidableEq, Repr, Inhabited

/-- One slot of a queue (R198-R200). `bn` is the boundary number counted from 0 s without the wrap of R197. `st`: 0 EMPTY,
1 SPECULATIVE, 2 HELD, 3 COMMITTED, 4 FALLBACK. -/
structure TrjEntry where
  bn : Nat
  epoch : Nat
  st : Nat
  recs : List TrjRec
  deriving DecidableEq, Repr, Inhabited

/-- A claim that a plan depends on (R210). -/
structure TrjDep where
  epoch : Nat
  zone : Nat
  deriving DecidableEq, Repr, Inhabited

/-- A plan in the plan table (R201, R202), states and reasons coded as in PLAN_INFO. -/
structure TrjPlan where
  epoch : Nat
  port : Nat
  queue : Nat
  state : Nat
  reason : Nat
  depth : Nat
  deps : List TrjDep
  deriving DecidableEq, Repr, Inhabited

/-- A claim in the zone ledger (R206, R207): its first `firm` cycles are FIRM; `fb`: FALLBACK_HELD from `first` on. -/
structure TrjClaim where
  queue : Nat
  zone : Nat
  epoch : Nat
  first : Nat
  count : Nat
  firm : Nat
  fb : Bool
  deriving DecidableEq, Repr, Inhabited

/-- A stretch of fallback of a queue (R217): from boundary `from_` on, after the committed entry `recs` at `bL`, if the
queue has had one. -/
structure FbSpan where
  from_ : Nat
  has : Bool
  bL : Nat
  recs : List TrjRec
  deriving DecidableEq, Repr, Inhabited

/-- What a queue keeps beside its slots: its last committed entry and its stretches of fallback. -/
structure TrjQ where
  has : Bool
  last : Nat
  recs : List TrjRec
  inFb : Bool
  live : Bool                 -- has had a surviving entry since the queues were last emptied (R219)
  spans : List FbSpan         -- newest first
  deriving DecidableEq, Repr, Inhabited

/-- A planner port: the plan open on it, whether it has been squashed. -/
structure PpPort where
  epoch : Nat
  isOpen : Bool
  squashed : Bool
  deriving DecidableEq, Repr, Inhabited

/-- A planner-port command held during an evaluation (R214). -/
structure PpHeld where
  port : Nat
  word : Nat
  qfirst : Nat
  deriving DecidableEq, Repr, Inhabited

/-- What the evaluation in progress reads at its start (R214, R216): a sealed table, the squash reason of each queue's verdict
(0 COMMIT), the epochs to squash. -/
structure TrjEval where
  sealed : Bool
  reasons : List Nat
  named : List Nat
  deriving DecidableEq, Repr, Inhabited

structure TrjH where
  entries : Sparse TrjEntry   -- key 128 q + slot
  plans : List TrjPlan        -- closed plans in the order in which they closed
  claims : List TrjClaim
  mirror : List TrjClaim      -- the partner's FIRM and FALLBACK_HELD claims of the last STEADY_LEDGER frame (R460)
  mirrorOk : Bool
  gone : List TrjDep          -- claims withdrawn since the last evaluation (R205)
  lastEpoch : Nat
  q : Sparse TrjQ
  pp : Sparse PpPort
  held : List PpHeld
  evalB : Nat                 -- instant of the L3 boundary evaluated last, ns
  evalSeq : Nat               -- its L3_SEQ
  eval : TrjEval
  solve : Nat                 -- VT_SOLVE of the last evaluation, kept for the cycle record (R212)
  sealNs : Nat                -- DT of the seal in force
  outPend : Bool              -- results that take hold at the boundary (R214)
  outSq : Nat
  outDone : Nat
  outFb : Bool
  deriving DecidableEq, Repr, Inhabited

/-- The class S job (R259-R267). `st`: 0 none, 1 issued and waiting for its start, 2 waiting for its tokens, 3 running. -/
structure SJob where
  st : Nat
  ownSet : Bool
  feed : Nat                  -- 1 DELTA, 2 NONE, 0 NATIVE
  warm : Nat                  -- 0 PREV, 1 BUFFER, 2 COLD
  buf : Nat                   -- descriptor
  nbuf : Nat                  -- DELTA_NBUF
  warmBuf : Nat
  resBuf : Nat
  consumer : Nat
  deadline : Nat              -- DT ns
  issNs : Nat                 -- boundary that issued it
  startNs : Nat
  l3seq : Nat
  due : Bool                  -- ROUGH_END has passed, assembly has not completed (R256)
  late : Bool
  susp : Bool
  deadIter : Nat              -- iterations complete at a deadline that passed while suspended, plus 1
  weights : CellWeights       -- latched at the start (R236)
  wRej : Bool
  wCold : Bool
  gap : Bool
  ovf : Bool
  round : Nat                 -- round of R469; 0 = the single job of R259 or a submitted job
  deriving DecidableEq, Repr, Inhabited

/-- A batch (R261). `st`: 0 none, 1 ready and waiting, 2 waiting for its tokens, 3 running. -/
structure BJob where
  st : Nat
  buf : Nat
  consumer : Nat
  deadline : Nat
  startNs : Nat
  own : Bool                  -- holds its own tokens
  input : List (List Int)     -- batch memory: the input words of each slot
  deriving DecidableEq, Repr, Inhabited

structure FaceH where
  vals : Sparse Word          -- value memory (R247)
  vecs : Sparse Word          -- vector memory, key 16384 v + i
  pre : List Int              -- value memory: phase 3 entries
  prevOk : Bool               -- the last class S job's status was 0x00-0x02 and no image load since (R269)
  s : SJob
  b : BJob                    -- the running batch
  bq : BJob                   -- the batch that waits
  sSeq : Nat
  bSeq : Nat
  ring : Nat                  -- next set of the result ring
  asmOvf : Bool               -- saturation in the last assembly (R257)
  hdrs : List Nat             -- first buffers of result sets written (R272)
  deriving DecidableEq, Repr, Inhabited

/-- The Roughing stage (R250-R257). `st`: 0 idle, 1 kinematics, 2 assembly. -/
structure RoughH where
  st : Nat
  bNs : Nat                   -- the boundary of the snapshot
  seq : Nat
  pos : Sparse Int            -- per axis: POS_BND and SPEED at the boundary
  spd : Sparse Int
  slots : Sparse TrjEntry
  gap : Bool                  -- GAP of the published frame
  asmDone : Bool              -- assembly for the last boundary has completed
  deriving DecidableEq, Repr, Inhabited

/-- A level of hardware loop (R286-R290). -/
structure LoopLvl where
  cnt : Nat                   -- remaining count, LCNT
  top : Nat                   -- LTOP
  bot : Nat                   -- LBOT
  rot : Bool
  skip : Nat
  iter : Nat                  -- iterations ended
  depth : Nat                 -- call depth at which the loop instruction issued
  cached : Bool               -- the body issues from the loop cache
  noCache : Bool              -- a P write has invalidated the loop cache (R290)
  deriving DecidableEq, Repr, Inhabited

/-- An entry of the call stack (R301, R304). `full`: of an exception or interrupt, with SR and the loop state. -/
structure StackEnt where
  full : Bool
  pc : Nat
  sr : Word
  loops : List LoopLvl
  idle : List Nat
  deriving DecidableEq, Repr, Inhabited

/-- An instruction tag (R516). -/
structure TagRec where
  pc : Nat
  t : Nat
  d : Nat
  d2 : Nat
  aborted : Bool
  supp : Bool
  deriving DecidableEq, Repr, Inhabited

/-- A gouge core's registers (R279) and what it keeps beside them. RB, the state and the depths stand in GC_STAT, the
address of the next instruction in GC_PC. -/
structure GCore where
  g : Sparse Word             -- by physical register
  i : Sparse Word
  m : Sparse Word
  am : Sparse Word
  acc : Sparse Int            -- 72-bit signed
  sr : Word := 0x200          -- PRIV = 1 after a core reset (R279)
  imask : Word
  exc : Word
  epc : Word
  loops : List LoopLvl        -- innermost first, at most two
  idle : List Nat             -- LCNT, LTOP, LBOT while no loop is active
  stack : List StackEnt       -- call stack, top first, at most 16
  reserve : Option StackEnt   -- the reserve entry
  wp : Nat                    -- a watchpoint has matched: 1 = halt, 2 = vector 7
  wpPc : Nat                  -- the instruction whose access matched
  wdFrom : Nat                -- watchdog: running since this DT ns
  wdUsed : Nat                -- ns counted before that
  lfsr : Nat
  tagCnt : Nat
  tag : Option TagRec
  userCode : Bool             -- the boot ROM has jumped to the user section
  stepping : Bool             -- GC_CTRL.STEP: halt after the next instruction
  deriving DecidableEq, Repr, Inhabited

structure GcH where
  cores : Sparse GCore
  deriving DecidableEq, Repr, Inhabited

/-- A descriptor in the pool (R317-R328). `who`: 0-15 core, 16 host, 17 hardware. `st`: 0 queued, 1 in service, 2 done and
waiting for its release. -/
structure ChuckJob where
  id : Nat
  flow : Nat
  fseq : Nat
  words : List Nat
  who : Nat
  enqNs : Nat
  st : Nat
  availNs : Nat               -- DT ns + 1 at which it became dispatchable; 0 = not dispatchable
  core : Nat
  dispNs : Nat
  doneSeq : Nat               -- order of DONE within the flow
  status : Nat
  resValid : Bool
  resBuf : Nat
  deriving DecidableEq, Repr, Inhabited

/-- A hardware job that meets a full pool (R320). -/
structure HwJob where
  producer : Nat
  flow : Nat
  words : List Nat
  deriving DecidableEq, Repr, Inhabited

structure ChuckH where
  pool : List ChuckJob        -- in enqueue order
  held : List HwJob
  fseq : Sparse Nat           -- per flow: sequence of the next job
  ran : Sparse Bool           -- per flow: it has run
  doneCnt : Nat
  stallFrom : Nat             -- DT ns + 1 since which a dispatchable job and an idle core that takes it stand; 0 = none (R330)
  cq : Sparse (List (Nat × Nat)) -- per sink: records (CQ_LO, CQ_HI), oldest first
  deriving DecidableEq, Repr, Inhabited

/-- One channel's view of a safety input (R335). -/
structure SiCh where
  lowNs : Nat                 -- DT ns + 1 of the first sample of the present spell towards stop (low; NC contact: high), 0 = none
  highN : Nat                 -- consecutive samples the other way, at most 3
  rstNs : Nat                 -- RESET pushbutton: DT ns + 1 since which its filtered state is high
  deriving DecidableEq, Repr, Inhabited

/-- The test pattern of an input (R337). -/
structure SiTest where
  perErr : Bool               -- an error in this 4 ms period
  prevErr : Bool              -- an error in the period before
  okPer : Nat                 -- consecutive correct periods, at most 2
  seen : Nat                  -- pulses of its supply seen in this period, in either channel
  deriving DecidableEq, Repr, Inhabited

/-- A function in one channel (R340-R344); states coded as FN_STAT.STATE. -/
structure FnCh where
  st : Nat
  cause : Nat
  discNs : Nat                -- DT ns + 1 since which its channels disagree (TWOHAND: those of hand 1), 0 = they do not
  disc2Ns : Nat               -- TWOHAND: the same for hand 2
  atNs : Nat                  -- DT ns + 1 of its last change of state
  armed : Bool                -- TWOHAND: both hands have been released
  firstNs : Nat               -- TWOHAND: DT ns + 1 at which the first hand was actuated
  deriving DecidableEq, Repr, Inhabited

/-- A contactor (R351). -/
structure CdH where
  offNs : Nat                 -- DT ns + 1 since which every zone of its mask is in STO in the dead centre, 0 = not
  offNsL : Nat                -- the same in the live centre
  swNs : Nat                  -- DT ns of the last switching
  chk : Bool                  -- its EDM check of that switching is open
  raw : Bool                  -- EDM input as sampled last, and since when (10 ms filter)
  rawNs : Nat
  deriving DecidableEq, Repr, Inhabited

/-- A safety frame's state in a channel (R429): last CONSEC accepted, and the latest payload with its TS. -/
structure SafeRx where
  seen : Bool
  consec : Nat
  ts : Nat
  rxNs : Nat                  -- DT ns + 1 of acceptance
  data : List Byte
  jNs : Sparse Nat            -- hub frame, per joint: DT ns + 1 of the position held
  deriving DecidableEq, Repr, Inhabited

/-- The speed envelope of an arm (R378), in mm/s, and the levels. -/
structure SsmArm where
  env : Bool                  -- an envelope has been started
  bOld : Rat
  bNew : Rat
  tA : Nat                    -- DT ns
  tE : Nat                    -- ns
  tolRun : Nat                -- consecutive snapshots with d_min apart by more than DIST_TOL (R381)
  still : Nat                 -- consecutive snapshots below STILL_LIM, at most 3 (R354)
  pts : List Rat              -- dead centre: capsule end points at its last snapshot, x y z of both ends
  ptsOk : Bool
  th : List Rat               -- live centre: joint angles at its last snapshot, the base axis first
  thOk : Bool
  deriving DecidableEq, Repr, Inhabited

/-- The safety channels (R331-R381). Keys: input or function number, plus 24 in the live centre. -/
structure SafeH where
  si : Sparse SiCh
  test : Sparse SiTest
  tr : Option (Nat × BitVec 24 × BitVec 24) -- test read of the slot in progress: slot, levels of both channels
  fn : Sparse FnCh
  remote : Sparse Nat         -- channels A-D of a remote function, as bits
  remD : Nat                  -- DT ns + 1 from which remote frames are awaited in each channel: load, or start of the channel
  remL : Nat
  pulseD : Nat                -- groups with a valid reset pulse that ended at the present sample, per channel
  pulseL : Nat
  liveIn : Nat                -- filtered inputs as the live centre's task cycle has read them (R331)
  liveAt : Nat                -- DT ns + 1 of its last task cycle
  hbD : Nat                   -- DT ns + 1 of each channel's last heartbeat (R332)
  hbL : Nat
  tpsNs : Sparse Nat          -- per supply: DT ns + 1 since which it reads low outside its pulses (R339)
  ss1Ns : Sparse Nat          -- per zone: DT ns + 1 at which its SS1 timer started
  ss1Done : Nat               -- zones whose SS1 stop has taken effect
  xoffA : Bool                -- cross-off switch open: STO_A group, STO_B group
  xoffB : Bool
  dark : Nat                  -- output in its dark test + 1
  darkNs : Nat                -- DT ns + 1 at which that test began
  outFlt : Nat                -- outputs with a latched output fault (R349)
  rb : BitVec 16 := 0xFFFF#16 -- vote outputs as read back: 1 = reads STO
  cdRb : BitVec 8             -- contactor drive switches as read back: high-side, low-side of each
  rbNs : Sparse Nat           -- per output: DT ns + 1 at which its channel commanded STO, 0 = it is released
  cd : Sparse CdH
  lkdD : Nat                  -- lock drive switches closed
  lkdL : Nat
  failD : Bool                -- marked failed (R358)
  failL : Bool
  xNs : Sparse Nat            -- cross-check differences: DT ns + 1 since when (1 INPUT, 2 FUNC, 3 VOTE)
  xPend : Bool                -- a difference awaits its self-tests
  xSsm : Bool                 -- it is one of separation monitoring (R381)
  xTest : Sparse Nat          -- their results: key 0 dead, 1 live; 1 = failed, 2 = passed
  degNs : Nat                 -- DT ns of entry into M10
  rx : Sparse SafeRx          -- by FRAME_ID, plus 1 024 in the live centre
  snapB : Nat                 -- the snapshot that SSM works on (R366), ns + 1; 0 = none waits
  snap : Sparse SafeRx        -- the payloads frozen at it
  arm : Sparse SsmArm
  lvlL : Nat                  -- levels of the live centre, as SSM_LVL_L shows them
  overL : Nat                 -- arms whose OVERSPEED the live centre has set
  srcFrame : Nat              -- latest 100 µs instant sampled, ns + 1
  deriving DecidableEq, Repr, Inhabited

/-- One portal (R382-R398). Codes of states and causes as in PORT_STAT. -/
structure PortP where
  cmdOpen : Bool              -- commands that wait for the next L1 boundary (R386)
  cmdClose : Bool
  cmdStop : Bool
  cmdRelearn : Bool
  v : Nat                     -- speed command, 2^-32 increments per L1 period
  stopTo : Nat                -- controlled stop in progress: 0 none, 1 to STOPPED, 2 to the other direction
  origin : Int                -- integer position of the closed end
  startNs : Nat               -- the movement: start, position, KIND (1 OPEN, 2 CLOSE), peak, record flags
  startPos : Int
  kind : Nat
  peak : Nat
  peakBin : Nat
  reversals : Nat
  flags : Nat
  clean : Bool
  open_ : Bool                -- its record has not been written yet
  cycMax : Sparse Nat         -- largest I_MEAS by bin
  exceed : Nat                  -- consecutive exceedances
  badRun : Nat                -- consecutive unusable results
  detNs : Nat                 -- DT ns of detection
  revFrom : Int               -- position at the start of the reverse drive
  revOn : Bool                -- the reverse drive has begun
  revOpen : Bool              -- what is reversed is an opening
  edgeSeen : Bool             -- the sensing edge has acted and has not been released since
  unlTo : Bool                -- an unlock timeout since the last record
  reqNs : Nat                 -- DT ns + 1 of the unlock request
  wdNs : Nat                  -- DT ns + 1 of its withdrawal
  unlockMs : Nat
  closedNs : Nat              -- DT ns + 1 of entry into CLOSED from a movement
  cycNo : Nat
  travelO : Nat               -- travel times of POS_SRC = 1, µs; 0 = not measured
  travelC : Nat
  deriving DecidableEq, Repr, Inhabited

structure PortH where
  p : Sparse PortP
  recallDue : Bool            -- the CTL domain has been released and the envelopes of the flash are still to be taken (R390)
  deriving DecidableEq, Repr, Inhabited

/-- A frame that the module sends (R411). -/
structure SrtTx where
  buf : List Byte             -- send buffer
  fresh : Bool                -- replaced since it was last sent in an earlier cycle
  sentCyc : Nat               -- CYCLE + 1 in which the buffer's content was first sent
  wait : Option (List Byte)   -- a copy that waits for the end of the slot
  deriving DecidableEq, Repr, Inhabited

/-- A valid frame heard: channel, slot, node. -/
structure SrtHeard where
  ch : Nat
  slot : Nat
  node : Nat
  deriving DecidableEq, Repr, Inhabited

/-- The Sertik engine (R402-R426). -/
structure SrtH where
  tx : Sparse SrtTx
  sent : Sparse (List Byte)   -- the last frame sent, by channel
  stored : List Nat           -- FRAME_IDs stored in this cycle
  heard : List SrtHeard       -- valid frames of this cycle, and of the cycle before
  prev : List SrtHeard
  syncs : List Nat            -- coldstart indices whose SYNC was valid in this cycle, and in the one before
  prevSyncs : List Nat
  syncSof : Nat               -- DT ns + 1 of the SOF of the leader's last SYNC
  runs : Nat                  -- consecutive cycles of integration, or of coldstart sending
  stNs : Nat                  -- DT ns of the entry into the state
  heardSync : Bool            -- a valid SYNC since the entry into the state
  silent : Nat                -- consecutive cycles without a valid SYNC, at most 255
  miss : Sparse Nat           -- per channel: consecutive counted slots without a valid frame, at most 3
  alive : Sparse Bool         -- per channel: a valid frame on it during the other's run of missed slots
  lastSlot : Nat              -- slot begun last in this cycle + 1
  ended : Nat                 -- slots of this cycle whose ends have been counted
  dirty : Sparse Bool         -- per channel: a counted slot of this cycle carried no valid frame
  sentSync : Bool             -- own SYNC sent in this cycle
  claims : List (Nat × Nat × Nat) -- (node, channels, slots) heard in this cycle
  idle : Sparse Nat           -- per granted spare slot: cycles without a valid frame of its owner
  takeover : Bool             -- TAKEOVER announced: shift and cycle
  shift : Nat
  toCycle : Nat
  foA : Bool                  -- FAILOVER copies of channel A's frames are being sent
  foB : Bool
  deriving DecidableEq, Repr, Inhabited

/-- Redundant pair, cascade and consensus (R446-R470). -/
structure FyvH where
  sent : Sparse (List Byte)   -- the last frame sent, by 256 × link + TYPE (link 4 = steady link)
  used : List (List Nat)      -- (link group, TYPE, SRC position, L3_SEQ) of frames used (R464)
  train : List (Nat × Nat × Nat) -- link trainings that wait for tokens: link, round trip, turnaround (R563)
  rolePend : Option Bool      -- a qualified ROLE level that waits for the L1 boundary (R450)
  pinActive : Bool            -- the level of R450 in force
  pMode : Option Nat          -- PARTNER_MODE, none = never received
  pActive : Bool
  pVotes : Option (Nat × Nat) -- the partner's STO_A and STO_B votes, while known
  pDrv : Nat                  -- its contactor and lock drive commands
  pHash : Option Nat          -- its STRUCT_HASH
  pBeat : Bool                -- a partner heartbeat has been received
  pAct : Sparse SteadyAxis        -- the active module's axes at the boundary `actB`
  actB : Nat                  -- its boundary, ns; 0 = none waits
  own : Sparse SteadyAxis         -- this module's axes at the last L3 boundary
  ownB : Nat
  backlog : List (Nat × List Byte) -- cycle record entries of the partner: ring sequence number, entry
  rVotes : Option (Nat × Nat) -- the referee's A and B votes, while known (R454)
  rConsec : Nat
  alignCnt : Nat
  alignB : Nat                -- the L3 boundary last judged for R461
  driftCnt : Nat
  hashDiff : Bool             -- the last comparison of R446 found the hashes different
  timeNs : Nat                -- DT of the last TIME frame used
  timeLost : Bool
  stepped : Bool              -- DT has been stepped by the offset (R465)
  downNs : Nat                -- DT ns of the steady link's last fall
  swapNs : Int                -- DT ns of the last role change
  steady : Sparse (Option SteadyMsg) -- the last frame sent on the steady link, by TYPE
  imgBad : Bool               -- the image stream has a gap or a bad CRC
  imgWait : Bool              -- an image has been requested (R467)
  imgRx : List Byte           -- image bytes received so far
  consU : Sparse Int          -- u, by position in the list of shared unknowns
  consZ : Sparse Int          -- z̄ by consensus index
  consQ0 : Sparse Int         -- q0, by position in the list of shared unknowns
  consUp : Sparse (List Int)  -- CONS_UP values of this round, by position
  consGot : List Nat          -- positions whose CONS_UP has arrived in this round
  consRound : Nat             -- round whose exchange is open, 0 = none
  consB : Nat                 -- its L3 boundary, ns
  consDone : Nat              -- rounds completed in this L3 cycle
  deriving DecidableEq, Repr, Inhabited

/-- A block of the array. -/
structure NBlock where
  bad : Bool                  -- factory-bad or grown-bad
  erase : Nat                 -- erase count
  reads : Nat                 -- since the last erase
  next : Nat                  -- pages programmed since the last erase
  closed : Bool               -- an interrupted programme was found in it (R488)
  deriving DecidableEq, Repr, Inhabited

/-- A programmed page (R480): its header fields and its data. -/
structure NPage where
  part : Nat
  partialPage : Bool
  pseq : Nat
  first : Nat                 -- FIRST_RSEQ
  count : Nat
  data : List Byte
  deriving DecidableEq, Repr, Inhabited

/-- An entry in an append buffer: its RSEQ, its bytes, the DT at which it entered. -/
structure RingEnt where
  rseq : Nat
  bytes : List Byte
  ns : Nat
  deriving DecidableEq, Repr, Inhabited

/-- An append ring (R486, R487). The buffer lies in retained SRAM. -/
structure NRing where
  buf : List RingEnt
  fly : List RingEnt          -- the page being programmed
  bufBad : Bool               -- the retained buffer fails its CRC
  last : Nat                  -- last RSEQ given
  dropFirst : Nat
  dropCnt : Nat
  deriving DecidableEq, Repr, Inhabited

/-- A programme that waits or runs. -/
inductive NOp
  | ring (p : Nat)            -- the buffer of ring 5 or 6
  | rec_ (p : Nat) (data : List Byte) (why : Nat) -- a CAL or DUMP page; why: 1 = SYSCAL SAVE
  | image (slot : Nat) (pref : Bool)
  | scrub (b : Nat)
  | erase (b : Nat)
  deriving DecidableEq, Repr, Inhabited

/-- A copy of the boot record (R492). -/
structure BootRec where
  good : Bool
  cnt : Nat
  pref : Nat
  seqA : Nat
  seqB : Nat
  digA : List Byte
  digB : List Byte
  deriving DecidableEq, Repr, Inhabited

/-- Flash storage (R477-R494). The array, the boot record and the ring buffers outlive every reset. -/
structure NandH where
  blocks : Sparse NBlock
  pages : Sparse NPage        -- by 256 × block + page; unlisted = erased
  torn : List Nat             -- pages neither erased nor valid
  open_ : Sparse Nat          -- by partition: block in use + 1
  pseq : Sparse Nat           -- by partition
  safe : NRing
  cyc : NRing
  boot0 : BootRec
  boot1 : BootRec
  recId : Nat                 -- last REC_ID issued
  refs : Sparse (List Nat)    -- REC_IDs that CAL_REF names in the image in force (0), slot A (1), slot B (2)
  ops : List NOp              -- waiting, in order
  cur : Option NOp            -- in progress or waiting for its token
  run : Bool                  -- it holds its token
  blk : Nat                   -- block it works on
  rdBusy : Bool
  rdBuf : Nat
  rdPart : Nat                -- its ring and first RSEQ
  rdFrom : Nat
  upper : Bool                -- an entry has been held in the upper half of the retained SRAM since POR
  deriving DecidableEq, Repr, Inhabited

/-- One Ethernet port (R500-R503). -/
structure NetPort where
  queue : List Nat            -- buffers queued for transmission, oldest first
  rxIdx : Nat                 -- place of the next receive buffer in the ring
  lastTx : List Byte          -- the last frame sent, padded, without FCS
  deriving DecidableEq, Repr, Inhabited

structure NetH where
  port : Sparse NetPort
  deriving DecidableEq, Repr, Inhabited

end Sys2Proof.Machine
end

