-- ==== Sys2Proof/Machine/Regs.lean ====
section
/-!
DEFINITION. The register map: one name per register (its byte offset in BAR0, R498) and one per field, and
the table of rows from which a register's reset value (the Reset column) and the effect of a plain write
(the Access column, R6, and the enumeration rule R9) are computed. Every name is the spec's own.
-/
namespace Sys2Proof.Machine

/-- A bit field of one register: byte offset of the register in BAR0, highest and lowest bit. -/
structure Loc where
  addr : Nat
  hi : Nat
  lo : Nat
  deriving DecidableEq, Repr

/-- The sixteen-odd reset domains that a register map names; `gc c` is the cluster PD that holds GC[4c..4c+3],
`ret` the retained registers of R556. -/
inductive Dom | aon | dead | live | adc | ctl | time | link | mem | flash | host | face | rough | gc (c : Nat) | ret
  deriving DecidableEq, Repr

/-- Access codes of R6; `rwl b` carries the number of its lock bit within the register. -/
inductive Acc | rw | ro | w1c | wo | rwl (lock : Nat)
  deriving DecidableEq, Repr

/-- What values a plain write may give an RW field (R9 and the ranges the descriptions state). -/
inductive Valid | any | range (lo hi : Nat) | among (vs : List Nat) | clampTo (hi : Nat)
  deriving DecidableEq, Repr

structure FieldRow where
  hi : Nat
  lo : Nat
  acc : Acc
  reset : Nat
  valid : Valid
  deriving DecidableEq, Repr

/-- One row of the register map: offset within the block's window, the strides and counts of its indexes (outermost
first), the reset domain (`none`: the domain of the unit the outermost index names), and its fields. -/
structure RegRow where
  off : Nat
  idx : List (Nat × Nat)
  dom : Dom
  fields : List FieldRow
  deriving DecidableEq, Repr

/-! ### SYS: window at 0x00000000 -/
/-- SYS.CHIP_ID: spec/00_scope.md. -/
def SYS.CHIP_ID : Nat := 0x00000000
def SYS.CHIP_ID'PART : Loc := ⟨SYS.CHIP_ID, 31, 16⟩
def SYS.CHIP_ID'VARIANT : Loc := ⟨SYS.CHIP_ID, 15, 12⟩
def SYS.CHIP_ID'STEP_MAJOR : Loc := ⟨SYS.CHIP_ID, 11, 8⟩
def SYS.CHIP_ID'STEP_MINOR : Loc := ⟨SYS.CHIP_ID, 7, 4⟩
/-- SYS.CYCLE_CFG: spec/01_cell_and_cycles.md. -/
def SYS.CYCLE_CFG : Nat := 0x00000010
def SYS.CYCLE_CFG'CYC_RUN : Loc := ⟨SYS.CYCLE_CFG, 31, 31⟩
def SYS.CYCLE_CFG'BURST_MAX : Loc := ⟨SYS.CYCLE_CFG, 11, 8⟩
def SYS.CYCLE_CFG'L0_DIV : Loc := ⟨SYS.CYCLE_CFG, 2, 0⟩
/-- SYS.CYCLE_STAT: spec/01_cell_and_cycles.md. -/
def SYS.CYCLE_STAT : Nat := 0x00000014
def SYS.CYCLE_STAT'L3_SEQ : Loc := ⟨SYS.CYCLE_STAT, 31, 16⟩
def SYS.CYCLE_STAT'STALE_L3 : Loc := ⟨SYS.CYCLE_STAT, 2, 2⟩
def SYS.CYCLE_STAT'STALE_L2 : Loc := ⟨SYS.CYCLE_STAT, 1, 1⟩
def SYS.CYCLE_STAT'STALE_L1 : Loc := ⟨SYS.CYCLE_STAT, 0, 0⟩
/-- SYS.IMG_CTRL: spec/02_grain_image.md. -/
def SYS.IMG_CTRL : Nat := 0x00000100
def SYS.IMG_CTRL'LOAD : Loc := ⟨SYS.IMG_CTRL, 31, 31⟩
def SYS.IMG_CTRL'SRC : Loc := ⟨SYS.IMG_CTRL, 2, 0⟩
/-- SYS.IMG_STAT: spec/02_grain_image.md. -/
def SYS.IMG_STAT : Nat := 0x00000104
def SYS.IMG_STAT'VALID : Loc := ⟨SYS.IMG_STAT, 31, 31⟩
def SYS.IMG_STAT'MODIFIED : Loc := ⟨SYS.IMG_STAT, 30, 30⟩
def SYS.IMG_STAT'SECT_IDX : Loc := ⟨SYS.IMG_STAT, 29, 24⟩
def SYS.IMG_STAT'LOAD_STAT : Loc := ⟨SYS.IMG_STAT, 15, 8⟩
def SYS.IMG_STAT'SRC_USED : Loc := ⟨SYS.IMG_STAT, 2, 0⟩
/-- SYS.IMG_SEQ: spec/02_grain_image.md. -/
def SYS.IMG_SEQ : Nat := 0x00000108
def SYS.IMG_SEQ'IMG_SEQ : Loc := ⟨SYS.IMG_SEQ, 31, 0⟩
/-- SYS.IMG_POLICY: spec/02_grain_image.md. -/
def SYS.IMG_POLICY : Nat := 0x0000010C
def SYS.IMG_POLICY'LOCK : Loc := ⟨SYS.IMG_POLICY, 1, 1⟩
def SYS.IMG_POLICY'REQUIRE_SIG : Loc := ⟨SYS.IMG_POLICY, 0, 0⟩
/-- SYS.STRUCT_HASH_LO: spec/02_grain_image.md. -/
def SYS.STRUCT_HASH_LO : Nat := 0x00000110
def SYS.STRUCT_HASH_LO'STRUCT_HASH_LO : Loc := ⟨SYS.STRUCT_HASH_LO, 31, 0⟩
/-- SYS.STRUCT_HASH_HI: spec/02_grain_image.md. -/
def SYS.STRUCT_HASH_HI : Nat := 0x00000114
def SYS.STRUCT_HASH_HI'STRUCT_HASH_HI : Loc := ⟨SYS.STRUCT_HASH_HI, 31, 0⟩
/-- SYS.IMG_SAFE_ID: spec/02_grain_image.md. -/
def SYS.IMG_SAFE_ID : Nat := 0x00000118
def SYS.IMG_SAFE_ID'IMG_SAFE_ID : Loc := ⟨SYS.IMG_SAFE_ID, 31, 0⟩
/-- SYS.PATCH_CTRL: spec/02_grain_image.md. -/
def SYS.PATCH_CTRL : Nat := 0x00000120
def SYS.PATCH_CTRL'GO : Loc := ⟨SYS.PATCH_CTRL, 31, 31⟩
def SYS.PATCH_CTRL'BUF : Loc := ⟨SYS.PATCH_CTRL, 10, 0⟩
/-- SYS.PATCH_STAT: spec/02_grain_image.md. -/
def SYS.PATCH_STAT : Nat := 0x00000124
def SYS.PATCH_STAT'PATCH_COUNT : Loc := ⟨SYS.PATCH_STAT, 31, 16⟩
def SYS.PATCH_STAT'RESULT : Loc := ⟨SYS.PATCH_STAT, 15, 8⟩
def SYS.PATCH_STAT'STATE : Loc := ⟨SYS.PATCH_STAT, 1, 0⟩
/-- SYS.ACC_ERR_ADDR: spec/22_host_and_events.md. -/
def SYS.ACC_ERR_ADDR : Nat := 0x00000020
def SYS.ACC_ERR_ADDR'ADDR : Loc := ⟨SYS.ACC_ERR_ADDR, 31, 0⟩
/-- SYS.ACC_ERR_INFO: spec/22_host_and_events.md. -/
def SYS.ACC_ERR_INFO : Nat := 0x00000024
def SYS.ACC_ERR_INFO'VALID : Loc := ⟨SYS.ACC_ERR_INFO, 31, 31⟩
def SYS.ACC_ERR_INFO'REQUESTER : Loc := ⟨SYS.ACC_ERR_INFO, 12, 8⟩
def SYS.ACC_ERR_INFO'WRITE : Loc := ⟨SYS.ACC_ERR_INFO, 4, 4⟩
def SYS.ACC_ERR_INFO'KIND : Loc := ⟨SYS.ACC_ERR_INFO, 2, 0⟩
/-- SYS.HOST_CFG: spec/22_host_and_events.md. -/
def SYS.HOST_CFG : Nat := 0x00000030
def SYS.HOST_CFG'LOCK : Loc := ⟨SYS.HOST_CFG, 31, 31⟩
def SYS.HOST_CFG'HOST_PROXY : Loc := ⟨SYS.HOST_CFG, 8, 8⟩
def SYS.HOST_CFG'PCIE_UP : Loc := ⟨SYS.HOST_CFG, 7, 7⟩
def SYS.HOST_CFG'WIDTH : Loc := ⟨SYS.HOST_CFG, 6, 4⟩
def SYS.HOST_CFG'SPEED : Loc := ⟨SYS.HOST_CFG, 1, 0⟩
/-- SYS.MODE_STAT: spec/24_modes.md. -/
def SYS.MODE_STAT : Nat := 0x00000040
def SYS.MODE_STAT'CAUSE : Loc := ⟨SYS.MODE_STAT, 31, 28⟩
def SYS.MODE_STAT'HOLD_FROM : Loc := ⟨SYS.MODE_STAT, 27, 24⟩
def SYS.MODE_STAT'RESULT : Loc := ⟨SYS.MODE_STAT, 19, 16⟩
def SYS.MODE_STAT'REQ_STATE : Loc := ⟨SYS.MODE_STAT, 13, 12⟩
def SYS.MODE_STAT'REQ_TARGET : Loc := ⟨SYS.MODE_STAT, 11, 8⟩
def SYS.MODE_STAT'PREV : Loc := ⟨SYS.MODE_STAT, 7, 4⟩
def SYS.MODE_STAT'MODE : Loc := ⟨SYS.MODE_STAT, 3, 0⟩
/-- SYS.MODE_REQ: spec/24_modes.md. -/
def SYS.MODE_REQ : Nat := 0x00000044
def SYS.MODE_REQ'GO : Loc := ⟨SYS.MODE_REQ, 31, 31⟩
def SYS.MODE_REQ'ABORT : Loc := ⟨SYS.MODE_REQ, 30, 30⟩
def SYS.MODE_REQ'TARGET : Loc := ⟨SYS.MODE_REQ, 3, 0⟩
/-- SYS.MODE_CFG: spec/24_modes.md. -/
def SYS.MODE_CFG : Nat := 0x00000048
def SYS.MODE_CFG'M3_SCALE : Loc := ⟨SYS.MODE_CFG, 31, 16⟩
def SYS.MODE_CFG'M6_SCALE : Loc := ⟨SYS.MODE_CFG, 15, 0⟩
/-- SYS.MODE_TIMEOUT: spec/24_modes.md. -/
def SYS.MODE_TIMEOUT : Nat := 0x0000004C
def SYS.MODE_TIMEOUT'CHG_CNT : Loc := ⟨SYS.MODE_TIMEOUT, 31, 16⟩
def SYS.MODE_TIMEOUT'SECONDS : Loc := ⟨SYS.MODE_TIMEOUT, 9, 0⟩

/-! ### RST: window at 0x00010000 -/
/-- RST.RST_CTRL: spec/25_reset_clocks.md. -/
def RST.RST_CTRL : Nat := 0x00010000
def RST.RST_CTRL'SYS_RST : Loc := ⟨RST.RST_CTRL, 31, 31⟩
/-- RST.RST_CAUSE: spec/25_reset_clocks.md. -/
def RST.RST_CAUSE : Nat := 0x00010004
def RST.RST_CAUSE'CAUSE : Loc := ⟨RST.RST_CAUSE, 31, 24⟩
def RST.RST_CAUSE'INST : Loc := ⟨RST.RST_CAUSE, 23, 20⟩
def RST.RST_CAUSE'DOMAINS : Loc := ⟨RST.RST_CAUSE, 15, 0⟩
/-- RST.RST_CNT: spec/25_reset_clocks.md. -/
def RST.RST_CNT : Nat := 0x00010008
def RST.RST_CNT'FULL_CNT : Loc := ⟨RST.RST_CNT, 31, 16⟩
def RST.RST_CNT'TOTAL_CNT : Loc := ⟨RST.RST_CNT, 15, 0⟩
/-- RST.RST_STRAP: spec/25_reset_clocks.md. -/
def RST.RST_STRAP : Nat := 0x0001000C
def RST.RST_STRAP'PAIR_ROLE : Loc := ⟨RST.RST_STRAP, 8, 8⟩
def RST.RST_STRAP'SLOT_ID : Loc := ⟨RST.RST_STRAP, 6, 4⟩
def RST.RST_STRAP'CLK_MODE : Loc := ⟨RST.RST_STRAP, 3, 2⟩
def RST.RST_STRAP'BOOT_SRC : Loc := ⟨RST.RST_STRAP, 1, 0⟩
/-- RST.RST_BLK: spec/25_reset_clocks.md. -/
def RST.RST_BLK : Nat := 0x00010010
def RST.RST_BLK'HOLD : Loc := ⟨RST.RST_BLK, 15, 0⟩
/-- RST.RST_STAT: spec/25_reset_clocks.md. -/
def RST.RST_STAT : Nat := 0x00010014
def RST.RST_STAT'OPTIONS_VALID : Loc := ⟨RST.RST_STAT, 31, 31⟩
def RST.RST_STAT'SEQ_BUSY : Loc := ⟨RST.RST_STAT, 30, 30⟩
def RST.RST_STAT'OPT_COPY : Loc := ⟨RST.RST_STAT, 29, 28⟩
def RST.RST_STAT'OPT_FAIL : Loc := ⟨RST.RST_STAT, 27, 27⟩
def RST.RST_STAT'RELEASED : Loc := ⟨RST.RST_STAT, 15, 0⟩
/-- RST.RST_PEND: spec/25_reset_clocks.md. -/
def RST.RST_PEND : Nat := 0x00010018
def RST.RST_PEND'PEND : Loc := ⟨RST.RST_PEND, 15, 0⟩
/-- RST.RST_GAP: spec/25_reset_clocks.md. -/
def RST.RST_GAP : Nat := 0x0001001C
def RST.RST_GAP'RST_GAP : Loc := ⟨RST.RST_GAP, 12, 0⟩
/-- RST.RST_ERR: spec/25_reset_clocks.md. -/
def RST.RST_ERR : Nat := 0x00010020
def RST.RST_ERR'SELF : Loc := ⟨RST.RST_ERR, 1, 1⟩
def RST.RST_ERR'REFUSED : Loc := ⟨RST.RST_ERR, 0, 0⟩
/-- RST.BKP: spec/25_reset_clocks.md. -/
def RST.BKP (i : Nat) : Nat := 0x00010100 + 0x4 * i
def RST.BKP'BKP (i : Nat) : Loc := ⟨(RST.BKP i), 31, 0⟩
/-- RST.RET_PTR: spec/25_reset_clocks.md. -/
def RST.RET_PTR : Nat := 0x00010200
def RST.RET_PTR'PTR : Loc := ⟨RST.RET_PTR, 14, 2⟩
/-- RST.RET_DATA: spec/25_reset_clocks.md. -/
def RST.RET_DATA : Nat := 0x00010204
def RST.RET_DATA'DATA : Loc := ⟨RST.RET_DATA, 31, 0⟩
/-- RST.RSRAM: spec/25_reset_clocks.md. -/
def RST.RSRAM (i : Nat) : Nat := 0x00018000 + 0x4 * i
def RST.RSRAM'WORD (i : Nat) : Loc := ⟨(RST.RSRAM i), 31, 0⟩

/-! ### CLK: window at 0x00020000 -/
/-- CLK.CLK_STAT: spec/25_reset_clocks.md. -/
def CLK.CLK_STAT : Nat := 0x00020000
def CLK.CLK_STAT'MAIN_LOCK : Loc := ⟨CLK.CLK_STAT, 31, 31⟩
def CLK.CLK_STAT'NET_LOCK : Loc := ⟨CLK.CLK_STAT, 30, 30⟩
def CLK.CLK_STAT'REF_FALLBACK : Loc := ⟨CLK.CLK_STAT, 29, 29⟩
def CLK.CLK_STAT'EXT_OK : Loc := ⟨CLK.CLK_STAT, 28, 28⟩
def CLK.CLK_STAT'REF_SRC : Loc := ⟨CLK.CLK_STAT, 27, 26⟩
def CLK.CLK_STAT'CLK_GOOD : Loc := ⟨CLK.CLK_STAT, 15, 0⟩
/-- CLK.CLK_ERR: spec/25_reset_clocks.md. -/
def CLK.CLK_ERR : Nat := 0x00020004
def CLK.CLK_ERR'REF_LOST : Loc := ⟨CLK.CLK_ERR, 3, 3⟩
def CLK.CLK_ERR'NET_UNLOCK : Loc := ⟨CLK.CLK_ERR, 2, 2⟩
def CLK.CLK_ERR'MAIN_UNLOCK : Loc := ⟨CLK.CLK_ERR, 1, 1⟩
def CLK.CLK_ERR'DOM_CLK : Loc := ⟨CLK.CLK_ERR, 0, 0⟩
/-- CLK.CLK_CMD: spec/25_reset_clocks.md. -/
def CLK.CLK_CMD : Nat := 0x00020008
def CLK.CLK_CMD'REF_RESTORE : Loc := ⟨CLK.CLK_CMD, 31, 31⟩
/-- CLK.CLK_MEAS: spec/25_reset_clocks.md. -/
def CLK.CLK_MEAS : Nat := 0x0002000C
def CLK.CLK_MEAS'PPM : Loc := ⟨CLK.CLK_MEAS, 15, 0⟩
/-- CLK.CLK_CFG: spec/25_reset_clocks.md. -/
def CLK.CLK_CFG : Nat := 0x00020010
def CLK.CLK_CFG'NET_EN : Loc := ⟨CLK.CLK_CFG, 0, 0⟩

/-! ### PWR: window at 0x00030000 -/
/-- PWR.PWR_STAT: spec/26_power.md. -/
def PWR.PWR_STAT : Nat := 0x00030000
def PWR.PWR_STAT'STATE : Loc := ⟨PWR.PWR_STAT, 31, 30⟩
def PWR.PWR_STAT'TARGET : Loc := ⟨PWR.PWR_STAT, 29, 28⟩
def PWR.PWR_STAT'WAKING : Loc := ⟨PWR.PWR_STAT, 27, 27⟩
def PWR.PWR_STAT'DOM_ON : Loc := ⟨PWR.PWR_STAT, 15, 0⟩
/-- PWR.LAT_TOL: spec/26_power.md. -/
def PWR.LAT_TOL : Nat := 0x00030004
def PWR.LAT_TOL'US : Loc := ⟨PWR.LAT_TOL, 19, 0⟩
/-- PWR.LEDGER_CFG: spec/26_power.md. -/
def PWR.LEDGER_CFG : Nat := 0x00030008
def PWR.LEDGER_CFG'HOST_CAP : Loc := ⟨PWR.LEDGER_CFG, 25, 16⟩
def PWR.LEDGER_CFG'BUDGET : Loc := ⟨PWR.LEDGER_CFG, 9, 0⟩
/-- PWR.LEDGER_STAT: spec/26_power.md. -/
def PWR.LEDGER_STAT : Nat := 0x0003000C
def PWR.LEDGER_STAT'EFFECTIVE : Loc := ⟨PWR.LEDGER_STAT, 29, 20⟩
def PWR.LEDGER_STAT'USED : Loc := ⟨PWR.LEDGER_STAT, 19, 10⟩
def PWR.LEDGER_STAT'WAITING : Loc := ⟨PWR.LEDGER_STAT, 9, 0⟩
/-- PWR.LEDGER_CNT: spec/26_power.md. -/
def PWR.LEDGER_CNT : Nat := 0x00030010
def PWR.LEDGER_CNT'DEFER_CNT : Loc := ⟨PWR.LEDGER_CNT, 31, 16⟩
def PWR.LEDGER_CNT'GRANT_CNT : Loc := ⟨PWR.LEDGER_CNT, 15, 0⟩
/-- PWR.LEDGER_ERR: spec/26_power.md. -/
def PWR.LEDGER_ERR : Nat := 0x00030014
def PWR.LEDGER_ERR'OVERSIZE : Loc := ⟨PWR.LEDGER_ERR, 1, 1⟩
def PWR.LEDGER_ERR'WR_REFUSED : Loc := ⟨PWR.LEDGER_ERR, 0, 0⟩
/-- PWR.LEDGER_CLASS: spec/26_power.md. -/
def PWR.LEDGER_CLASS (i : Nat) : Nat := 0x00030020 + 0x4 * i
def PWR.LEDGER_CLASS'HELD (i : Nat) : Loc := ⟨(PWR.LEDGER_CLASS i), 25, 16⟩
def PWR.LEDGER_CLASS'WAITING (i : Nat) : Loc := ⟨(PWR.LEDGER_CLASS i), 7, 0⟩
/-- PWR.THERM_STAT: spec/26_power.md. -/
def PWR.THERM_STAT : Nat := 0x00030040
def PWR.THERM_STAT'THROTTLE : Loc := ⟨PWR.THERM_STAT, 31, 31⟩
def PWR.THERM_STAT'WARN : Loc := ⟨PWR.THERM_STAT, 30, 30⟩
def PWR.THERM_STAT'TRIP_CNT : Loc := ⟨PWR.THERM_STAT, 23, 16⟩
def PWR.THERM_STAT'T_DIE : Loc := ⟨PWR.THERM_STAT, 8, 0⟩
/-- PWR.THERM_CFG: spec/26_power.md. -/
def PWR.THERM_CFG : Nat := 0x00030044
def PWR.THERM_CFG'T_THROT : Loc := ⟨PWR.THERM_CFG, 15, 8⟩
def PWR.THERM_CFG'T_WARN : Loc := ⟨PWR.THERM_CFG, 7, 0⟩
/-- PWR.THROT_TOK: spec/26_power.md. -/
def PWR.THROT_TOK : Nat := 0x00030048
def PWR.THROT_TOK'THROT_TOK : Loc := ⟨PWR.THROT_TOK, 9, 0⟩

/-! ### ADC: window at 0x00100000 -/
/-- ADC.ADC_CTRL: spec/03_analog_sampling.md. -/
def ADC.ADC_CTRL : Nat := 0x00100000
def ADC.ADC_CTRL'CAL_LEN : Loc := ⟨ADC.ADC_CTRL, 11, 9⟩
def ADC.ADC_CTRL'ROT_EN : Loc := ⟨ADC.ADC_CTRL, 8, 8⟩
def ADC.ADC_CTRL'MUX_DISCARD : Loc := ⟨ADC.ADC_CTRL, 4, 2⟩
def ADC.ADC_CTRL'REF_EN : Loc := ⟨ADC.ADC_CTRL, 0, 0⟩
/-- ADC.ADC_STAT: spec/03_analog_sampling.md. -/
def ADC.ADC_STAT : Nat := 0x00100004
def ADC.ADC_STAT'BSEQ : Loc := ⟨ADC.ADC_STAT, 31, 16⟩
def ADC.ADC_STAT'CONV_FAILED : Loc := ⟨ADC.ADC_STAT, 15, 8⟩
def ADC.ADC_STAT'ADC_FAULT : Loc := ⟨ADC.ADC_STAT, 7, 7⟩
def ADC.ADC_STAT'REF_SETTLED : Loc := ⟨ADC.ADC_STAT, 6, 6⟩
def ADC.ADC_STAT'ROT_ACTIVE : Loc := ⟨ADC.ADC_STAT, 5, 5⟩
def ADC.ADC_STAT'ROT_DEFERRED : Loc := ⟨ADC.ADC_STAT, 4, 4⟩
def ADC.ADC_STAT'OUT_CONV : Loc := ⟨ADC.ADC_STAT, 2, 0⟩
/-- ADC.ADC_ERR: spec/03_analog_sampling.md. -/
def ADC.ADC_ERR : Nat := 0x00100008
def ADC.ADC_ERR'CFG_REFUSED : Loc := ⟨ADC.ADC_ERR, 0, 0⟩
/-- ADC.CAL_FS_UV: spec/03_analog_sampling.md. -/
def ADC.CAL_FS_UV : Nat := 0x0010000C
def ADC.CAL_FS_UV'CAL_FS_UV : Loc := ⟨ADC.CAL_FS_UV, 20, 0⟩
/-- ADC.SYSCAL_CTRL: spec/03_analog_sampling.md. -/
def ADC.SYSCAL_CTRL : Nat := 0x00100010
def ADC.SYSCAL_CTRL'GO : Loc := ⟨ADC.SYSCAL_CTRL, 31, 31⟩
def ADC.SYSCAL_CTRL'STEP : Loc := ⟨ADC.SYSCAL_CTRL, 17, 16⟩
def ADC.SYSCAL_CTRL'CH_COUNT : Loc := ⟨ADC.SYSCAL_CTRL, 15, 8⟩
def ADC.SYSCAL_CTRL'CH_FIRST : Loc := ⟨ADC.SYSCAL_CTRL, 7, 0⟩
/-- ADC.SYSCAL_TARGET: spec/03_analog_sampling.md. -/
def ADC.SYSCAL_TARGET : Nat := 0x00100014
def ADC.SYSCAL_TARGET'TARGET : Loc := ⟨ADC.SYSCAL_TARGET, 15, 0⟩
/-- ADC.SYSCAL_STAT: spec/03_analog_sampling.md. -/
def ADC.SYSCAL_STAT : Nat := 0x00100018
def ADC.SYSCAL_STAT'REC_ID : Loc := ⟨ADC.SYSCAL_STAT, 31, 16⟩
def ADC.SYSCAL_STAT'STATUS : Loc := ⟨ADC.SYSCAL_STAT, 7, 0⟩
/-- ADC.CAP_CTRL: spec/03_analog_sampling.md. -/
def ADC.CAP_CTRL : Nat := 0x00100020
def ADC.CAP_CTRL'ARM : Loc := ⟨ADC.CAP_CTRL, 31, 31⟩
def ADC.CAP_CTRL'STOP : Loc := ⟨ADC.CAP_CTRL, 30, 30⟩
def ADC.CAP_CTRL'TRIG_SRC : Loc := ⟨ADC.CAP_CTRL, 25, 24⟩
def ADC.CAP_CTRL'TRIG_SEL : Loc := ⟨ADC.CAP_CTRL, 23, 16⟩
def ADC.CAP_CTRL'POST : Loc := ⟨ADC.CAP_CTRL, 15, 0⟩
/-- ADC.CAP_BASE: spec/03_analog_sampling.md. -/
def ADC.CAP_BASE : Nat := 0x00100024
def ADC.CAP_BASE'BASE : Loc := ⟨ADC.CAP_BASE, 21, 12⟩
/-- ADC.CAP_LEN: spec/03_analog_sampling.md. -/
def ADC.CAP_LEN : Nat := 0x00100028
def ADC.CAP_LEN'LEN : Loc := ⟨ADC.CAP_LEN, 22, 12⟩
/-- ADC.CAP_STAT: spec/03_analog_sampling.md. -/
def ADC.CAP_STAT : Nat := 0x0010002C
def ADC.CAP_STAT'STATE : Loc := ⟨ADC.CAP_STAT, 31, 29⟩
def ADC.CAP_STAT'WPTR : Loc := ⟨ADC.CAP_STAT, 21, 0⟩
/-- ADC.CAP_TRIG_PTR: spec/03_analog_sampling.md. -/
def ADC.CAP_TRIG_PTR : Nat := 0x00100030
def ADC.CAP_TRIG_PTR'PTR : Loc := ⟨ADC.CAP_TRIG_PTR, 21, 0⟩
/-- ADC.CAP_MASK: spec/03_analog_sampling.md. -/
def ADC.CAP_MASK (i : Nat) : Nat := 0x00100040 + 0x4 * i
def ADC.CAP_MASK'MASK (i : Nat) : Loc := ⟨(ADC.CAP_MASK i), 31, 0⟩
/-- ADC.CONV_CORR: spec/03_analog_sampling.md. -/
def ADC.CONV_CORR (i : Nat) : Nat := 0x00100100 + 0x8 * i
def ADC.CONV_CORR'GAIN_CORR (i : Nat) : Loc := ⟨(ADC.CONV_CORR i), 31, 16⟩
def ADC.CONV_CORR'OFS_CORR (i : Nat) : Loc := ⟨(ADC.CONV_CORR i), 15, 0⟩
/-- ADC.CONV_AGE: spec/03_analog_sampling.md. -/
def ADC.CONV_AGE (i : Nat) : Nat := 0x00100104 + 0x8 * i
def ADC.CONV_AGE'AGE (i : Nat) : Loc := ⟨(ADC.CONV_AGE i), 31, 0⟩
/-- ADC.CH_CFG: spec/03_analog_sampling.md. -/
def ADC.CH_CFG (i : Nat) : Nat := 0x00100400 + 0x4 * i
def ADC.CH_CFG'CMP_EVT_EN (i : Nat) : Loc := ⟨(ADC.CH_CFG i), 24, 24⟩
def ADC.CH_CFG'QUAL (i : Nat) : Loc := ⟨(ADC.CH_CFG i), 22, 20⟩
def ADC.CH_CFG'HYS (i : Nat) : Loc := ⟨(ADC.CH_CFG i), 19, 18⟩
def ADC.CH_CFG'CMP_LO_EN (i : Nat) : Loc := ⟨(ADC.CH_CFG i), 17, 17⟩
def ADC.CH_CFG'CMP_HI_EN (i : Nat) : Loc := ⟨(ADC.CH_CFG i), 16, 16⟩
def ADC.CH_CFG'DEC (i : Nat) : Loc := ⟨(ADC.CH_CFG i), 10, 8⟩
def ADC.CH_CFG'GAIN (i : Nat) : Loc := ⟨(ADC.CH_CFG i), 5, 4⟩
def ADC.CH_CFG'MUX (i : Nat) : Loc := ⟨(ADC.CH_CFG i), 1, 0⟩
/-- ADC.CMP_TH: spec/03_analog_sampling.md. -/
def ADC.CMP_TH (i : Nat) : Nat := 0x00100800 + 0x4 * i
def ADC.CMP_TH'HI_TH (i : Nat) : Loc := ⟨(ADC.CMP_TH i), 15, 8⟩
def ADC.CMP_TH'LO_TH (i : Nat) : Loc := ⟨(ADC.CMP_TH i), 7, 0⟩
/-- ADC.CH_COEF: spec/03_analog_sampling.md. -/
def ADC.CH_COEF (i : Nat) : Nat := 0x00100C00 + 0x4 * i
def ADC.CH_COEF'G (i : Nat) : Loc := ⟨(ADC.CH_COEF i), 31, 16⟩
def ADC.CH_COEF'O (i : Nat) : Loc := ⟨(ADC.CH_COEF i), 15, 0⟩
/-- ADC.RES: spec/03_analog_sampling.md. -/
def ADC.RES (i : Nat) : Nat := 0x00101000 + 0x4 * i
def ADC.RES'RES (i : Nat) : Loc := ⟨(ADC.RES i), 31, 0⟩
/-- ADC.CMP_LATCH: spec/03_analog_sampling.md. -/
def ADC.CMP_LATCH (i : Nat) : Nat := 0x00101400 + 0x4 * i
def ADC.CMP_LATCH'LATCH (i : Nat) : Loc := ⟨(ADC.CMP_LATCH i), 31, 0⟩
/-- ADC.CMP_LIVE: spec/03_analog_sampling.md. -/
def ADC.CMP_LIVE (i : Nat) : Nat := 0x00101420 + 0x4 * i
def ADC.CMP_LIVE'LIVE (i : Nat) : Loc := ⟨(ADC.CMP_LIVE i), 31, 0⟩

/-! ### PWM: window at 0x00200000 -/
/-- PWM.PWM_CTRL: spec/04_pwm_generator.md. -/
def PWM.PWM_CTRL : Nat := 0x00200000
def PWM.PWM_CTRL'SYNC_IN_EN : Loc := ⟨PWM.PWM_CTRL, 9, 9⟩
def PWM.PWM_CTRL'SYNC_OUT_EN : Loc := ⟨PWM.PWM_CTRL, 8, 8⟩
def PWM.PWM_CTRL'SYNC_GRP : Loc := ⟨PWM.PWM_CTRL, 6, 0⟩
/-- PWM.PWM_STAT: spec/04_pwm_generator.md. -/
def PWM.PWM_STAT : Nat := 0x00200004
def PWM.PWM_STAT'SYNC_LOCK : Loc := ⟨PWM.PWM_STAT, 31, 31⟩
def PWM.PWM_STAT'SYNC_FAULT : Loc := ⟨PWM.PWM_STAT, 30, 30⟩
def PWM.PWM_STAT'TRIM : Loc := ⟨PWM.PWM_STAT, 20, 16⟩
def PWM.PWM_STAT'HALF : Loc := ⟨PWM.PWM_STAT, 15, 0⟩
/-- PWM.SYNC_CFG: spec/04_pwm_generator.md. -/
def PWM.SYNC_CFG : Nat := 0x00200008
def PWM.SYNC_CFG'TOL : Loc := ⟨PWM.SYNC_CFG, 23, 16⟩
def PWM.SYNC_CFG'DELAY : Loc := ⟨PWM.SYNC_CFG, 7, 0⟩
/-- PWM.TRIP_PIN_CFG: spec/04_pwm_generator.md. -/
def PWM.TRIP_PIN_CFG : Nat := 0x00200010
def PWM.TRIP_PIN_CFG'QUAL : Loc := ⟨PWM.TRIP_PIN_CFG, 18, 16⟩
def PWM.TRIP_PIN_CFG'POL : Loc := ⟨PWM.TRIP_PIN_CFG, 15, 0⟩
/-- PWM.TRIP_PIN_LIVE: spec/04_pwm_generator.md. -/
def PWM.TRIP_PIN_LIVE : Nat := 0x00200014
def PWM.TRIP_PIN_LIVE'LIVE : Loc := ⟨PWM.TRIP_PIN_LIVE, 15, 0⟩
/-- PWM.BLANK_CFG: spec/04_pwm_generator.md. -/
def PWM.BLANK_CFG (i : Nat) : Nat := 0x00200100 + 0x8 * i
def PWM.BLANK_CFG'EN (i : Nat) : Loc := ⟨(PWM.BLANK_CFG i), 31, 31⟩
def PWM.BLANK_CFG'WIDTH (i : Nat) : Loc := ⟨(PWM.BLANK_CFG i), 25, 16⟩
def PWM.BLANK_CFG'GROUP (i : Nat) : Loc := ⟨(PWM.BLANK_CFG i), 14, 8⟩
def PWM.BLANK_CFG'SRC (i : Nat) : Loc := ⟨(PWM.BLANK_CFG i), 7, 0⟩
/-- PWM.BLANK_STAT: spec/04_pwm_generator.md. -/
def PWM.BLANK_STAT (i : Nat) : Nat := 0x00200104 + 0x8 * i
def PWM.BLANK_STAT'OPEN (i : Nat) : Loc := ⟨(PWM.BLANK_STAT i), 0, 0⟩
/-- PWM.GRP_CFG: spec/04_pwm_generator.md. -/
def PWM.GRP_CFG (i : Nat) : Nat := 0x00201000 + 0x100 * i
def PWM.GRP_CFG'SPARE_SRC (i : Nat) : Loc := ⟨(PWM.GRP_CFG i), 9, 8⟩
def PWM.GRP_CFG'SRC (i : Nat) : Loc := ⟨(PWM.GRP_CFG i), 5, 4⟩
def PWM.GRP_CFG'TRIP_STATE (i : Nat) : Loc := ⟨(PWM.GRP_CFG i), 3, 3⟩
def PWM.GRP_CFG'MODE (i : Nat) : Loc := ⟨(PWM.GRP_CFG i), 2, 0⟩
/-- PWM.GRP_STAT: spec/04_pwm_generator.md. -/
def PWM.GRP_STAT (i : Nat) : Nat := 0x00201004 + 0x100 * i
def PWM.GRP_STAT'TRIPPED (i : Nat) : Loc := ⟨(PWM.GRP_STAT i), 31, 31⟩
def PWM.GRP_STAT'TRIP_CAUSE (i : Nat) : Loc := ⟨(PWM.GRP_STAT i), 23, 16⟩
def PWM.GRP_STAT'SHADOW_READY (i : Nat) : Loc := ⟨(PWM.GRP_STAT i), 4, 4⟩
def PWM.GRP_STAT'WR_REFUSED (i : Nat) : Loc := ⟨(PWM.GRP_STAT i), 3, 3⟩
def PWM.GRP_STAT'CLEAR_REJECTED (i : Nat) : Loc := ⟨(PWM.GRP_STAT i), 2, 2⟩
def PWM.GRP_STAT'LATE (i : Nat) : Loc := ⟨(PWM.GRP_STAT i), 1, 1⟩
def PWM.GRP_STAT'SPARE_READY (i : Nat) : Loc := ⟨(PWM.GRP_STAT i), 0, 0⟩
/-- PWM.GRP_CMD: spec/04_pwm_generator.md. -/
def PWM.GRP_CMD (i : Nat) : Nat := 0x00201008 + 0x100 * i
def PWM.GRP_CMD'SPARE_COMMIT (i : Nat) : Loc := ⟨(PWM.GRP_CMD i), 3, 3⟩
def PWM.GRP_CMD'FORCE_TRIP (i : Nat) : Loc := ⟨(PWM.GRP_CMD i), 2, 2⟩
def PWM.GRP_CMD'TRIP_CLR (i : Nat) : Loc := ⟨(PWM.GRP_CMD i), 1, 1⟩
def PWM.GRP_CMD'COMMIT (i : Nat) : Loc := ⟨(PWM.GRP_CMD i), 0, 0⟩
/-- PWM.TRIP_SEL_A: spec/04_pwm_generator.md. -/
def PWM.TRIP_SEL_A (i : Nat) : Nat := 0x00201010 + 0x100 * i
def PWM.TRIP_SEL_A'SEL (i : Nat) : Loc := ⟨(PWM.TRIP_SEL_A i), 31, 0⟩
/-- PWM.TRIP_SEL_B: spec/04_pwm_generator.md. -/
def PWM.TRIP_SEL_B (i : Nat) : Nat := 0x00201014 + 0x100 * i
def PWM.TRIP_SEL_B'SEL (i : Nat) : Loc := ⟨(PWM.TRIP_SEL_B i), 31, 0⟩
/-- PWM.TRIP_EN: spec/04_pwm_generator.md. -/
def PWM.TRIP_EN (i : Nat) : Nat := 0x00201018 + 0x100 * i
def PWM.TRIP_EN'EN (i : Nat) : Loc := ⟨(PWM.TRIP_EN i), 7, 0⟩
/-- PWM.DT_CFG: spec/04_pwm_generator.md. -/
def PWM.DT_CFG (i j : Nat) : Nat := 0x00201020 + 0x100 * i + 0x8 * j
def PWM.DT_CFG'DT_FALL (i j : Nat) : Loc := ⟨(PWM.DT_CFG i j), 25, 16⟩
def PWM.DT_CFG'DT_RISE (i j : Nat) : Loc := ⟨(PWM.DT_CFG i j), 9, 0⟩
/-- PWM.DUTY_SH: spec/04_pwm_generator.md. -/
def PWM.DUTY_SH (i j : Nat) : Nat := 0x00201024 + 0x100 * i + 0x8 * j
def PWM.DUTY_SH'HON (i j : Nat) : Loc := ⟨(PWM.DUTY_SH i j), 15, 0⟩
/-- PWM.DUTY_ACT: spec/04_pwm_generator.md. -/
def PWM.DUTY_ACT (i j : Nat) : Nat := 0x00201040 + 0x100 * i + 0x4 * j
def PWM.DUTY_ACT'HON (i j : Nat) : Loc := ⟨(PWM.DUTY_ACT i j), 15, 0⟩
/-- PWM.DT_ACT: spec/04_pwm_generator.md. -/
def PWM.DT_ACT (i j : Nat) : Nat := 0x00201050 + 0x100 * i + 0x4 * j
def PWM.DT_ACT'DT_FALL (i j : Nat) : Loc := ⟨(PWM.DT_ACT i j), 25, 16⟩
def PWM.DT_ACT'DT_RISE (i j : Nat) : Loc := ⟨(PWM.DT_ACT i j), 9, 0⟩
/-- PWM.LATE_CNT: spec/04_pwm_generator.md. -/
def PWM.LATE_CNT (i : Nat) : Nat := 0x00201060 + 0x100 * i
def PWM.LATE_CNT'CNT (i : Nat) : Loc := ⟨(PWM.LATE_CNT i), 15, 0⟩

/-! ### BLK: window at 0x00300000 -/
/-- BLK.BLK_UP: spec/05_brick_links.md. -/
def BLK.BLK_UP : Nat := 0x00300000
def BLK.BLK_UP'UP : Loc := ⟨BLK.BLK_UP, 15, 0⟩
/-- BLK.PORT_CFG: spec/05_brick_links.md. -/
def BLK.PORT_CFG (i : Nat) : Nat := 0x00301000 + 0x100 * i
def BLK.PORT_CFG'AUTO_RESUME (i : Nat) : Loc := ⟨(BLK.PORT_CFG i), 1, 1⟩
def BLK.PORT_CFG'EN (i : Nat) : Loc := ⟨(BLK.PORT_CFG i), 0, 0⟩
/-- BLK.PORT_STAT: spec/05_brick_links.md. -/
def BLK.PORT_STAT (i : Nat) : Nat := 0x00301004 + 0x100 * i
def BLK.PORT_STAT'STATE (i : Nat) : Loc := ⟨(BLK.PORT_STAT i), 31, 29⟩
def BLK.PORT_STAT'UP_LOST (i : Nat) : Loc := ⟨(BLK.PORT_STAT i), 28, 28⟩
def BLK.PORT_STAT'STO_DISAGREE (i : Nat) : Loc := ⟨(BLK.PORT_STAT i), 27, 27⟩
def BLK.PORT_STAT'RESTART_PEND (i : Nat) : Loc := ⟨(BLK.PORT_STAT i), 26, 26⟩
def BLK.PORT_STAT'CFG_PEND (i : Nat) : Loc := ⟨(BLK.PORT_STAT i), 25, 25⟩
def BLK.PORT_STAT'LINK_DELAY (i : Nat) : Loc := ⟨(BLK.PORT_STAT i), 15, 0⟩
/-- BLK.PORT_CMD: spec/05_brick_links.md. -/
def BLK.PORT_CMD (i : Nat) : Nat := 0x00301008 + 0x100 * i
def BLK.PORT_CMD'RETRAIN (i : Nat) : Loc := ⟨(BLK.PORT_CMD i), 1, 1⟩
def BLK.PORT_CMD'RESTART (i : Nat) : Loc := ⟨(BLK.PORT_CMD i), 0, 0⟩
/-- BLK.ERR_CNT: spec/05_brick_links.md. -/
def BLK.ERR_CNT (i : Nat) : Nat := 0x0030100C + 0x100 * i
def BLK.ERR_CNT'TRAIN_FAIL (i : Nat) : Loc := ⟨(BLK.ERR_CNT i), 31, 24⟩
def BLK.ERR_CNT'LOS_CNT (i : Nat) : Loc := ⟨(BLK.ERR_CNT i), 23, 16⟩
def BLK.ERR_CNT'UP_CRC (i : Nat) : Loc := ⟨(BLK.ERR_CNT i), 15, 0⟩
/-- BLK.UP_HDR: spec/05_brick_links.md. -/
def BLK.UP_HDR (i : Nat) : Nat := 0x00301010 + 0x100 * i
def BLK.UP_HDR'HDR (i : Nat) : Loc := ⟨(BLK.UP_HDR i), 31, 0⟩
/-- BLK.UP_AXIS: spec/05_brick_links.md. -/
def BLK.UP_AXIS (i j : Nat) : Nat := 0x00301014 + 0x100 * i + 0x4 * j
def BLK.UP_AXIS'AXIS (i j : Nat) : Loc := ⟨(BLK.UP_AXIS i j), 31, 0⟩
/-- BLK.UP_MISC: spec/05_brick_links.md. -/
def BLK.UP_MISC (i : Nat) : Nat := 0x00301024 + 0x100 * i
def BLK.UP_MISC'T_BOARD (i : Nat) : Loc := ⟨(BLK.UP_MISC i), 23, 16⟩
def BLK.UP_MISC'SEQ_APPLIED (i : Nat) : Loc := ⟨(BLK.UP_MISC i), 15, 0⟩
/-- BLK.PORT_MAP: spec/05_brick_links.md. -/
def BLK.PORT_MAP (i : Nat) : Nat := 0x00301028 + 0x100 * i
def BLK.PORT_MAP'AXIS3 (i : Nat) : Loc := ⟨(BLK.PORT_MAP i), 29, 24⟩
def BLK.PORT_MAP'AXIS2 (i : Nat) : Loc := ⟨(BLK.PORT_MAP i), 21, 16⟩
def BLK.PORT_MAP'AXIS1 (i : Nat) : Loc := ⟨(BLK.PORT_MAP i), 13, 8⟩
def BLK.PORT_MAP'AXIS0 (i : Nat) : Loc := ⟨(BLK.PORT_MAP i), 5, 0⟩
/-- BLK.POS_EN: spec/05_brick_links.md. -/
def BLK.POS_EN (i : Nat) : Nat := 0x0030102C + 0x100 * i
def BLK.POS_EN'EN (i : Nat) : Loc := ⟨(BLK.POS_EN i), 3, 0⟩

/-! ### FB: window at 0x00400000 -/
/-- FB.FB_ERR: spec/06_position_feedback.md. -/
def FB.FB_ERR : Nat := 0x00400000
def FB.FB_ERR'CFG_REFUSED : Loc := ⟨FB.FB_ERR, 0, 0⟩
/-- FB.FB_CFG: spec/06_position_feedback.md. -/
def FB.FB_CFG (i : Nat) : Nat := 0x00401000 + 0x100 * i
def FB.FB_CFG'EN (i : Nat) : Loc := ⟨(FB.FB_CFG i), 31, 31⟩
def FB.FB_CFG'DIR_INV (i : Nat) : Loc := ⟨(FB.FB_CFG i), 30, 30⟩
def FB.FB_CFG'REF_KIND (i : Nat) : Loc := ⟨(FB.FB_CFG i), 29, 28⟩
def FB.FB_CFG'FILT (i : Nat) : Loc := ⟨(FB.FB_CFG i), 27, 24⟩
def FB.FB_CFG'TPR_M1 (i : Nat) : Loc := ⟨(FB.FB_CFG i), 11, 0⟩
/-- FB.SPD_CFG: spec/06_position_feedback.md. -/
def FB.SPD_CFG (i : Nat) : Nat := 0x00401004 + 0x100 * i
def FB.SPD_CFG'SPD_HI (i : Nat) : Loc := ⟨(FB.SPD_CFG i), 31, 16⟩
def FB.SPD_CFG'SPD_LO (i : Nat) : Loc := ⟨(FB.SPD_CFG i), 15, 0⟩
/-- FB.SPD_CFG2: spec/06_position_feedback.md. -/
def FB.SPD_CFG2 (i : Nat) : Nat := 0x00401008 + 0x100 * i
def FB.SPD_CFG2'STILL_T (i : Nat) : Loc := ⟨(FB.SPD_CFG2 i), 23, 8⟩
def FB.SPD_CFG2'BLEND_N (i : Nat) : Loc := ⟨(FB.SPD_CFG2 i), 3, 0⟩
/-- FB.POS_MID_LO: spec/06_position_feedback.md. -/
def FB.POS_MID_LO (i : Nat) : Nat := 0x00401010 + 0x100 * i
def FB.POS_MID_LO'LO (i : Nat) : Loc := ⟨(FB.POS_MID_LO i), 31, 0⟩
/-- FB.POS_MID_HI: spec/06_position_feedback.md. -/
def FB.POS_MID_HI (i : Nat) : Nat := 0x00401014 + 0x100 * i
def FB.POS_MID_HI'HI (i : Nat) : Loc := ⟨(FB.POS_MID_HI i), 31, 0⟩
/-- FB.POS_BND_LO: spec/06_position_feedback.md. -/
def FB.POS_BND_LO (i : Nat) : Nat := 0x00401018 + 0x100 * i
def FB.POS_BND_LO'LO (i : Nat) : Loc := ⟨(FB.POS_BND_LO i), 31, 0⟩
/-- FB.POS_BND_HI: spec/06_position_feedback.md. -/
def FB.POS_BND_HI (i : Nat) : Nat := 0x0040101C + 0x100 * i
def FB.POS_BND_HI'HI (i : Nat) : Loc := ⟨(FB.POS_BND_HI i), 31, 0⟩
/-- FB.SPEED: spec/06_position_feedback.md. -/
def FB.SPEED (i : Nat) : Nat := 0x00401020 + 0x100 * i
def FB.SPEED'SPEED (i : Nat) : Loc := ⟨(FB.SPEED i), 31, 0⟩
/-- FB.FB_STAT: spec/06_position_feedback.md. -/
def FB.FB_STAT (i : Nat) : Nat := 0x00401024 + 0x100 * i
def FB.FB_STAT'FB_FAULT (i : Nat) : Loc := ⟨(FB.FB_STAT i), 31, 31⟩
def FB.FB_STAT'FAULT_CAUSE (i : Nat) : Loc := ⟨(FB.FB_STAT i), 30, 28⟩
def FB.FB_STAT'CLR_REJECTED (i : Nat) : Loc := ⟨(FB.FB_STAT i), 27, 27⟩
def FB.FB_STAT'REF_MISMATCH (i : Nat) : Loc := ⟨(FB.FB_STAT i), 26, 26⟩
def FB.FB_STAT'REF_MISSED (i : Nat) : Loc := ⟨(FB.FB_STAT i), 25, 25⟩
def FB.FB_STAT'WIRE (i : Nat) : Loc := ⟨(FB.FB_STAT i), 24, 24⟩
def FB.FB_STAT'XCHK_WARN (i : Nat) : Loc := ⟨(FB.FB_STAT i), 23, 23⟩
def FB.FB_STAT'ALIGN_REFUSED (i : Nat) : Loc := ⟨(FB.FB_STAT i), 22, 22⟩
def FB.FB_STAT'ALIGNED (i : Nat) : Loc := ⟨(FB.FB_STAT i), 21, 21⟩
def FB.FB_STAT'REF_SEEN (i : Nat) : Loc := ⟨(FB.FB_STAT i), 20, 20⟩
def FB.FB_STAT'STILL (i : Nat) : Loc := ⟨(FB.FB_STAT i), 19, 19⟩
def FB.FB_STAT'INTERP_VALID (i : Nat) : Loc := ⟨(FB.FB_STAT i), 18, 18⟩
def FB.FB_STAT'DIR (i : Nat) : Loc := ⟨(FB.FB_STAT i), 17, 17⟩
def FB.FB_STAT'W_Q8 (i : Nat) : Loc := ⟨(FB.FB_STAT i), 16, 8⟩
def FB.FB_STAT'QERR_CNT (i : Nat) : Loc := ⟨(FB.FB_STAT i), 7, 0⟩
/-- FB.REF_ORIGIN: spec/06_position_feedback.md. -/
def FB.REF_ORIGIN (i : Nat) : Nat := 0x00401028 + 0x100 * i
def FB.REF_ORIGIN'ORIGIN (i : Nat) : Loc := ⟨(FB.REF_ORIGIN i), 31, 0⟩
/-- FB.REF_POS: spec/06_position_feedback.md. -/
def FB.REF_POS (i : Nat) : Nat := 0x0040102C + 0x100 * i
def FB.REF_POS'POS (i : Nat) : Loc := ⟨(FB.REF_POS i), 31, 0⟩
/-- FB.REF_CNT: spec/06_position_feedback.md. -/
def FB.REF_CNT (i : Nat) : Nat := 0x00401030 + 0x100 * i
def FB.REF_CNT'MISMATCH_DELTA (i : Nat) : Loc := ⟨(FB.REF_CNT i), 31, 16⟩
def FB.REF_CNT'MISMATCH_CNT (i : Nat) : Loc := ⟨(FB.REF_CNT i), 15, 8⟩
def FB.REF_CNT'DETECT_CNT (i : Nat) : Loc := ⟨(FB.REF_CNT i), 7, 0⟩
/-- FB.FB_CMD: spec/06_position_feedback.md. -/
def FB.FB_CMD (i : Nat) : Nat := 0x00401034 + 0x100 * i
def FB.FB_CMD'ALIGN (i : Nat) : Loc := ⟨(FB.FB_CMD i), 1, 1⟩
def FB.FB_CMD'FAULT_CLR (i : Nat) : Loc := ⟨(FB.FB_CMD i), 0, 0⟩
/-- FB.WIRE_STAT: spec/06_position_feedback.md. -/
def FB.WIRE_STAT (i : Nat) : Nat := 0x00401038 + 0x100 * i
def FB.WIRE_STAT'PHASE_BAD (i : Nat) : Loc := ⟨(FB.WIRE_STAT i), 5, 5⟩
def FB.WIRE_STAT'TRACK_BAD (i : Nat) : Loc := ⟨(FB.WIRE_STAT i), 4, 4⟩
def FB.WIRE_STAT'LEGS (i : Nat) : Loc := ⟨(FB.WIRE_STAT i), 3, 0⟩
/-- FB.CMP_CTRL: spec/06_position_feedback.md. -/
def FB.CMP_CTRL (i : Nat) : Nat := 0x00401040 + 0x100 * i
def FB.CMP_CTRL'EN (i : Nat) : Loc := ⟨(FB.CMP_CTRL i), 31, 31⟩
def FB.CMP_CTRL'DIR (i : Nat) : Loc := ⟨(FB.CMP_CTRL i), 30, 30⟩
def FB.CMP_CTRL'MODE (i : Nat) : Loc := ⟨(FB.CMP_CTRL i), 29, 29⟩
def FB.CMP_CTRL'CMP_EVT_EN (i : Nat) : Loc := ⟨(FB.CMP_CTRL i), 28, 28⟩
def FB.CMP_CTRL'PW (i : Nat) : Loc := ⟨(FB.CMP_CTRL i), 7, 0⟩
/-- FB.CMP_VAL: spec/06_position_feedback.md. -/
def FB.CMP_VAL (i : Nat) : Nat := 0x00401044 + 0x100 * i
def FB.CMP_VAL'VAL (i : Nat) : Loc := ⟨(FB.CMP_VAL i), 31, 0⟩
/-- FB.CMP_SPACING: spec/06_position_feedback.md. -/
def FB.CMP_SPACING (i : Nat) : Nat := 0x00401048 + 0x100 * i
def FB.CMP_SPACING'SPACING (i : Nat) : Loc := ⟨(FB.CMP_SPACING i), 31, 0⟩
/-- FB.CMP_STAT: spec/06_position_feedback.md. -/
def FB.CMP_STAT (i : Nat) : Nat := 0x0040104C + 0x100 * i
def FB.CMP_STAT'HITS (i : Nat) : Loc := ⟨(FB.CMP_STAT i), 31, 16⟩
def FB.CMP_STAT'SKIPPED (i : Nat) : Loc := ⟨(FB.CMP_STAT i), 15, 0⟩
/-- FB.XCHK_CFG: spec/06_position_feedback.md. -/
def FB.XCHK_CFG (i : Nat) : Nat := 0x00401050 + 0x100 * i
def FB.XCHK_CFG'EN (i : Nat) : Loc := ⟨(FB.XCHK_CFG i), 31, 31⟩
def FB.XCHK_CFG'AUTO_ALIGN (i : Nat) : Loc := ⟨(FB.XCHK_CFG i), 30, 30⟩
def FB.XCHK_CFG'N (i : Nat) : Loc := ⟨(FB.XCHK_CFG i), 19, 16⟩
def FB.XCHK_CFG'TOL (i : Nat) : Loc := ⟨(FB.XCHK_CFG i), 15, 0⟩
/-- FB.XCHK_RATIO: spec/06_position_feedback.md. -/
def FB.XCHK_RATIO (i : Nat) : Nat := 0x00401054 + 0x100 * i
def FB.XCHK_RATIO'RATIO (i : Nat) : Loc := ⟨(FB.XCHK_RATIO i), 31, 0⟩
/-- FB.XCHK_OFS: spec/06_position_feedback.md. -/
def FB.XCHK_OFS (i : Nat) : Nat := 0x00401058 + 0x100 * i
def FB.XCHK_OFS'OFS (i : Nat) : Loc := ⟨(FB.XCHK_OFS i), 31, 0⟩
/-- FB.XCHK_DIFF: spec/06_position_feedback.md. -/
def FB.XCHK_DIFF (i : Nat) : Nat := 0x0040105C + 0x100 * i
def FB.XCHK_DIFF'XCHK_SKIP (i : Nat) : Loc := ⟨(FB.XCHK_DIFF i), 31, 16⟩
def FB.XCHK_DIFF'DIFF (i : Nat) : Loc := ⟨(FB.XCHK_DIFF i), 15, 0⟩

/-! ### CTL: window at 0x00500000 -/
/-- CTL.AX_CTRL: spec/07_control_engine.md. -/
def CTL.AX_CTRL (i : Nat) : Nat := 0x00500000 + 0x400 * i
def CTL.AX_CTRL'EN (i : Nat) : Loc := ⟨(CTL.AX_CTRL i), 31, 31⟩
def CTL.AX_CTRL'FAULT_CLR (i : Nat) : Loc := ⟨(CTL.AX_CTRL i), 30, 30⟩
def CTL.AX_CTRL'SRC_REQ (i : Nat) : Loc := ⟨(CTL.AX_CTRL i), 26, 24⟩
/-- CTL.AX_STAT: spec/07_control_engine.md. -/
def CTL.AX_STAT (i : Nat) : Nat := 0x00500004 + 0x400 * i
def CTL.AX_STAT'STATE (i : Nat) : Loc := ⟨(CTL.AX_STAT i), 31, 30⟩
def CTL.AX_STAT'SRC_ACT (i : Nat) : Loc := ⟨(CTL.AX_STAT i), 29, 27⟩
def CTL.AX_STAT'FAULT_CAUSE (i : Nat) : Loc := ⟨(CTL.AX_STAT i), 26, 24⟩
def CTL.AX_STAT'REGION (i : Nat) : Loc := ⟨(CTL.AX_STAT i), 23, 20⟩
def CTL.AX_STAT'SAT_D (i : Nat) : Loc := ⟨(CTL.AX_STAT i), 19, 19⟩
def CTL.AX_STAT'SAT_Q (i : Nat) : Loc := ⟨(CTL.AX_STAT i), 18, 18⟩
def CTL.AX_STAT'SAT_VEL (i : Nat) : Loc := ⟨(CTL.AX_STAT i), 17, 17⟩
def CTL.AX_STAT'VDC_LOW (i : Nat) : Loc := ⟨(CTL.AX_STAT i), 16, 16⟩
def CTL.AX_STAT'BAD_RUN (i : Nat) : Loc := ⟨(CTL.AX_STAT i), 15, 8⟩
/-- CTL.AX_FLAGS: spec/07_control_engine.md. -/
def CTL.AX_FLAGS (i : Nat) : Nat := 0x00500008 + 0x400 * i
def CTL.AX_FLAGS'INJ_REFUSED (i : Nat) : Loc := ⟨(CTL.AX_FLAGS i), 9, 9⟩
def CTL.AX_FLAGS'SAMP_BAD (i : Nat) : Loc := ⟨(CTL.AX_FLAGS i), 8, 8⟩
def CTL.AX_FLAGS'EN_REFUSED (i : Nat) : Loc := ⟨(CTL.AX_FLAGS i), 7, 7⟩
def CTL.AX_FLAGS'SRC_REFUSED (i : Nat) : Loc := ⟨(CTL.AX_FLAGS i), 6, 6⟩
def CTL.AX_FLAGS'CLR_REJECTED (i : Nat) : Loc := ⟨(CTL.AX_FLAGS i), 5, 5⟩
def CTL.AX_FLAGS'PRESET_CLAMP (i : Nat) : Loc := ⟨(CTL.AX_FLAGS i), 4, 4⟩
def CTL.AX_FLAGS'STALE_REF (i : Nat) : Loc := ⟨(CTL.AX_FLAGS i), 3, 3⟩
def CTL.AX_FLAGS'STALE_L1 (i : Nat) : Loc := ⟨(CTL.AX_FLAGS i), 2, 2⟩
def CTL.AX_FLAGS'OUT_STALE (i : Nat) : Loc := ⟨(CTL.AX_FLAGS i), 1, 1⟩
def CTL.AX_FLAGS'SAT_ARITH (i : Nat) : Loc := ⟨(CTL.AX_FLAGS i), 0, 0⟩
/-- CTL.FAULT_CFG: spec/07_control_engine.md. -/
def CTL.FAULT_CFG (i : Nat) : Nat := 0x0050000C + 0x400 * i
def CTL.FAULT_CFG'BAD_MAX (i : Nat) : Loc := ⟨(CTL.FAULT_CFG i), 3, 0⟩
/-- CTL.SCALE: spec/07_control_engine.md. -/
def CTL.SCALE (i : Nat) : Nat := 0x00500044 + 0x400 * i
def CTL.SCALE'S_TARGET (i : Nat) : Loc := ⟨(CTL.SCALE i), 31, 16⟩
def CTL.SCALE'S (i : Nat) : Loc := ⟨(CTL.SCALE i), 15, 0⟩
/-- CTL.ELEC: spec/07_control_engine.md. -/
def CTL.ELEC (i : Nat) : Nat := 0x00500090 + 0x400 * i
def CTL.ELEC'SCALE_SRC (i : Nat) : Loc := ⟨(CTL.ELEC i), 15, 12⟩
def CTL.ELEC'DEC_EN (i : Nat) : Loc := ⟨(CTL.ELEC i), 11, 11⟩
def CTL.ELEC'ANG_REF_EN (i : Nat) : Loc := ⟨(CTL.ELEC i), 10, 10⟩
def CTL.ELEC'ADV_EN (i : Nat) : Loc := ⟨(CTL.ELEC i), 9, 9⟩
def CTL.ELEC'PP (i : Nat) : Loc := ⟨(CTL.ELEC i), 5, 0⟩
/-- CTL.SRAMP: spec/07_control_engine.md. -/
def CTL.SRAMP (i : Nat) : Nat := 0x005000B4 + 0x400 * i
def CTL.SRAMP'UP (i : Nat) : Loc := ⟨(CTL.SRAMP i), 31, 16⟩
def CTL.SRAMP'DN (i : Nat) : Loc := ⟨(CTL.SRAMP i), 15, 0⟩
/-- CTL.GS_CFG: spec/07_control_engine.md. -/
def CTL.GS_CFG (i : Nat) : Nat := 0x00500100 + 0x400 * i
def CTL.GS_CFG'IB (i : Nat) : Loc := ⟨(CTL.GS_CFG i), 15, 14⟩
def CTL.GS_CFG'IA (i : Nat) : Loc := ⟨(CTL.GS_CFG i), 13, 12⟩
def CTL.GS_CFG'NB_M1 (i : Nat) : Loc := ⟨(CTL.GS_CFG i), 11, 10⟩
def CTL.GS_CFG'NA_M1 (i : Nat) : Loc := ⟨(CTL.GS_CFG i), 9, 8⟩
def CTL.GS_CFG'VAR_B (i : Nat) : Loc := ⟨(CTL.GS_CFG i), 7, 4⟩
def CTL.GS_CFG'VAR_A (i : Nat) : Loc := ⟨(CTL.GS_CFG i), 3, 0⟩
/-- CTL.INJ_CTRL: spec/07_control_engine.md. -/
def CTL.INJ_CTRL (i : Nat) : Nat := 0x00500180 + 0x400 * i
def CTL.INJ_CTRL'GO (i : Nat) : Loc := ⟨(CTL.INJ_CTRL i), 31, 31⟩
def CTL.INJ_CTRL'STOP (i : Nat) : Loc := ⟨(CTL.INJ_CTRL i), 30, 30⟩
def CTL.INJ_CTRL'POINT (i : Nat) : Loc := ⟨(CTL.INJ_CTRL i), 29, 28⟩
def CTL.INJ_CTRL'KIND (i : Nat) : Loc := ⟨(CTL.INJ_CTRL i), 27, 26⟩
def CTL.INJ_CTRL'PRBS_N (i : Nat) : Loc := ⟨(CTL.INJ_CTRL i), 20, 16⟩
def CTL.INJ_CTRL'HOLD (i : Nat) : Loc := ⟨(CTL.INJ_CTRL i), 15, 0⟩
/-- CTL.INJ_STAT: spec/07_control_engine.md. -/
def CTL.INJ_STAT (i : Nat) : Nat := 0x00500198 + 0x400 * i
def CTL.INJ_STAT'STATE (i : Nat) : Loc := ⟨(CTL.INJ_STAT i), 31, 30⟩
def CTL.INJ_STAT'ERR (i : Nat) : Loc := ⟨(CTL.INJ_STAT i), 29, 28⟩
def CTL.INJ_STAT'COUNT (i : Nat) : Loc := ⟨(CTL.INJ_STAT i), 23, 0⟩
/-- CTL.AX_CNT: spec/07_control_engine.md. -/
def CTL.AX_CNT (i : Nat) : Nat := 0x005001C0 + 0x400 * i
def CTL.AX_CNT'REGION_CHG_CNT (i : Nat) : Loc := ⟨(CTL.AX_CNT i), 31, 16⟩
def CTL.AX_CNT'PRESET_CLAMP_CNT (i : Nat) : Loc := ⟨(CTL.AX_CNT i), 15, 8⟩
def CTL.AX_CNT'FAULT_CNT (i : Nat) : Loc := ⟨(CTL.AX_CNT i), 7, 0⟩
/-- CTL.ENG_STAT: spec/07_control_engine.md. -/
def CTL.ENG_STAT : Nat := 0x00500380
def CTL.ENG_STAT'LANE_RUN : Loc := ⟨CTL.ENG_STAT, 3, 0⟩
/-- CTL.ENG_ERR: spec/07_control_engine.md. -/
def CTL.ENG_ERR : Nat := 0x00500384
def CTL.ENG_ERR'CFG_REFUSED : Loc := ⟨CTL.ENG_ERR, 0, 0⟩
/-- CTL.CCAP_CTRL: spec/07_control_engine.md. -/
def CTL.CCAP_CTRL : Nat := 0x00500390
def CTL.CCAP_CTRL'ARM : Loc := ⟨CTL.CCAP_CTRL, 31, 31⟩
def CTL.CCAP_CTRL'STOP : Loc := ⟨CTL.CCAP_CTRL, 30, 30⟩
def CTL.CCAP_CTRL'GO : Loc := ⟨CTL.CCAP_CTRL, 29, 29⟩
def CTL.CCAP_CTRL'LVL_DIR : Loc := ⟨CTL.CCAP_CTRL, 28, 28⟩
def CTL.CCAP_CTRL'RATE_SRC : Loc := ⟨CTL.CCAP_CTRL, 27, 27⟩
def CTL.CCAP_CTRL'TRIG_SRC : Loc := ⟨CTL.CCAP_CTRL, 26, 24⟩
def CTL.CCAP_CTRL'TRIG_SEL : Loc := ⟨CTL.CCAP_CTRL, 23, 16⟩
def CTL.CCAP_CTRL'PRE : Loc := ⟨CTL.CCAP_CTRL, 13, 0⟩
/-- CTL.CCAP_SEL_A: spec/07_control_engine.md. -/
def CTL.CCAP_SEL_A : Nat := 0x00500394
def CTL.CCAP_SEL_A'AX1 : Loc := ⟨CTL.CCAP_SEL_A, 29, 24⟩
def CTL.CCAP_SEL_A'SIG1 : Loc := ⟨CTL.CCAP_SEL_A, 20, 16⟩
def CTL.CCAP_SEL_A'AX0 : Loc := ⟨CTL.CCAP_SEL_A, 13, 8⟩
def CTL.CCAP_SEL_A'SIG0 : Loc := ⟨CTL.CCAP_SEL_A, 4, 0⟩
/-- CTL.CCAP_SEL_B: spec/07_control_engine.md. -/
def CTL.CCAP_SEL_B : Nat := 0x00500398
def CTL.CCAP_SEL_B'AX3 : Loc := ⟨CTL.CCAP_SEL_B, 29, 24⟩
def CTL.CCAP_SEL_B'SIG3 : Loc := ⟨CTL.CCAP_SEL_B, 20, 16⟩
def CTL.CCAP_SEL_B'AX2 : Loc := ⟨CTL.CCAP_SEL_B, 13, 8⟩
def CTL.CCAP_SEL_B'SIG2 : Loc := ⟨CTL.CCAP_SEL_B, 4, 0⟩
/-- CTL.CCAP_RATE: spec/07_control_engine.md. -/
def CTL.CCAP_RATE : Nat := 0x0050039C
def CTL.CCAP_RATE'D_M1 : Loc := ⟨CTL.CCAP_RATE, 7, 0⟩
/-- CTL.CCAP_BASE: spec/07_control_engine.md. -/
def CTL.CCAP_BASE : Nat := 0x005003A0
def CTL.CCAP_BASE'BASE : Loc := ⟨CTL.CCAP_BASE, 21, 12⟩
/-- CTL.CCAP_LEVEL: spec/07_control_engine.md. -/
def CTL.CCAP_LEVEL : Nat := 0x005003A4
def CTL.CCAP_LEVEL'LEVEL : Loc := ⟨CTL.CCAP_LEVEL, 31, 0⟩
/-- CTL.CCAP_STAT: spec/07_control_engine.md. -/
def CTL.CCAP_STAT : Nat := 0x005003A8
def CTL.CCAP_STAT'STATE : Loc := ⟨CTL.CCAP_STAT, 31, 29⟩
def CTL.CCAP_STAT'PRE_GOT : Loc := ⟨CTL.CCAP_STAT, 13, 0⟩
/-- CTL.CCAP_TRIG_PTR: spec/07_control_engine.md. -/
def CTL.CCAP_TRIG_PTR : Nat := 0x005003AC
def CTL.CCAP_TRIG_PTR'PTR : Loc := ⟨CTL.CCAP_TRIG_PTR, 17, 0⟩
/-- CTL.ID_REF: spec/07_control_engine.md. -/
def CTL.ID_REF (i : Nat) : Nat := 0x00500010 + 0x400 * i
def CTL.ID_REF'ID_REF (i : Nat) : Loc := ⟨(CTL.ID_REF i), 31, 0⟩
/-- CTL.IQ_REF: spec/07_control_engine.md. -/
def CTL.IQ_REF (i : Nat) : Nat := 0x00500014 + 0x400 * i
def CTL.IQ_REF'IQ_REF (i : Nat) : Loc := ⟨(CTL.IQ_REF i), 31, 0⟩
/-- CTL.ID_MEAS: spec/07_control_engine.md. -/
def CTL.ID_MEAS (i : Nat) : Nat := 0x00500018 + 0x400 * i
def CTL.ID_MEAS'ID_MEAS (i : Nat) : Loc := ⟨(CTL.ID_MEAS i), 31, 0⟩
/-- CTL.IQ_MEAS: spec/07_control_engine.md. -/
def CTL.IQ_MEAS (i : Nat) : Nat := 0x0050001C + 0x400 * i
def CTL.IQ_MEAS'IQ_MEAS (i : Nat) : Loc := ⟨(CTL.IQ_MEAS i), 31, 0⟩
/-- CTL.VD: spec/07_control_engine.md. -/
def CTL.VD (i : Nat) : Nat := 0x00500020 + 0x400 * i
def CTL.VD'VD (i : Nat) : Loc := ⟨(CTL.VD i), 31, 0⟩
/-- CTL.VQ: spec/07_control_engine.md. -/
def CTL.VQ (i : Nat) : Nat := 0x00500024 + 0x400 * i
def CTL.VQ'VQ (i : Nat) : Loc := ⟨(CTL.VQ i), 31, 0⟩
/-- CTL.ANGLE: spec/07_control_engine.md. -/
def CTL.ANGLE (i : Nat) : Nat := 0x00500028 + 0x400 * i
def CTL.ANGLE'ANGLE (i : Nat) : Loc := ⟨(CTL.ANGLE i), 31, 0⟩
/-- CTL.POS_REF_LO: spec/07_control_engine.md. -/
def CTL.POS_REF_LO (i : Nat) : Nat := 0x00500030 + 0x400 * i
def CTL.POS_REF_LO'POS_REF_LO (i : Nat) : Loc := ⟨(CTL.POS_REF_LO i), 31, 0⟩
/-- CTL.POS_REF_HI: spec/07_control_engine.md. -/
def CTL.POS_REF_HI (i : Nat) : Nat := 0x00500034 + 0x400 * i
def CTL.POS_REF_HI'POS_REF_HI (i : Nat) : Loc := ⟨(CTL.POS_REF_HI i), 31, 0⟩
/-- CTL.VEL_REF: spec/07_control_engine.md. -/
def CTL.VEL_REF (i : Nat) : Nat := 0x00500038 + 0x400 * i
def CTL.VEL_REF'VEL_REF (i : Nat) : Loc := ⟨(CTL.VEL_REF i), 31, 0⟩
/-- CTL.VEL_ACT: spec/07_control_engine.md. -/
def CTL.VEL_ACT (i : Nat) : Nat := 0x0050003C + 0x400 * i
def CTL.VEL_ACT'VEL_ACT (i : Nat) : Loc := ⟨(CTL.VEL_ACT i), 31, 0⟩
/-- CTL.POS_ERR: spec/07_control_engine.md. -/
def CTL.POS_ERR (i : Nat) : Nat := 0x00500040 + 0x400 * i
def CTL.POS_ERR'POS_ERR (i : Nat) : Loc := ⟨(CTL.POS_ERR i), 31, 0⟩
/-- CTL.TLAG: spec/07_control_engine.md. -/
def CTL.TLAG (i : Nat) : Nat := 0x00500048 + 0x400 * i
def CTL.TLAG'TLAG (i : Nat) : Loc := ⟨(CTL.TLAG i), 31, 0⟩
/-- CTL.INT_D: spec/07_control_engine.md. -/
def CTL.INT_D (i : Nat) : Nat := 0x0050004C + 0x400 * i
def CTL.INT_D'INT_D (i : Nat) : Loc := ⟨(CTL.INT_D i), 31, 0⟩
/-- CTL.INT_Q: spec/07_control_engine.md. -/
def CTL.INT_Q (i : Nat) : Nat := 0x00500050 + 0x400 * i
def CTL.INT_Q'INT_Q (i : Nat) : Loc := ⟨(CTL.INT_Q i), 31, 0⟩
/-- CTL.INT_VEL: spec/07_control_engine.md. -/
def CTL.INT_VEL (i : Nat) : Nat := 0x00500054 + 0x400 * i
def CTL.INT_VEL'INT_VEL (i : Nat) : Loc := ⟨(CTL.INT_VEL i), 31, 0⟩
/-- CTL.MAN_POS_LO: spec/07_control_engine.md. -/
def CTL.MAN_POS_LO (i : Nat) : Nat := 0x00500060 + 0x400 * i
def CTL.MAN_POS_LO'MAN_POS_LO (i : Nat) : Loc := ⟨(CTL.MAN_POS_LO i), 31, 0⟩
/-- CTL.MAN_POS_HI: spec/07_control_engine.md. -/
def CTL.MAN_POS_HI (i : Nat) : Nat := 0x00500064 + 0x400 * i
def CTL.MAN_POS_HI'MAN_POS_HI (i : Nat) : Loc := ⟨(CTL.MAN_POS_HI i), 31, 0⟩
/-- CTL.MAN_VEL: spec/07_control_engine.md. -/
def CTL.MAN_VEL (i : Nat) : Nat := 0x00500068 + 0x400 * i
def CTL.MAN_VEL'MAN_VEL (i : Nat) : Loc := ⟨(CTL.MAN_VEL i), 31, 0⟩
/-- CTL.MAN_IQ: spec/07_control_engine.md. -/
def CTL.MAN_IQ (i : Nat) : Nat := 0x0050006C + 0x400 * i
def CTL.MAN_IQ'MAN_IQ (i : Nat) : Loc := ⟨(CTL.MAN_IQ i), 31, 0⟩
/-- CTL.MAN_ID: spec/07_control_engine.md. -/
def CTL.MAN_ID (i : Nat) : Nat := 0x00500070 + 0x400 * i
def CTL.MAN_ID'MAN_ID (i : Nat) : Loc := ⟨(CTL.MAN_ID i), 31, 0⟩
/-- CTL.ID_CMD: spec/07_control_engine.md. -/
def CTL.ID_CMD (i : Nat) : Nat := 0x00500074 + 0x400 * i
def CTL.ID_CMD'ID_CMD (i : Nat) : Loc := ⟨(CTL.ID_CMD i), 31, 0⟩
/-- CTL.PAYLOAD_IDX: spec/07_control_engine.md. -/
def CTL.PAYLOAD_IDX (i : Nat) : Nat := 0x00500078 + 0x400 * i
def CTL.PAYLOAD_IDX'PAYLOAD_IDX (i : Nat) : Loc := ⟨(CTL.PAYLOAD_IDX i), 3, 0⟩
/-- CTL.SCALE_LIM: spec/07_control_engine.md. -/
def CTL.SCALE_LIM (i : Nat) : Nat := 0x0050007C + 0x400 * i
def CTL.SCALE_LIM'SCALE_LIM (i : Nat) : Loc := ⟨(CTL.SCALE_LIM i), 15, 0⟩
/-- CTL.ISCALE: spec/07_control_engine.md. -/
def CTL.ISCALE (i : Nat) : Nat := 0x00500080 + 0x400 * i
def CTL.ISCALE'ISCALE (i : Nat) : Loc := ⟨(CTL.ISCALE i), 31, 0⟩
/-- CTL.VSCALE: spec/07_control_engine.md. -/
def CTL.VSCALE (i : Nat) : Nat := 0x00500084 + 0x400 * i
def CTL.VSCALE'VSCALE (i : Nat) : Loc := ⟨(CTL.VSCALE i), 31, 0⟩
/-- CTL.PSCALE: spec/07_control_engine.md. -/
def CTL.PSCALE (i : Nat) : Nat := 0x00500088 + 0x400 * i
def CTL.PSCALE'PSCALE (i : Nat) : Loc := ⟨(CTL.PSCALE i), 31, 0⟩
/-- CTL.DSCALE: spec/07_control_engine.md. -/
def CTL.DSCALE (i : Nat) : Nat := 0x0050008C + 0x400 * i
def CTL.DSCALE'DSCALE (i : Nat) : Loc := ⟨(CTL.DSCALE i), 31, 0⟩
/-- CTL.ANGLE_OFS: spec/07_control_engine.md. -/
def CTL.ANGLE_OFS (i : Nat) : Nat := 0x00500094 + 0x400 * i
def CTL.ANGLE_OFS'ANGLE_OFS (i : Nat) : Loc := ⟨(CTL.ANGLE_OFS i), 31, 0⟩
/-- CTL.L_D: spec/07_control_engine.md. -/
def CTL.L_D (i : Nat) : Nat := 0x00500098 + 0x400 * i
def CTL.L_D'L_D (i : Nat) : Loc := ⟨(CTL.L_D i), 31, 0⟩
/-- CTL.L_Q: spec/07_control_engine.md. -/
def CTL.L_Q (i : Nat) : Nat := 0x0050009C + 0x400 * i
def CTL.L_Q'L_Q (i : Nat) : Loc := ⟨(CTL.L_Q i), 31, 0⟩
/-- CTL.PSI: spec/07_control_engine.md. -/
def CTL.PSI (i : Nat) : Nat := 0x005000A0 + 0x400 * i
def CTL.PSI'PSI (i : Nat) : Loc := ⟨(CTL.PSI i), 31, 0⟩
/-- CTL.VLIM: spec/07_control_engine.md. -/
def CTL.VLIM (i : Nat) : Nat := 0x005000A4 + 0x400 * i
def CTL.VLIM'VLIM (i : Nat) : Loc := ⟨(CTL.VLIM i), 15, 0⟩
/-- CTL.ILIM: spec/07_control_engine.md. -/
def CTL.ILIM (i : Nat) : Nat := 0x005000A8 + 0x400 * i
def CTL.ILIM'ILIM (i : Nat) : Loc := ⟨(CTL.ILIM i), 31, 0⟩
/-- CTL.VELLIM: spec/07_control_engine.md. -/
def CTL.VELLIM (i : Nat) : Nat := 0x005000AC + 0x400 * i
def CTL.VELLIM'VELLIM (i : Nat) : Loc := ⟨(CTL.VELLIM i), 31, 0⟩
/-- CTL.FE_LIM: spec/07_control_engine.md. -/
def CTL.FE_LIM (i : Nat) : Nat := 0x005000B0 + 0x400 * i
def CTL.FE_LIM'FE_LIM (i : Nat) : Loc := ⟨(CTL.FE_LIM i), 31, 0⟩
/-- CTL.INT_LIM_V: spec/07_control_engine.md. -/
def CTL.INT_LIM_V (i : Nat) : Nat := 0x005000B8 + 0x400 * i
def CTL.INT_LIM_V'INT_LIM_V (i : Nat) : Loc := ⟨(CTL.INT_LIM_V i), 31, 0⟩
/-- CTL.DC_MIN: spec/07_control_engine.md. -/
def CTL.DC_MIN (i : Nat) : Nat := 0x005000BC + 0x400 * i
def CTL.DC_MIN'DC_MIN (i : Nat) : Loc := ⟨(CTL.DC_MIN i), 31, 0⟩
/-- CTL.MAN_STEP: spec/07_control_engine.md. -/
def CTL.MAN_STEP (i : Nat) : Nat := 0x005000C0 + 0x400 * i
def CTL.MAN_STEP'MAN_STEP (i : Nat) : Loc := ⟨(CTL.MAN_STEP i), 31, 0⟩
/-- CTL.GS_BP_A: spec/07_control_engine.md. -/
def CTL.GS_BP_A (i j : Nat) : Nat := 0x00500104 + 0x400 * i + 0x4 * j
def CTL.GS_BP_A'BP (i j : Nat) : Loc := ⟨(CTL.GS_BP_A i j), 31, 0⟩
/-- CTL.GS_BP_B: spec/07_control_engine.md. -/
def CTL.GS_BP_B (i j : Nat) : Nat := 0x00500110 + 0x400 * i + 0x4 * j
def CTL.GS_BP_B'BP (i j : Nat) : Loc := ⟨(CTL.GS_BP_B i j), 31, 0⟩
/-- CTL.GS_HYS_A: spec/07_control_engine.md. -/
def CTL.GS_HYS_A (i : Nat) : Nat := 0x0050011C + 0x400 * i
def CTL.GS_HYS_A'GS_HYS_A (i : Nat) : Loc := ⟨(CTL.GS_HYS_A i), 31, 0⟩
/-- CTL.GS_HYS_B: spec/07_control_engine.md. -/
def CTL.GS_HYS_B (i : Nat) : Nat := 0x00500120 + 0x400 * i
def CTL.GS_HYS_B'GS_HYS_B (i : Nat) : Loc := ⟨(CTL.GS_HYS_B i), 31, 0⟩
/-- CTL.KP_POS: spec/07_control_engine.md. -/
def CTL.KP_POS (i : Nat) : Nat := 0x00500140 + 0x400 * i
def CTL.KP_POS'KP_POS (i : Nat) : Loc := ⟨(CTL.KP_POS i), 31, 0⟩
/-- CTL.KP_VEL: spec/07_control_engine.md. -/
def CTL.KP_VEL (i : Nat) : Nat := 0x00500144 + 0x400 * i
def CTL.KP_VEL'KP_VEL (i : Nat) : Loc := ⟨(CTL.KP_VEL i), 31, 0⟩
/-- CTL.KI_VEL: spec/07_control_engine.md. -/
def CTL.KI_VEL (i : Nat) : Nat := 0x00500148 + 0x400 * i
def CTL.KI_VEL'KI_VEL (i : Nat) : Loc := ⟨(CTL.KI_VEL i), 31, 0⟩
/-- CTL.KP_D: spec/07_control_engine.md. -/
def CTL.KP_D (i : Nat) : Nat := 0x0050014C + 0x400 * i
def CTL.KP_D'KP_D (i : Nat) : Loc := ⟨(CTL.KP_D i), 31, 0⟩
/-- CTL.KI_D: spec/07_control_engine.md. -/
def CTL.KI_D (i : Nat) : Nat := 0x00500150 + 0x400 * i
def CTL.KI_D'KI_D (i : Nat) : Loc := ⟨(CTL.KI_D i), 31, 0⟩
/-- CTL.KP_Q: spec/07_control_engine.md. -/
def CTL.KP_Q (i : Nat) : Nat := 0x00500154 + 0x400 * i
def CTL.KP_Q'KP_Q (i : Nat) : Loc := ⟨(CTL.KP_Q i), 31, 0⟩
/-- CTL.KI_Q: spec/07_control_engine.md. -/
def CTL.KI_Q (i : Nat) : Nat := 0x00500158 + 0x400 * i
def CTL.KI_Q'KI_Q (i : Nat) : Loc := ⟨(CTL.KI_Q i), 31, 0⟩
/-- CTL.INJ_AMP: spec/07_control_engine.md. -/
def CTL.INJ_AMP (i : Nat) : Nat := 0x00500184 + 0x400 * i
def CTL.INJ_AMP'INJ_AMP (i : Nat) : Loc := ⟨(CTL.INJ_AMP i), 31, 0⟩
/-- CTL.INJ_F0: spec/07_control_engine.md. -/
def CTL.INJ_F0 (i : Nat) : Nat := 0x00500188 + 0x400 * i
def CTL.INJ_F0'INJ_F0 (i : Nat) : Loc := ⟨(CTL.INJ_F0 i), 31, 0⟩
/-- CTL.INJ_F1: spec/07_control_engine.md. -/
def CTL.INJ_F1 (i : Nat) : Nat := 0x0050018C + 0x400 * i
def CTL.INJ_F1'INJ_F1 (i : Nat) : Loc := ⟨(CTL.INJ_F1 i), 31, 0⟩
/-- CTL.INJ_LEN: spec/07_control_engine.md. -/
def CTL.INJ_LEN (i : Nat) : Nat := 0x00500190 + 0x400 * i
def CTL.INJ_LEN'INJ_LEN (i : Nat) : Loc := ⟨(CTL.INJ_LEN i), 31, 0⟩
/-- CTL.INJ_MASK: spec/07_control_engine.md. -/
def CTL.INJ_MASK (i : Nat) : Nat := 0x00500194 + 0x400 * i
def CTL.INJ_MASK'INJ_MASK (i : Nat) : Loc := ⟨(CTL.INJ_MASK i), 31, 0⟩

/-! ### PRF: window at 0x00600000 -/
/-- PRF.PG_CMD: spec/08_profiles_and_steppers.md. -/
def PRF.PG_CMD (i : Nat) : Nat := 0x00600000 + 0x100 * i
def PRF.PG_CMD'JOG_NEG (i : Nat) : Loc := ⟨(PRF.PG_CMD i), 3, 3⟩
def PRF.PG_CMD'JOG_POS (i : Nat) : Loc := ⟨(PRF.PG_CMD i), 2, 2⟩
def PRF.PG_CMD'STOP (i : Nat) : Loc := ⟨(PRF.PG_CMD i), 1, 1⟩
def PRF.PG_CMD'START (i : Nat) : Loc := ⟨(PRF.PG_CMD i), 0, 0⟩
/-- PRF.PG_CFG: spec/08_profiles_and_steppers.md. -/
def PRF.PG_CFG (i : Nat) : Nat := 0x00600004 + 0x100 * i
def PRF.PG_CFG'VLIM_EN (i : Nat) : Loc := ⟨(PRF.PG_CFG i), 4, 4⟩
/-- PRF.PG_STAT: spec/08_profiles_and_steppers.md. -/
def PRF.PG_STAT (i : Nat) : Nat := 0x00600008 + 0x100 * i
def PRF.PG_STAT'STATE (i : Nat) : Loc := ⟨(PRF.PG_STAT i), 31, 29⟩
def PRF.PG_STAT'LIMIT_OUTSIDE (i : Nat) : Loc := ⟨(PRF.PG_STAT i), 6, 6⟩
def PRF.PG_STAT'LIMIT_OVERRUN (i : Nat) : Loc := ⟨(PRF.PG_STAT i), 5, 5⟩
def PRF.PG_STAT'LIMIT_HIT (i : Nat) : Loc := ⟨(PRF.PG_STAT i), 4, 4⟩
def PRF.PG_STAT'OVERSHOOT (i : Nat) : Loc := ⟨(PRF.PG_STAT i), 3, 3⟩
def PRF.PG_STAT'TARGET_LOCKED (i : Nat) : Loc := ⟨(PRF.PG_STAT i), 2, 2⟩
def PRF.PG_STAT'CMD_REFUSED (i : Nat) : Loc := ⟨(PRF.PG_STAT i), 1, 1⟩
/-- PRF.ST_CFG: spec/08_profiles_and_steppers.md. -/
def PRF.ST_CFG (i : Nat) : Nat := 0x00608000 + 0x100 * i
def PRF.ST_CFG'EN (i : Nat) : Loc := ⟨(PRF.ST_CFG i), 31, 31⟩
def PRF.ST_CFG'LEARN_EN (i : Nat) : Loc := ⟨(PRF.ST_CFG i), 30, 30⟩
def PRF.ST_CFG'DECAY (i : Nat) : Loc := ⟨(PRF.ST_CFG i), 29, 28⟩
def PRF.ST_CFG'SCALE_SRC (i : Nat) : Loc := ⟨(PRF.ST_CFG i), 27, 24⟩
def PRF.ST_CFG'MICRO (i : Nat) : Loc := ⟨(PRF.ST_CFG i), 23, 20⟩
def PRF.ST_CFG'LRATE (i : Nat) : Loc := ⟨(PRF.ST_CFG i), 19, 18⟩
def PRF.ST_CFG'T_FAST (i : Nat) : Loc := ⟨(PRF.ST_CFG i), 17, 8⟩
def PRF.ST_CFG'TBLANK (i : Nat) : Loc := ⟨(PRF.ST_CFG i), 7, 0⟩
/-- PRF.ST_CUR: spec/08_profiles_and_steppers.md. -/
def PRF.ST_CUR (i : Nat) : Nat := 0x00608004 + 0x100 * i
def PRF.ST_CUR'I_HOLD (i : Nat) : Loc := ⟨(PRF.ST_CUR i), 31, 16⟩
def PRF.ST_CUR'I_RUN (i : Nat) : Loc := ⟨(PRF.ST_CUR i), 15, 0⟩
/-- PRF.ST_BAND: spec/08_profiles_and_steppers.md. -/
def PRF.ST_BAND (i : Nat) : Nat := 0x00608008 + 0x100 * i
def PRF.ST_BAND'HOLD_T (i : Nat) : Loc := ⟨(PRF.ST_BAND i), 31, 16⟩
def PRF.ST_BAND'BAND (i : Nat) : Loc := ⟨(PRF.ST_BAND i), 15, 0⟩
/-- PRF.ST_OFS: spec/08_profiles_and_steppers.md. -/
def PRF.ST_OFS (i : Nat) : Nat := 0x0060800C + 0x100 * i
def PRF.ST_OFS'OFS_B (i : Nat) : Loc := ⟨(PRF.ST_OFS i), 31, 16⟩
def PRF.ST_OFS'OFS_A (i : Nat) : Loc := ⟨(PRF.ST_OFS i), 15, 0⟩
/-- PRF.ST_PEAK: spec/08_profiles_and_steppers.md. -/
def PRF.ST_PEAK (i : Nat) : Nat := 0x00608010 + 0x100 * i
def PRF.ST_PEAK'B (i : Nat) : Loc := ⟨(PRF.ST_PEAK i), 31, 16⟩
def PRF.ST_PEAK'A (i : Nat) : Loc := ⟨(PRF.ST_PEAK i), 15, 0⟩
/-- PRF.TARGET_LO: spec/08_profiles_and_steppers.md. -/
def PRF.TARGET_LO (i : Nat) : Nat := 0x00600010 + 0x100 * i
def PRF.TARGET_LO'TARGET_LO (i : Nat) : Loc := ⟨(PRF.TARGET_LO i), 31, 0⟩
/-- PRF.TARGET_HI: spec/08_profiles_and_steppers.md. -/
def PRF.TARGET_HI (i : Nat) : Nat := 0x00600014 + 0x100 * i
def PRF.TARGET_HI'TARGET_HI (i : Nat) : Loc := ⟨(PRF.TARGET_HI i), 31, 0⟩
/-- PRF.VLIM_LO_LO: spec/08_profiles_and_steppers.md. -/
def PRF.VLIM_LO_LO (i : Nat) : Nat := 0x00600018 + 0x100 * i
def PRF.VLIM_LO_LO'VLIM_LO_LO (i : Nat) : Loc := ⟨(PRF.VLIM_LO_LO i), 31, 0⟩
/-- PRF.VLIM_LO_HI: spec/08_profiles_and_steppers.md. -/
def PRF.VLIM_LO_HI (i : Nat) : Nat := 0x0060001C + 0x100 * i
def PRF.VLIM_LO_HI'VLIM_LO_HI (i : Nat) : Loc := ⟨(PRF.VLIM_LO_HI i), 31, 0⟩
/-- PRF.VLIM_HI_LO: spec/08_profiles_and_steppers.md. -/
def PRF.VLIM_HI_LO (i : Nat) : Nat := 0x00600020 + 0x100 * i
def PRF.VLIM_HI_LO'VLIM_HI_LO (i : Nat) : Loc := ⟨(PRF.VLIM_HI_LO i), 31, 0⟩
/-- PRF.VLIM_HI_HI: spec/08_profiles_and_steppers.md. -/
def PRF.VLIM_HI_HI (i : Nat) : Nat := 0x00600024 + 0x100 * i
def PRF.VLIM_HI_HI'VLIM_HI_HI (i : Nat) : Loc := ⟨(PRF.VLIM_HI_HI i), 31, 0⟩
/-- PRF.P_OUT_LO: spec/08_profiles_and_steppers.md. -/
def PRF.P_OUT_LO (i : Nat) : Nat := 0x00600028 + 0x100 * i
def PRF.P_OUT_LO'P_OUT_LO (i : Nat) : Loc := ⟨(PRF.P_OUT_LO i), 31, 0⟩
/-- PRF.P_OUT_HI: spec/08_profiles_and_steppers.md. -/
def PRF.P_OUT_HI (i : Nat) : Nat := 0x0060002C + 0x100 * i
def PRF.P_OUT_HI'P_OUT_HI (i : Nat) : Loc := ⟨(PRF.P_OUT_HI i), 31, 0⟩
/-- PRF.V_MAX: spec/08_profiles_and_steppers.md. -/
def PRF.V_MAX (i : Nat) : Nat := 0x00600030 + 0x100 * i
def PRF.V_MAX'V_MAX (i : Nat) : Loc := ⟨(PRF.V_MAX i), 31, 0⟩
/-- PRF.A_MAX: spec/08_profiles_and_steppers.md. -/
def PRF.A_MAX (i : Nat) : Nat := 0x00600034 + 0x100 * i
def PRF.A_MAX'A_MAX (i : Nat) : Loc := ⟨(PRF.A_MAX i), 31, 0⟩
/-- PRF.J_MAX: spec/08_profiles_and_steppers.md. -/
def PRF.J_MAX (i : Nat) : Nat := 0x00600038 + 0x100 * i
def PRF.J_MAX'J_MAX (i : Nat) : Loc := ⟨(PRF.J_MAX i), 31, 0⟩
/-- PRF.JOG_V: spec/08_profiles_and_steppers.md. -/
def PRF.JOG_V (i : Nat) : Nat := 0x0060003C + 0x100 * i
def PRF.JOG_V'JOG_V (i : Nat) : Loc := ⟨(PRF.JOG_V i), 31, 0⟩
/-- PRF.ASCALE: spec/08_profiles_and_steppers.md. -/
def PRF.ASCALE (i : Nat) : Nat := 0x00600040 + 0x100 * i
def PRF.ASCALE'ASCALE (i : Nat) : Loc := ⟨(PRF.ASCALE i), 31, 0⟩
/-- PRF.V_OUT: spec/08_profiles_and_steppers.md. -/
def PRF.V_OUT (i : Nat) : Nat := 0x00600044 + 0x100 * i
def PRF.V_OUT'V_OUT (i : Nat) : Loc := ⟨(PRF.V_OUT i), 31, 0⟩
/-- PRF.A_OUT: spec/08_profiles_and_steppers.md. -/
def PRF.A_OUT (i : Nat) : Nat := 0x00600048 + 0x100 * i
def PRF.A_OUT'A_OUT (i : Nat) : Loc := ⟨(PRF.A_OUT i), 31, 0⟩

/-! ### TRJ: window at 0x00700000 -/
/-- TRJ.TRJ_CTRL: spec/09_trajectory_runahead.md. -/
def TRJ.TRJ_CTRL : Nat := 0x00700000
def TRJ.TRJ_CTRL'VT_REQ : Loc := ⟨TRJ.TRJ_CTRL, 4, 0⟩
/-- TRJ.TRJ_STAT: spec/09_trajectory_runahead.md. -/
def TRJ.TRJ_STAT : Nat := 0x00700004
def TRJ.TRJ_STAT'EVAL : Loc := ⟨TRJ.TRJ_STAT, 31, 31⟩
def TRJ.TRJ_STAT'LEDGER_USED : Loc := ⟨TRJ.TRJ_STAT, 24, 16⟩
def TRJ.TRJ_STAT'PLANS : Loc := ⟨TRJ.TRJ_STAT, 8, 0⟩
/-- TRJ.TRJ_ERR: spec/09_trajectory_runahead.md. -/
def TRJ.TRJ_ERR : Nat := 0x00700008
def TRJ.TRJ_ERR'NO_TABLE : Loc := ⟨TRJ.TRJ_ERR, 3, 3⟩
def TRJ.TRJ_ERR'SEAL_WRONG : Loc := ⟨TRJ.TRJ_ERR, 2, 2⟩
def TRJ.TRJ_ERR'SEAL_LATE : Loc := ⟨TRJ.TRJ_ERR, 1, 1⟩
def TRJ.TRJ_ERR'VT_REFUSED : Loc := ⟨TRJ.TRJ_ERR, 0, 0⟩
/-- TRJ.VT_VERDICT: spec/09_trajectory_runahead.md. -/
def TRJ.VT_VERDICT : Nat := 0x00700010
def TRJ.VT_VERDICT'VERDICT : Loc := ⟨TRJ.VT_VERDICT, 31, 0⟩
/-- TRJ.VT_SQ: spec/09_trajectory_runahead.md. -/
def TRJ.VT_SQ (i : Nat) : Nat := 0x00700014 + 0x4 * i
def TRJ.VT_SQ'HI (i : Nat) : Loc := ⟨(TRJ.VT_SQ i), 31, 16⟩
def TRJ.VT_SQ'LO (i : Nat) : Loc := ⟨(TRJ.VT_SQ i), 15, 0⟩
/-- TRJ.VT_SOLVE: spec/09_trajectory_runahead.md. -/
def TRJ.VT_SOLVE : Nat := 0x00700034
def TRJ.VT_SOLVE'SEQ : Loc := ⟨TRJ.VT_SOLVE, 31, 16⟩
def TRJ.VT_SOLVE'STATUS : Loc := ⟨TRJ.VT_SOLVE, 15, 0⟩
/-- TRJ.VT_SEAL: spec/09_trajectory_runahead.md. -/
def TRJ.VT_SEAL : Nat := 0x00700038
def TRJ.VT_SEAL'SEAL : Loc := ⟨TRJ.VT_SEAL, 31, 31⟩
def TRJ.VT_SEAL'SEALED : Loc := ⟨TRJ.VT_SEAL, 30, 30⟩
def TRJ.VT_SEAL'TARGET : Loc := ⟨TRJ.VT_SEAL, 15, 0⟩
/-- TRJ.COMMIT_STAT: spec/09_trajectory_runahead.md. -/
def TRJ.COMMIT_STAT : Nat := 0x0070003C
def TRJ.COMMIT_STAT'L3_SEQ : Loc := ⟨TRJ.COMMIT_STAT, 31, 16⟩
def TRJ.COMMIT_STAT'SQUASHED : Loc := ⟨TRJ.COMMIT_STAT, 15, 8⟩
def TRJ.COMMIT_STAT'DONE : Loc := ⟨TRJ.COMMIT_STAT, 7, 0⟩
/-- TRJ.FALLBACK: spec/09_trajectory_runahead.md. -/
def TRJ.FALLBACK : Nat := 0x00700040
def TRJ.FALLBACK'MASK : Loc := ⟨TRJ.FALLBACK, 15, 0⟩
/-- TRJ.PLAN_SEL: spec/09_trajectory_runahead.md. -/
def TRJ.PLAN_SEL : Nat := 0x00700050
def TRJ.PLAN_SEL'EPOCH : Loc := ⟨TRJ.PLAN_SEL, 15, 0⟩
/-- TRJ.PLAN_INFO: spec/09_trajectory_runahead.md. -/
def TRJ.PLAN_INFO : Nat := 0x00700054
def TRJ.PLAN_INFO'STATE : Loc := ⟨TRJ.PLAN_INFO, 31, 29⟩
def TRJ.PLAN_INFO'REASON : Loc := ⟨TRJ.PLAN_INFO, 28, 25⟩
def TRJ.PLAN_INFO'DEPTH : Loc := ⟨TRJ.PLAN_INFO, 24, 21⟩
def TRJ.PLAN_INFO'NDEP : Loc := ⟨TRJ.PLAN_INFO, 20, 16⟩
def TRJ.PLAN_INFO'QUEUE : Loc := ⟨TRJ.PLAN_INFO, 15, 12⟩
def TRJ.PLAN_INFO'PORT : Loc := ⟨TRJ.PLAN_INFO, 3, 0⟩
/-- TRJ.Q_CFG: spec/09_trajectory_runahead.md. -/
def TRJ.Q_CFG (i : Nat) : Nat := 0x00701000 + 0x100 * i
def TRJ.Q_CFG'EN (i : Nat) : Loc := ⟨(TRJ.Q_CFG i), 31, 31⟩
def TRJ.Q_CFG'OWNER (i : Nat) : Loc := ⟨(TRJ.Q_CFG i), 28, 24⟩
def TRJ.Q_CFG'ARM (i : Nat) : Loc := ⟨(TRJ.Q_CFG i), 23, 20⟩
def TRJ.Q_CFG'NAX (i : Nat) : Loc := ⟨(TRJ.Q_CFG i), 19, 16⟩
def TRJ.Q_CFG'REJOIN_TOL (i : Nat) : Loc := ⟨(TRJ.Q_CFG i), 15, 0⟩
/-- TRJ.Q_MAP_A: spec/09_trajectory_runahead.md. -/
def TRJ.Q_MAP_A (i : Nat) : Nat := 0x00701004 + 0x100 * i
def TRJ.Q_MAP_A'MAP (i : Nat) : Loc := ⟨(TRJ.Q_MAP_A i), 31, 0⟩
/-- TRJ.Q_MAP_B: spec/09_trajectory_runahead.md. -/
def TRJ.Q_MAP_B (i : Nat) : Nat := 0x00701008 + 0x100 * i
def TRJ.Q_MAP_B'MAP (i : Nat) : Loc := ⟨(TRJ.Q_MAP_B i), 31, 0⟩
/-- TRJ.Q_STAT: spec/09_trajectory_runahead.md. -/
def TRJ.Q_STAT (i : Nat) : Nat := 0x0070100C + 0x100 * i
def TRJ.Q_STAT'IN_FALLBACK (i : Nat) : Loc := ⟨(TRJ.Q_STAT i), 31, 31⟩
def TRJ.Q_STAT'SPEC_CNT (i : Nat) : Loc := ⟨(TRJ.Q_STAT i), 23, 16⟩
def TRJ.Q_STAT'HELD_CNT (i : Nat) : Loc := ⟨(TRJ.Q_STAT i), 15, 8⟩
def TRJ.Q_STAT'COMMIT_CNT (i : Nat) : Loc := ⟨(TRJ.Q_STAT i), 7, 0⟩
/-- TRJ.Q_LAST_BND: spec/09_trajectory_runahead.md. -/
def TRJ.Q_LAST_BND (i : Nat) : Nat := 0x00701010 + 0x100 * i
def TRJ.Q_LAST_BND'BN (i : Nat) : Loc := ⟨(TRJ.Q_LAST_BND i), 31, 0⟩
/-- TRJ.Q_FB_BND: spec/09_trajectory_runahead.md. -/
def TRJ.Q_FB_BND (i : Nat) : Nat := 0x00701014 + 0x100 * i
def TRJ.Q_FB_BND'BL (i : Nat) : Loc := ⟨(TRJ.Q_FB_BND i), 31, 0⟩
/-- TRJ.Q_CNT: spec/09_trajectory_runahead.md. -/
def TRJ.Q_CNT (i : Nat) : Nat := 0x00701018 + 0x100 * i
def TRJ.Q_CNT'SQUASH_CNT (i : Nat) : Loc := ⟨(TRJ.Q_CNT i), 31, 16⟩
def TRJ.Q_CNT'FALLBACK_CNT (i : Nat) : Loc := ⟨(TRJ.Q_CNT i), 15, 0⟩
/-- TRJ.PP_CMD: spec/09_trajectory_runahead.md. -/
def TRJ.PP_CMD (i : Nat) : Nat := 0x00702000 + 0x80 * i
def TRJ.PP_CMD'OPEN (i : Nat) : Loc := ⟨(TRJ.PP_CMD i), 31, 31⟩
def TRJ.PP_CMD'CLOSE (i : Nat) : Loc := ⟨(TRJ.PP_CMD i), 30, 30⟩
def TRJ.PP_CMD'ABORT (i : Nat) : Loc := ⟨(TRJ.PP_CMD i), 29, 29⟩
def TRJ.PP_CMD'QUERY (i : Nat) : Loc := ⟨(TRJ.PP_CMD i), 28, 28⟩
def TRJ.PP_CMD'Q_ZONE (i : Nat) : Loc := ⟨(TRJ.PP_CMD i), 27, 24⟩
def TRJ.PP_CMD'Q_COUNT (i : Nat) : Loc := ⟨(TRJ.PP_CMD i), 22, 20⟩
def TRJ.PP_CMD'NBUF (i : Nat) : Loc := ⟨(TRJ.PP_CMD i), 12, 12⟩
def TRJ.PP_CMD'BUF (i : Nat) : Loc := ⟨(TRJ.PP_CMD i), 10, 0⟩
/-- TRJ.PP_QFIRST: spec/09_trajectory_runahead.md. -/
def TRJ.PP_QFIRST (i : Nat) : Nat := 0x00702004 + 0x80 * i
def TRJ.PP_QFIRST'FIRST (i : Nat) : Loc := ⟨(TRJ.PP_QFIRST i), 31, 0⟩
/-- TRJ.PP_STAT: spec/09_trajectory_runahead.md. -/
def TRJ.PP_STAT (i : Nat) : Nat := 0x00702008 + 0x80 * i
def TRJ.PP_STAT'BUSY (i : Nat) : Loc := ⟨(TRJ.PP_STAT i), 31, 31⟩
def TRJ.PP_STAT'PLAN_OPEN (i : Nat) : Loc := ⟨(TRJ.PP_STAT i), 30, 30⟩
def TRJ.PP_STAT'MORE (i : Nat) : Loc := ⟨(TRJ.PP_STAT i), 29, 29⟩
def TRJ.PP_STAT'QRES_N (i : Nat) : Loc := ⟨(TRJ.PP_STAT i), 28, 25⟩
def TRJ.PP_STAT'RESULT (i : Nat) : Loc := ⟨(TRJ.PP_STAT i), 23, 16⟩
def TRJ.PP_STAT'EPOCH (i : Nat) : Loc := ⟨(TRJ.PP_STAT i), 15, 0⟩
/-- TRJ.PP_DEP: spec/09_trajectory_runahead.md. -/
def TRJ.PP_DEP (i : Nat) : Nat := 0x0070200C + 0x80 * i
def TRJ.PP_DEP'DEPTH (i : Nat) : Loc := ⟨(TRJ.PP_DEP i), 31, 28⟩
def TRJ.PP_DEP'NDEP (i : Nat) : Loc := ⟨(TRJ.PP_DEP i), 20, 16⟩
/-- TRJ.PP_QRES_A: spec/09_trajectory_runahead.md. -/
def TRJ.PP_QRES_A (i j : Nat) : Nat := 0x00702040 + 0x80 * i + 0x8 * j
def TRJ.PP_QRES_A'QUEUE (i j : Nat) : Loc := ⟨(TRJ.PP_QRES_A i j), 31, 28⟩
def TRJ.PP_QRES_A'STATE (i j : Nat) : Loc := ⟨(TRJ.PP_QRES_A i j), 27, 26⟩
def TRJ.PP_QRES_A'COUNT_M1 (i j : Nat) : Loc := ⟨(TRJ.PP_QRES_A i j), 25, 23⟩
def TRJ.PP_QRES_A'EPOCH (i j : Nat) : Loc := ⟨(TRJ.PP_QRES_A i j), 15, 0⟩
/-- TRJ.PP_QRES_B: spec/09_trajectory_runahead.md. -/
def TRJ.PP_QRES_B (i j : Nat) : Nat := 0x00702044 + 0x80 * i + 0x8 * j
def TRJ.PP_QRES_B'FIRST_CN (i j : Nat) : Loc := ⟨(TRJ.PP_QRES_B i j), 31, 0⟩

/-! ### FACE: window at 0x00800000 -/
/-- FACE.FACE_CTRL: spec/11_faceplate_operation.md. -/
def FACE.FACE_CTRL : Nat := 0x00800000
def FACE.FACE_CTRL'S_CONSUMER : Loc := ⟨FACE.FACE_CTRL, 20, 16⟩
def FACE.FACE_CTRL'S_RES_N_M1 : Loc := ⟨FACE.FACE_CTRL, 10, 8⟩
def FACE.FACE_CTRL'S_AUTO : Loc := ⟨FACE.FACE_CTRL, 0, 0⟩
/-- FACE.S_RES_BASE: spec/11_faceplate_operation.md. -/
def FACE.S_RES_BASE : Nat := 0x00800004
def FACE.S_RES_BASE'BASE : Loc := ⟨FACE.S_RES_BASE, 10, 0⟩
/-- FACE.B_RES_CFG: spec/11_faceplate_operation.md. -/
def FACE.B_RES_CFG : Nat := 0x00800008
def FACE.B_RES_CFG'B_RES_BASE : Loc := ⟨FACE.B_RES_CFG, 10, 0⟩
/-- FACE.FACE_CMD: spec/11_faceplate_operation.md. -/
def FACE.FACE_CMD : Nat := 0x0080000C
def FACE.FACE_CMD'S_SUBMIT : Loc := ⟨FACE.FACE_CMD, 31, 31⟩
def FACE.FACE_CMD'B_SUBMIT : Loc := ⟨FACE.FACE_CMD, 30, 30⟩
def FACE.FACE_CMD'ABORT_S : Loc := ⟨FACE.FACE_CMD, 29, 29⟩
def FACE.FACE_CMD'ABORT_B : Loc := ⟨FACE.FACE_CMD, 28, 28⟩
def FACE.FACE_CMD'BUF : Loc := ⟨FACE.FACE_CMD, 10, 0⟩
/-- FACE.FACE_STAT: spec/11_faceplate_operation.md. -/
def FACE.FACE_STAT : Nat := 0x00800010
def FACE.FACE_STAT'S_BUSY : Loc := ⟨FACE.FACE_STAT, 31, 31⟩
def FACE.FACE_STAT'B_BUSY : Loc := ⟨FACE.FACE_STAT, 30, 30⟩
def FACE.FACE_STAT'S_SUSP : Loc := ⟨FACE.FACE_STAT, 29, 29⟩
def FACE.FACE_STAT'DEFERRED : Loc := ⟨FACE.FACE_STAT, 28, 28⟩
def FACE.FACE_STAT'SUBMIT_RESULT : Loc := ⟨FACE.FACE_STAT, 27, 24⟩
def FACE.FACE_STAT'S_SEQ : Loc := ⟨FACE.FACE_STAT, 15, 0⟩
/-- FACE.FACE_ERR: spec/11_faceplate_operation.md. -/
def FACE.FACE_ERR : Nat := 0x00800014
def FACE.FACE_ERR'DEADLINE_MISS : Loc := ⟨FACE.FACE_ERR, 3, 3⟩
def FACE.FACE_ERR'FEED_ERROR : Loc := ⟨FACE.FACE_ERR, 2, 2⟩
def FACE.FACE_ERR'WARM_REJECT : Loc := ⟨FACE.FACE_ERR, 1, 1⟩
def FACE.FACE_ERR'ROUGH_LATE : Loc := ⟨FACE.FACE_ERR, 0, 0⟩
/-- FACE.FACE_SIZE: spec/11_faceplate_operation.md. -/
def FACE.FACE_SIZE : Nat := 0x00800018
def FACE.FACE_SIZE'B_OUT_BUFS : Loc := ⟨FACE.FACE_SIZE, 29, 20⟩
def FACE.FACE_SIZE'B_IN_BUFS : Loc := ⟨FACE.FACE_SIZE, 19, 10⟩
def FACE.FACE_SIZE'S_SET_BUFS : Loc := ⟨FACE.FACE_SIZE, 6, 0⟩
/-- FACE.FACE_TOKENS: spec/11_faceplate_operation.md. -/
def FACE.FACE_TOKENS : Nat := 0x0080001C
def FACE.FACE_TOKENS'B_TOKENS : Loc := ⟨FACE.FACE_TOKENS, 15, 8⟩
def FACE.FACE_TOKENS'S_TOKENS : Loc := ⟨FACE.FACE_TOKENS, 7, 0⟩
/-- FACE.FACE_CNT: spec/11_faceplate_operation.md. -/
def FACE.FACE_CNT : Nat := 0x00800020
def FACE.FACE_CNT'DEADLINE_CNT : Loc := ⟨FACE.FACE_CNT, 31, 16⟩
def FACE.FACE_CNT'SKIP_CNT : Loc := ⟨FACE.FACE_CNT, 15, 8⟩
def FACE.FACE_CNT'DEFER_CNT : Loc := ⟨FACE.FACE_CNT, 7, 0⟩
/-- FACE.S_LAST: spec/11_faceplate_operation.md. -/
def FACE.S_LAST : Nat := 0x00800024
def FACE.S_LAST'ITER : Loc := ⟨FACE.S_LAST, 31, 16⟩
def FACE.S_LAST'STATUS : Loc := ⟨FACE.S_LAST, 15, 0⟩
/-- FACE.B_LAST: spec/11_faceplate_operation.md. -/
def FACE.B_LAST : Nat := 0x00800028
def FACE.B_LAST'SEQ : Loc := ⟨FACE.B_LAST, 31, 16⟩
def FACE.B_LAST'NOT_DONE : Loc := ⟨FACE.B_LAST, 8, 0⟩

/-! ### ROUGH: window at 0x00900000 -/
/-- ROUGH.ROUGH_STAT: spec/11_faceplate_operation.md. -/
def ROUGH.ROUGH_STAT : Nat := 0x00900000
def ROUGH.ROUGH_STAT'BUSY : Loc := ⟨ROUGH.ROUGH_STAT, 31, 31⟩
def ROUGH.ROUGH_STAT'FRAME_VALID : Loc := ⟨ROUGH.ROUGH_STAT, 30, 30⟩
def ROUGH.ROUGH_STAT'FRAME_SEQ : Loc := ⟨ROUGH.ROUGH_STAT, 15, 0⟩
/-- ROUGH.ROUGH_TIME: spec/11_faceplate_operation.md. -/
def ROUGH.ROUGH_TIME : Nat := 0x00900004
def ROUGH.ROUGH_TIME'NS : Loc := ⟨ROUGH.ROUGH_TIME, 19, 0⟩
/-- ROUGH.ROUGH_ERR: spec/11_faceplate_operation.md. -/
def ROUGH.ROUGH_ERR : Nat := 0x00900008
def ROUGH.ROUGH_ERR'SNAP_FAULT : Loc := ⟨ROUGH.ROUGH_ERR, 2, 2⟩
def ROUGH.ROUGH_ERR'GAP : Loc := ⟨ROUGH.ROUGH_ERR, 1, 1⟩
def ROUGH.ROUGH_ERR'SAT : Loc := ⟨ROUGH.ROUGH_ERR, 0, 0⟩
/-- ROUGH.FRAME: spec/11_faceplate_operation.md. -/
def ROUGH.FRAME (i j : Nat) : Nat := 0x00908000 + 0x1000 * i + 0x4 * j
def ROUGH.FRAME'WORD (i j : Nat) : Loc := ⟨(ROUGH.FRAME i j), 31, 0⟩

/-! ### GC: window at 0x00A00000 -/
/-- GC.GC_CTRL: spec/12_gouge_cores.md. -/
def GC.GC_CTRL (i : Nat) : Nat := 0x00A00000 + 0x800 * i
def GC.GC_CTRL'SOFT_RST (i : Nat) : Loc := ⟨(GC.GC_CTRL i), 31, 31⟩
def GC.GC_CTRL'HALT (i : Nat) : Loc := ⟨(GC.GC_CTRL i), 30, 30⟩
def GC.GC_CTRL'RUN (i : Nat) : Loc := ⟨(GC.GC_CTRL i), 29, 29⟩
def GC.GC_CTRL'STEP (i : Nat) : Loc := ⟨(GC.GC_CTRL i), 28, 28⟩
/-- GC.GC_STAT: spec/12_gouge_cores.md. -/
def GC.GC_STAT (i : Nat) : Nat := 0x00A00004 + 0x800 * i
def GC.GC_STAT'STATE (i : Nat) : Loc := ⟨(GC.GC_STAT i), 31, 29⟩
def GC.GC_STAT'HALT_CAUSE (i : Nat) : Loc := ⟨(GC.GC_STAT i), 28, 25⟩
def GC.GC_STAT'LOOP_DEPTH (i : Nat) : Loc := ⟨(GC.GC_STAT i), 24, 23⟩
def GC.GC_STAT'CALL_DEPTH (i : Nat) : Loc := ⟨(GC.GC_STAT i), 22, 18⟩
def GC.GC_STAT'RB (i : Nat) : Loc := ⟨(GC.GC_STAT i), 15, 12⟩
def GC.GC_STAT'LCACHE (i : Nat) : Loc := ⟨(GC.GC_STAT i), 0, 0⟩
/-- GC.GC_PC: spec/12_gouge_cores.md. -/
def GC.GC_PC (i : Nat) : Nat := 0x00A00008 + 0x800 * i
def GC.GC_PC'PC (i : Nat) : Loc := ⟨(GC.GC_PC i), 14, 0⟩
/-- GC.GC_EXC: spec/12_gouge_cores.md. -/
def GC.GC_EXC (i : Nat) : Nat := 0x00A0000C + 0x800 * i
def GC.GC_EXC'VECTOR (i : Nat) : Loc := ⟨(GC.GC_EXC i), 31, 27⟩
def GC.GC_EXC'CAUSE (i : Nat) : Loc := ⟨(GC.GC_EXC i), 26, 24⟩
def GC.GC_EXC'ADDR (i : Nat) : Loc := ⟨(GC.GC_EXC i), 14, 0⟩
/-- GC.GC_WDOG_CFG: spec/12_gouge_cores.md. -/
def GC.GC_WDOG_CFG (i : Nat) : Nat := 0x00A00010 + 0x800 * i
def GC.GC_WDOG_CFG'EN (i : Nat) : Loc := ⟨(GC.GC_WDOG_CFG i), 31, 31⟩
def GC.GC_WDOG_CFG'TIMEOUT (i : Nat) : Loc := ⟨(GC.GC_WDOG_CFG i), 15, 0⟩
/-- GC.GC_WDOG_KICK: spec/12_gouge_cores.md. -/
def GC.GC_WDOG_KICK (i : Nat) : Nat := 0x00A00014 + 0x800 * i
def GC.GC_WDOG_KICK'KICK (i : Nat) : Loc := ⟨(GC.GC_WDOG_KICK i), 15, 0⟩
/-- GC.GC_ECC: spec/12_gouge_cores.md. -/
def GC.GC_ECC (i : Nat) : Nat := 0x00A00018 + 0x800 * i
def GC.GC_ECC'CORR_CNT (i : Nat) : Loc := ⟨(GC.GC_ECC i), 31, 16⟩
def GC.GC_ECC'UNCORR_CNT (i : Nat) : Loc := ⟨(GC.GC_ECC i), 15, 8⟩
def GC.GC_ECC'LAST_SPACE (i : Nat) : Loc := ⟨(GC.GC_ECC i), 1, 0⟩
/-- GC.GC_BP: spec/12_gouge_cores.md. -/
def GC.GC_BP (i j : Nat) : Nat := 0x00A00020 + 0x800 * i + 0x4 * j
def GC.GC_BP'EN (i j : Nat) : Loc := ⟨(GC.GC_BP i j), 31, 31⟩
def GC.GC_BP'DBG_EXC (i j : Nat) : Loc := ⟨(GC.GC_BP i j), 30, 30⟩
def GC.GC_BP'ADDR (i j : Nat) : Loc := ⟨(GC.GC_BP i j), 14, 0⟩
/-- GC.GC_WP_ADDR: spec/12_gouge_cores.md. -/
def GC.GC_WP_ADDR (i j : Nat) : Nat := 0x00A00030 + 0x800 * i + 0x8 * j
def GC.GC_WP_ADDR'ADDR (i j : Nat) : Loc := ⟨(GC.GC_WP_ADDR i j), 31, 0⟩
/-- GC.GC_WP_CFG: spec/12_gouge_cores.md. -/
def GC.GC_WP_CFG (i j : Nat) : Nat := 0x00A00034 + 0x800 * i + 0x8 * j
def GC.GC_WP_CFG'EN (i j : Nat) : Loc := ⟨(GC.GC_WP_CFG i j), 31, 31⟩
def GC.GC_WP_CFG'DBG_EXC (i j : Nat) : Loc := ⟨(GC.GC_WP_CFG i j), 30, 30⟩
def GC.GC_WP_CFG'RW_SEL (i j : Nat) : Loc := ⟨(GC.GC_WP_CFG i j), 29, 28⟩
def GC.GC_WP_CFG'SPACE (i j : Nat) : Loc := ⟨(GC.GC_WP_CFG i j), 27, 26⟩
def GC.GC_WP_CFG'MASK (i j : Nat) : Loc := ⟨(GC.GC_WP_CFG i j), 4, 0⟩
/-- GC.GC_DBG_SEL: spec/12_gouge_cores.md. -/
def GC.GC_DBG_SEL (i : Nat) : Nat := 0x00A00040 + 0x800 * i
def GC.GC_DBG_SEL'RN (i : Nat) : Loc := ⟨(GC.GC_DBG_SEL i), 9, 4⟩
def GC.GC_DBG_SEL'SUB (i : Nat) : Loc := ⟨(GC.GC_DBG_SEL i), 3, 0⟩
/-- GC.GC_DBG_DATA: spec/12_gouge_cores.md. -/
def GC.GC_DBG_DATA (i : Nat) : Nat := 0x00A00044 + 0x800 * i
def GC.GC_DBG_DATA'DATA (i : Nat) : Loc := ⟨(GC.GC_DBG_DATA i), 31, 0⟩
/-- GC.GC_BOOT_CFG: spec/12_gouge_cores.md. -/
def GC.GC_BOOT_CFG : Nat := 0x00A0F000
def GC.GC_BOOT_CFG'MODES : Loc := ⟨GC.GC_BOOT_CFG, 31, 0⟩
/-- GC.GC_SUPV: spec/12_gouge_cores.md. -/
def GC.GC_SUPV : Nat := 0x00A0F004
def GC.GC_SUPV'LOCK : Loc := ⟨GC.GC_SUPV, 31, 31⟩
def GC.GC_SUPV'EN : Loc := ⟨GC.GC_SUPV, 4, 4⟩
def GC.GC_SUPV'CORE : Loc := ⟨GC.GC_SUPV, 3, 0⟩

/-! ### CHUCK: window at 0x00B00000 -/
/-- CHUCK.CHUCK_CTRL: spec/13_chuck_and_window.md. -/
def CHUCK.CHUCK_CTRL : Nat := 0x00B00000
def CHUCK.CHUCK_CTRL'EN : Loc := ⟨CHUCK.CHUCK_CTRL, 31, 31⟩
def CHUCK.CHUCK_CTRL'HW_RSV : Loc := ⟨CHUCK.CHUCK_CTRL, 26, 16⟩
def CHUCK.CHUCK_CTRL'ROUGH_FLOW : Loc := ⟨CHUCK.CHUCK_CTRL, 15, 8⟩
def CHUCK.CHUCK_CTRL'AFF_WIN : Loc := ⟨CHUCK.CHUCK_CTRL, 7, 0⟩
/-- CHUCK.CHUCK_STAT: spec/13_chuck_and_window.md. -/
def CHUCK.CHUCK_STAT : Nat := 0x00B00004
def CHUCK.CHUCK_STAT'USED : Loc := ⟨CHUCK.CHUCK_STAT, 28, 16⟩
def CHUCK.CHUCK_STAT'IDLE_CORES : Loc := ⟨CHUCK.CHUCK_STAT, 15, 0⟩
/-- CHUCK.CHUCK_ERR: spec/13_chuck_and_window.md. -/
def CHUCK.CHUCK_ERR : Nat := 0x00B00008
def CHUCK.CHUCK_ERR'FLOW_CFG_REFUSED : Loc := ⟨CHUCK.CHUCK_ERR, 3, 3⟩
def CHUCK.CHUCK_ERR'RES_OWNER : Loc := ⟨CHUCK.CHUCK_ERR, 2, 2⟩
def CHUCK.CHUCK_ERR'DONE_REFUSED : Loc := ⟨CHUCK.CHUCK_ERR, 1, 1⟩
def CHUCK.CHUCK_ERR'WDOG_EXPIRED : Loc := ⟨CHUCK.CHUCK_ERR, 0, 0⟩
/-- CHUCK.HOST_CREDIT: spec/13_chuck_and_window.md. -/
def CHUCK.HOST_CREDIT : Nat := 0x00B0000C
def CHUCK.HOST_CREDIT'HOST_AVAIL : Loc := ⟨CHUCK.HOST_CREDIT, 27, 16⟩
def CHUCK.HOST_CREDIT'HOST_LIMIT : Loc := ⟨CHUCK.HOST_CREDIT, 11, 0⟩
/-- CHUCK.CHUCK_WDOG_CFG: spec/13_chuck_and_window.md. -/
def CHUCK.CHUCK_WDOG_CFG : Nat := 0x00B00010
def CHUCK.CHUCK_WDOG_CFG'EN : Loc := ⟨CHUCK.CHUCK_WDOG_CFG, 31, 31⟩
def CHUCK.CHUCK_WDOG_CFG'TIMEOUT : Loc := ⟨CHUCK.CHUCK_WDOG_CFG, 15, 0⟩
/-- CHUCK.HW_CNT: spec/13_chuck_and_window.md. -/
def CHUCK.HW_CNT : Nat := 0x00B00014
def CHUCK.HW_CNT'HW_SUPERSEDE : Loc := ⟨CHUCK.HW_CNT, 31, 16⟩
def CHUCK.HW_CNT'HW_HOLD : Loc := ⟨CHUCK.HW_CNT, 15, 0⟩
/-- CHUCK.LEVEL_CNT: spec/13_chuck_and_window.md. -/
def CHUCK.LEVEL_CNT (i : Nat) : Nat := 0x00B00020 + 0x4 * i
def CHUCK.LEVEL_CNT'CNT (i : Nat) : Loc := ⟨(CHUCK.LEVEL_CNT i), 12, 0⟩
/-- CHUCK.ENQ_DESC: spec/13_chuck_and_window.md. -/
def CHUCK.ENQ_DESC (i : Nat) : Nat := 0x00B01000 + 0x4 * i
def CHUCK.ENQ_DESC'WORD (i : Nat) : Loc := ⟨(CHUCK.ENQ_DESC i), 31, 0⟩
/-- CHUCK.ENQ_CMD: spec/13_chuck_and_window.md. -/
def CHUCK.ENQ_CMD : Nat := 0x00B01020
def CHUCK.ENQ_CMD'GO : Loc := ⟨CHUCK.ENQ_CMD, 0, 0⟩
/-- CHUCK.ENQ_STAT: spec/13_chuck_and_window.md. -/
def CHUCK.ENQ_STAT : Nat := 0x00B01024
def CHUCK.ENQ_STAT'RESULT : Loc := ⟨CHUCK.ENQ_STAT, 31, 28⟩
def CHUCK.ENQ_STAT'JOB_ID : Loc := ⟨CHUCK.ENQ_STAT, 11, 0⟩
/-- CHUCK.MBX: spec/13_chuck_and_window.md. -/
def CHUCK.MBX (i j : Nat) : Nat := 0x00B02000 + 0x40 * i + 0x4 * j
def CHUCK.MBX'WORD (i j : Nat) : Loc := ⟨(CHUCK.MBX i j), 31, 0⟩
/-- CHUCK.MBX_TAG: spec/13_chuck_and_window.md. -/
def CHUCK.MBX_TAG (i : Nat) : Nat := 0x00B02020 + 0x40 * i
def CHUCK.MBX_TAG'FULL (i : Nat) : Loc := ⟨(CHUCK.MBX_TAG i), 31, 31⟩
def CHUCK.MBX_TAG'JOB_ID (i : Nat) : Loc := ⟨(CHUCK.MBX_TAG i), 27, 16⟩
def CHUCK.MBX_TAG'FSEQ (i : Nat) : Loc := ⟨(CHUCK.MBX_TAG i), 15, 0⟩
/-- CHUCK.CORE_DONE: spec/13_chuck_and_window.md. -/
def CHUCK.CORE_DONE (i : Nat) : Nat := 0x00B02024 + 0x40 * i
def CHUCK.CORE_DONE'DONE (i : Nat) : Loc := ⟨(CHUCK.CORE_DONE i), 31, 31⟩
def CHUCK.CORE_DONE'RES_VALID (i : Nat) : Loc := ⟨(CHUCK.CORE_DONE i), 30, 30⟩
def CHUCK.CORE_DONE'STATUS (i : Nat) : Loc := ⟨(CHUCK.CORE_DONE i), 23, 16⟩
def CHUCK.CORE_DONE'RES_BUF (i : Nat) : Loc := ⟨(CHUCK.CORE_DONE i), 10, 0⟩
/-- CHUCK.CQ_LO: spec/13_chuck_and_window.md. -/
def CHUCK.CQ_LO (i : Nat) : Nat := 0x00B03000 + 0x10 * i
def CHUCK.CQ_LO'VALID (i : Nat) : Loc := ⟨(CHUCK.CQ_LO i), 31, 31⟩
def CHUCK.CQ_LO'RES_VALID (i : Nat) : Loc := ⟨(CHUCK.CQ_LO i), 30, 30⟩
def CHUCK.CQ_LO'STATUS (i : Nat) : Loc := ⟨(CHUCK.CQ_LO i), 23, 16⟩
def CHUCK.CQ_LO'FLOW (i : Nat) : Loc := ⟨(CHUCK.CQ_LO i), 7, 0⟩
/-- CHUCK.CQ_HI: spec/13_chuck_and_window.md. -/
def CHUCK.CQ_HI (i : Nat) : Nat := 0x00B03004 + 0x10 * i
def CHUCK.CQ_HI'FSEQ (i : Nat) : Loc := ⟨(CHUCK.CQ_HI i), 31, 16⟩
def CHUCK.CQ_HI'RES_BUF (i : Nat) : Loc := ⟨(CHUCK.CQ_HI i), 10, 0⟩
/-- CHUCK.CQ_STAT: spec/13_chuck_and_window.md. -/
def CHUCK.CQ_STAT (i : Nat) : Nat := 0x00B03008 + 0x10 * i
def CHUCK.CQ_STAT'COUNT (i : Nat) : Loc := ⟨(CHUCK.CQ_STAT i), 8, 0⟩
/-- CHUCK.FLOW_CFG: spec/13_chuck_and_window.md. -/
def CHUCK.FLOW_CFG (i : Nat) : Nat := 0x00B04000 + 0x8 * i
def CHUCK.FLOW_CFG'EN (i : Nat) : Loc := ⟨(CHUCK.FLOW_CFG i), 31, 31⟩
def CHUCK.FLOW_CFG'AFF_EN (i : Nat) : Loc := ⟨(CHUCK.FLOW_CFG i), 30, 30⟩
def CHUCK.FLOW_CFG'CLASS (i : Nat) : Loc := ⟨(CHUCK.FLOW_CFG i), 17, 16⟩
def CHUCK.FLOW_CFG'SINK (i : Nat) : Loc := ⟨(CHUCK.FLOW_CFG i), 12, 8⟩
def CHUCK.FLOW_CFG'PRIO (i : Nat) : Loc := ⟨(CHUCK.FLOW_CFG i), 6, 4⟩
def CHUCK.FLOW_CFG'KIND (i : Nat) : Loc := ⟨(CHUCK.FLOW_CFG i), 1, 0⟩
/-- CHUCK.FLOW_MASK: spec/13_chuck_and_window.md. -/
def CHUCK.FLOW_MASK (i : Nat) : Nat := 0x00B04004 + 0x8 * i
def CHUCK.FLOW_MASK'MASK (i : Nat) : Loc := ⟨(CHUCK.FLOW_MASK i), 15, 0⟩
/-- CHUCK.FLOW_STAT: spec/13_chuck_and_window.md. -/
def CHUCK.FLOW_STAT (i : Nat) : Nat := 0x00B06000 + 0x4 * i
def CHUCK.FLOW_STAT'SERIAL (i : Nat) : Loc := ⟨(CHUCK.FLOW_STAT i), 31, 31⟩
def CHUCK.FLOW_STAT'LAST_CORE (i : Nat) : Loc := ⟨(CHUCK.FLOW_STAT i), 30, 27⟩
def CHUCK.FLOW_STAT'SERIAL_CNT (i : Nat) : Loc := ⟨(CHUCK.FLOW_STAT i), 23, 16⟩
def CHUCK.FLOW_STAT'ROB_USED (i : Nat) : Loc := ⟨(CHUCK.FLOW_STAT i), 14, 8⟩
def CHUCK.FLOW_STAT'IN_SERVICE (i : Nat) : Loc := ⟨(CHUCK.FLOW_STAT i), 4, 0⟩
/-- CHUCK.SMW_FLAG: spec/13_chuck_and_window.md. -/
def CHUCK.SMW_FLAG (i : Nat) : Nat := 0x00B08000 + 0x4 * i
def CHUCK.SMW_FLAG'PASS_CNT (i : Nat) : Loc := ⟨(CHUCK.SMW_FLAG i), 31, 16⟩
def CHUCK.SMW_FLAG'PREV (i : Nat) : Loc := ⟨(CHUCK.SMW_FLAG i), 12, 8⟩
def CHUCK.SMW_FLAG'OWNER (i : Nat) : Loc := ⟨(CHUCK.SMW_FLAG i), 4, 0⟩
/-- CHUCK.SMW_PASS: spec/13_chuck_and_window.md. -/
def CHUCK.SMW_PASS : Nat := 0x00B0A000
def CHUCK.SMW_PASS'TO : Loc := ⟨CHUCK.SMW_PASS, 31, 27⟩
def CHUCK.SMW_PASS'COUNT_M1 : Loc := ⟨CHUCK.SMW_PASS, 24, 19⟩
def CHUCK.SMW_PASS'FIRST : Loc := ⟨CHUCK.SMW_PASS, 10, 0⟩
/-- CHUCK.SMW_RECLAIM: spec/13_chuck_and_window.md. -/
def CHUCK.SMW_RECLAIM : Nat := 0x00B0A004
def CHUCK.SMW_RECLAIM'BUF : Loc := ⟨CHUCK.SMW_RECLAIM, 10, 0⟩
/-- CHUCK.SMW_ERR: spec/13_chuck_and_window.md. -/
def CHUCK.SMW_ERR : Nat := 0x00B0A008
def CHUCK.SMW_ERR'PASS_REFUSED : Loc := ⟨CHUCK.SMW_ERR, 2, 2⟩
def CHUCK.SMW_ERR'FLAG_REFUSED : Loc := ⟨CHUCK.SMW_ERR, 1, 1⟩
def CHUCK.SMW_ERR'WRITE_REFUSED : Loc := ⟨CHUCK.SMW_ERR, 0, 0⟩
/-- CHUCK.SMW_ERR_INFO: spec/13_chuck_and_window.md. -/
def CHUCK.SMW_ERR_INFO : Nat := 0x00B0A00C
def CHUCK.SMW_ERR_INFO'REQUESTER : Loc := ⟨CHUCK.SMW_ERR_INFO, 20, 16⟩
def CHUCK.SMW_ERR_INFO'BUF : Loc := ⟨CHUCK.SMW_ERR_INFO, 10, 0⟩

/-! ### SAFE: window at 0x00C00000 -/
/-- SAFE.SAFE_STAT: spec/14_safety_channels.md. -/
def SAFE.SAFE_STAT : Nat := 0x00C00000
def SAFE.SAFE_STAT'DEAD_OK : Loc := ⟨SAFE.SAFE_STAT, 31, 31⟩
def SAFE.SAFE_STAT'LIVE_OK : Loc := ⟨SAFE.SAFE_STAT, 30, 30⟩
def SAFE.SAFE_STAT'DEGRADED : Loc := ⟨SAFE.SAFE_STAT, 29, 29⟩
def SAFE.SAFE_STAT'SAFE_STOP : Loc := ⟨SAFE.SAFE_STAT, 28, 28⟩
def SAFE.SAFE_STAT'DEG_EXPIRED : Loc := ⟨SAFE.SAFE_STAT, 27, 27⟩
def SAFE.SAFE_STAT'XCHK_CAUSE : Loc := ⟨SAFE.SAFE_STAT, 23, 20⟩
def SAFE.SAFE_STAT'DEG_LEFT : Loc := ⟨SAFE.SAFE_STAT, 15, 0⟩
/-- SAFE.ZONE_STAT: spec/14_safety_channels.md. -/
def SAFE.ZONE_STAT : Nat := 0x00C00010
def SAFE.ZONE_STAT'OUT_FAULT : Loc := ⟨SAFE.ZONE_STAT, 31, 24⟩
def SAFE.ZONE_STAT'SS1_RUN : Loc := ⟨SAFE.ZONE_STAT, 23, 16⟩
def SAFE.ZONE_STAT'VOTE_B_L : Loc := ⟨SAFE.ZONE_STAT, 15, 8⟩
def SAFE.ZONE_STAT'VOTE_A : Loc := ⟨SAFE.ZONE_STAT, 7, 0⟩
/-- SAFE.ZONE_FB: spec/14_safety_channels.md. -/
def SAFE.ZONE_FB : Nat := 0x00C00014
def SAFE.ZONE_FB'STO_FB_WARN : Loc := ⟨SAFE.ZONE_FB, 15, 8⟩
def SAFE.ZONE_FB'STO_FB_FAULT : Loc := ⟨SAFE.ZONE_FB, 7, 0⟩
/-- SAFE.CD_STAT: spec/14_safety_channels.md. -/
def SAFE.CD_STAT : Nat := 0x00C00018
def SAFE.CD_STAT'CD : Loc := ⟨SAFE.CD_STAT, 31, 0⟩
/-- SAFE.ARM_SAFE: spec/14_safety_channels.md. -/
def SAFE.ARM_SAFE : Nat := 0x00C0001C
def SAFE.ARM_SAFE'HUB_STALE : Loc := ⟨SAFE.ARM_SAFE, 31, 24⟩
def SAFE.ARM_SAFE'OVERSPEED : Loc := ⟨SAFE.ARM_SAFE, 23, 16⟩
def SAFE.ARM_SAFE'STANDSTILL : Loc := ⟨SAFE.ARM_SAFE, 15, 8⟩
def SAFE.ARM_SAFE'STOP : Loc := ⟨SAFE.ARM_SAFE, 7, 0⟩
/-- SAFE.SI_FILT: spec/14_safety_channels.md. -/
def SAFE.SI_FILT : Nat := 0x00C00020
def SAFE.SI_FILT'FILT : Loc := ⟨SAFE.SI_FILT, 23, 0⟩
/-- SAFE.SI_FILT_L: spec/14_safety_channels.md. -/
def SAFE.SI_FILT_L : Nat := 0x00C00024
def SAFE.SI_FILT_L'FILT : Loc := ⟨SAFE.SI_FILT_L, 23, 0⟩
/-- SAFE.TPS_STAT: spec/14_safety_channels.md. -/
def SAFE.TPS_STAT : Nat := 0x00C00028
def SAFE.TPS_STAT'LEVEL : Loc := ⟨SAFE.TPS_STAT, 15, 8⟩
def SAFE.TPS_STAT'TPS_FAULT : Loc := ⟨SAFE.TPS_STAT, 7, 0⟩
/-- SAFE.DEG_CFG: spec/14_safety_channels.md. -/
def SAFE.DEG_CFG : Nat := 0x00C00040
def SAFE.DEG_CFG'DEG_T : Loc := ⟨SAFE.DEG_CFG, 31, 16⟩
def SAFE.DEG_CFG'DEG_SCALE : Loc := ⟨SAFE.DEG_CFG, 15, 0⟩
/-- SAFE.SPD_CFG: spec/14_safety_channels.md. -/
def SAFE.SPD_CFG : Nat := 0x00C00044
def SAFE.SPD_CFG'V_AUTO : Loc := ⟨SAFE.SPD_CFG, 31, 16⟩
def SAFE.SPD_CFG'V_RED : Loc := ⟨SAFE.SPD_CFG, 15, 0⟩
/-- SAFE.STILL_CFG: spec/14_safety_channels.md. -/
def SAFE.STILL_CFG : Nat := 0x00C00048
def SAFE.STILL_CFG'REM_TO : Loc := ⟨SAFE.STILL_CFG, 26, 24⟩
def SAFE.STILL_CFG'HUB_AGE_MAX : Loc := ⟨SAFE.STILL_CFG, 18, 16⟩
def SAFE.STILL_CFG'STILL_LIM : Loc := ⟨SAFE.STILL_CFG, 15, 0⟩
/-- SAFE.ZONE_CFG: spec/14_safety_channels.md. -/
def SAFE.ZONE_CFG (i : Nat) : Nat := 0x00C00060 + 0x4 * i
def SAFE.ZONE_CFG'EN (i : Nat) : Loc := ⟨(SAFE.ZONE_CFG i), 31, 31⟩
def SAFE.ZONE_CFG'ARM_MASK (i : Nat) : Loc := ⟨(SAFE.ZONE_CFG i), 23, 16⟩
def SAFE.ZONE_CFG'SS1_T (i : Nat) : Loc := ⟨(SAFE.ZONE_CFG i), 15, 0⟩
/-- SAFE.CD_CFG: spec/14_safety_channels.md. -/
def SAFE.CD_CFG (i : Nat) : Nat := 0x00C00080 + 0x4 * i
def SAFE.CD_CFG'EN (i : Nat) : Loc := ⟨(SAFE.CD_CFG i), 31, 31⟩
def SAFE.CD_CFG'ZONE_MASK (i : Nat) : Loc := ⟨(SAFE.CD_CFG i), 23, 16⟩
def SAFE.CD_CFG'EDM_T (i : Nat) : Loc := ⟨(SAFE.CD_CFG i), 15, 8⟩
def SAFE.CD_CFG'CD_DELAY (i : Nat) : Loc := ⟨(SAFE.CD_CFG i), 7, 0⟩
/-- SAFE.FN_STAT: spec/14_safety_channels.md. -/
def SAFE.FN_STAT (i : Nat) : Nat := 0x00C00100 + 0x4 * i
def SAFE.FN_STAT'STATE (i : Nat) : Loc := ⟨(SAFE.FN_STAT i), 31, 29⟩
def SAFE.FN_STAT'FAULT_CAUSE (i : Nat) : Loc := ⟨(SAFE.FN_STAT i), 28, 26⟩
def SAFE.FN_STAT'DEM_D (i : Nat) : Loc := ⟨(SAFE.FN_STAT i), 25, 25⟩
def SAFE.FN_STAT'DEM_L (i : Nat) : Loc := ⟨(SAFE.FN_STAT i), 24, 24⟩
def SAFE.FN_STAT'DEMAND_CNT (i : Nat) : Loc := ⟨(SAFE.FN_STAT i), 15, 0⟩
/-- SAFE.FN_CFG: spec/14_safety_channels.md. -/
def SAFE.FN_CFG (i : Nat) : Nat := 0x00C00200 + 0x4 * i
def SAFE.FN_CFG'EN (i : Nat) : Loc := ⟨(SAFE.FN_CFG i), 31, 31⟩
def SAFE.FN_CFG'REMOTE (i : Nat) : Loc := ⟨(SAFE.FN_CFG i), 30, 30⟩
def SAFE.FN_CFG'AUTO_RST (i : Nat) : Loc := ⟨(SAFE.FN_CFG i), 29, 29⟩
def SAFE.FN_CFG'STOP_CAT (i : Nat) : Loc := ⟨(SAFE.FN_CFG i), 28, 28⟩
def SAFE.FN_CFG'RST_GRP (i : Nat) : Loc := ⟨(SAFE.FN_CFG i), 27, 26⟩
def SAFE.FN_CFG'ZONE_MASK (i : Nat) : Loc := ⟨(SAFE.FN_CFG i), 23, 16⟩
def SAFE.FN_CFG'T_DISC (i : Nat) : Loc := ⟨(SAFE.FN_CFG i), 15, 8⟩
def SAFE.FN_CFG'T_OFF (i : Nat) : Loc := ⟨(SAFE.FN_CFG i), 7, 0⟩
/-- SAFE.SI_CFG: spec/14_safety_channels.md. -/
def SAFE.SI_CFG (i : Nat) : Nat := 0x00C00300 + 0x4 * i
def SAFE.SI_CFG'EN (i : Nat) : Loc := ⟨(SAFE.SI_CFG i), 31, 31⟩
def SAFE.SI_CFG'ROLE (i : Nat) : Loc := ⟨(SAFE.SI_CFG i), 30, 28⟩
def SAFE.SI_CFG'SUPPLY (i : Nat) : Loc := ⟨(SAFE.SI_CFG i), 27, 24⟩
def SAFE.SI_CFG'TARGET (i : Nat) : Loc := ⟨(SAFE.SI_CFG i), 4, 0⟩
/-- SAFE.SI_STAT: spec/14_safety_channels.md. -/
def SAFE.SI_STAT (i : Nat) : Nat := 0x00C00400 + 0x4 * i
def SAFE.SI_STAT'LVL_D (i : Nat) : Loc := ⟨(SAFE.SI_STAT i), 31, 31⟩
def SAFE.SI_STAT'LVL_L (i : Nat) : Loc := ⟨(SAFE.SI_STAT i), 30, 30⟩
def SAFE.SI_STAT'FILT_D (i : Nat) : Loc := ⟨(SAFE.SI_STAT i), 29, 29⟩
def SAFE.SI_STAT'FILT_L (i : Nat) : Loc := ⟨(SAFE.SI_STAT i), 28, 28⟩
def SAFE.SI_STAT'TEST_FAULT (i : Nat) : Loc := ⟨(SAFE.SI_STAT i), 27, 27⟩
def SAFE.SI_STAT'TEST_CAUSE (i : Nat) : Loc := ⟨(SAFE.SI_STAT i), 26, 24⟩
def SAFE.SI_STAT'TEST_ERR_CNT (i : Nat) : Loc := ⟨(SAFE.SI_STAT i), 15, 0⟩
/-- SAFE.SSM_STAT: spec/15_separation_monitoring.md. -/
def SAFE.SSM_STAT : Nat := 0x00C00800
def SAFE.SSM_STAT'SSM_ENV : Loc := ⟨SAFE.SSM_STAT, 31, 24⟩
def SAFE.SSM_STAT'SENSOR_STALE : Loc := ⟨SAFE.SSM_STAT, 23, 16⟩
def SAFE.SSM_STAT'SSM_OK : Loc := ⟨SAFE.SSM_STAT, 7, 0⟩
/-- SAFE.SSM_LEVEL: spec/15_separation_monitoring.md. -/
def SAFE.SSM_LEVEL : Nat := 0x00C00804
def SAFE.SSM_LEVEL'LEVELS : Loc := ⟨SAFE.SSM_LEVEL, 31, 0⟩
/-- SAFE.SSM_LVL_D: spec/15_separation_monitoring.md. -/
def SAFE.SSM_LVL_D : Nat := 0x00C00808
def SAFE.SSM_LVL_D'LEVELS : Loc := ⟨SAFE.SSM_LVL_D, 31, 0⟩
/-- SAFE.SSM_LVL_L: spec/15_separation_monitoring.md. -/
def SAFE.SSM_LVL_L : Nat := 0x00C0080C
def SAFE.SSM_LVL_L'LEVELS : Loc := ⟨SAFE.SSM_LVL_L, 31, 0⟩
/-- SAFE.SSM_CFG: spec/15_separation_monitoring.md. -/
def SAFE.SSM_CFG : Nat := 0x00C00810
def SAFE.SSM_CFG'V_H_MODE : Loc := ⟨SAFE.SSM_CFG, 31, 31⟩
def SAFE.SSM_CFG'LOW_VH : Loc := ⟨SAFE.SSM_CFG, 30, 30⟩
def SAFE.SSM_CFG'PERS_TO : Loc := ⟨SAFE.SSM_CFG, 29, 27⟩
def SAFE.SSM_CFG'D_HYS : Loc := ⟨SAFE.SSM_CFG, 15, 8⟩
def SAFE.SSM_CFG'DIST_TOL : Loc := ⟨SAFE.SSM_CFG, 7, 0⟩
/-- SAFE.SSM_VH: spec/15_separation_monitoring.md. -/
def SAFE.SSM_VH : Nat := 0x00C00814
def SAFE.SSM_VH'V_H : Loc := ⟨SAFE.SSM_VH, 31, 16⟩
def SAFE.SSM_VH'V_H_FLOOR : Loc := ⟨SAFE.SSM_VH, 15, 0⟩
/-- SAFE.SSM_TERMS: spec/15_separation_monitoring.md. -/
def SAFE.SSM_TERMS : Nat := 0x00C00818
def SAFE.SSM_TERMS'Z_R : Loc := ⟨SAFE.SSM_TERMS, 31, 24⟩
def SAFE.SSM_TERMS'Z_D : Loc := ⟨SAFE.SSM_TERMS, 23, 16⟩
def SAFE.SSM_TERMS'C : Loc := ⟨SAFE.SSM_TERMS, 15, 8⟩
def SAFE.SSM_TERMS'V_TOL : Loc := ⟨SAFE.SSM_TERMS, 7, 0⟩
/-- SAFE.LEVEL_SCALE: spec/15_separation_monitoring.md. -/
def SAFE.LEVEL_SCALE (i : Nat) : Nat := 0x00C00820 + 0x4 * i
def SAFE.LEVEL_SCALE'SCALE (i : Nat) : Loc := ⟨(SAFE.LEVEL_SCALE i), 15, 0⟩
/-- SAFE.SSM_ARM_CFG: spec/15_separation_monitoring.md. -/
def SAFE.SSM_ARM_CFG (i : Nat) : Nat := 0x00C00840 + 0x8 * i
def SAFE.SSM_ARM_CFG'EN (i : Nat) : Loc := ⟨(SAFE.SSM_ARM_CFG i), 31, 31⟩
def SAFE.SSM_ARM_CFG'BASE_AX (i : Nat) : Loc := ⟨(SAFE.SSM_ARM_CFG i), 30, 30⟩
def SAFE.SSM_ARM_CFG'T_S (i : Nat) : Loc := ⟨(SAFE.SSM_ARM_CFG i), 29, 20⟩
def SAFE.SSM_ARM_CFG'T_R (i : Nat) : Loc := ⟨(SAFE.SSM_ARM_CFG i), 19, 8⟩
def SAFE.SSM_ARM_CFG'S_S0 (i : Nat) : Loc := ⟨(SAFE.SSM_ARM_CFG i), 7, 0⟩
/-- SAFE.SSM_ARM_CFG2: spec/15_separation_monitoring.md. -/
def SAFE.SSM_ARM_CFG2 (i : Nat) : Nat := 0x00C00844 + 0x8 * i
def SAFE.SSM_ARM_CFG2'V_CAP_REF (i : Nat) : Loc := ⟨(SAFE.SSM_ARM_CFG2 i), 31, 16⟩
def SAFE.SSM_ARM_CFG2'T_RAMP (i : Nat) : Loc := ⟨(SAFE.SSM_ARM_CFG2 i), 15, 0⟩
/-- SAFE.MIN_DIST: spec/15_separation_monitoring.md. -/
def SAFE.MIN_DIST (i : Nat) : Nat := 0x00C00880 + 0x4 * i
def SAFE.MIN_DIST'PERSON (i : Nat) : Loc := ⟨(SAFE.MIN_DIST i), 31, 28⟩
def SAFE.MIN_DIST'CAPSULE (i : Nat) : Loc := ⟨(SAFE.MIN_DIST i), 27, 25⟩
def SAFE.MIN_DIST'NONE (i : Nat) : Loc := ⟨(SAFE.MIN_DIST i), 24, 24⟩
def SAFE.MIN_DIST'D_MIN (i : Nat) : Loc := ⟨(SAFE.MIN_DIST i), 23, 0⟩
/-- SAFE.MIN_DIST_L: spec/15_separation_monitoring.md. -/
def SAFE.MIN_DIST_L (i : Nat) : Nat := 0x00C008A0 + 0x4 * i
def SAFE.MIN_DIST_L'PERSON (i : Nat) : Loc := ⟨(SAFE.MIN_DIST_L i), 31, 28⟩
def SAFE.MIN_DIST_L'CAPSULE (i : Nat) : Loc := ⟨(SAFE.MIN_DIST_L i), 27, 25⟩
def SAFE.MIN_DIST_L'NONE (i : Nat) : Loc := ⟨(SAFE.MIN_DIST_L i), 24, 24⟩
def SAFE.MIN_DIST_L'D_MIN (i : Nat) : Loc := ⟨(SAFE.MIN_DIST_L i), 23, 0⟩
/-- SAFE.SENSOR_CFG: spec/15_separation_monitoring.md. -/
def SAFE.SENSOR_CFG (i : Nat) : Nat := 0x00C008C0 + 0x4 * i
def SAFE.SENSOR_CFG'EN (i : Nat) : Loc := ⟨(SAFE.SENSOR_CFG i), 31, 31⟩
def SAFE.SENSOR_CFG'PERS_MASK (i : Nat) : Loc := ⟨(SAFE.SENSOR_CFG i), 15, 0⟩
/-- SAFE.PERS_STAT: spec/15_separation_monitoring.md. -/
def SAFE.PERS_STAT : Nat := 0x00C008E0
def SAFE.PERS_STAT'PRESENT : Loc := ⟨SAFE.PERS_STAT, 15, 0⟩
/-- SAFE.SSM_CNT: spec/15_separation_monitoring.md. -/
def SAFE.SSM_CNT : Nat := 0x00C008E4
def SAFE.SSM_CNT'STOP_CNT : Loc := ⟨SAFE.SSM_CNT, 31, 16⟩
def SAFE.SSM_CNT'XCHK_CNT : Loc := ⟨SAFE.SSM_CNT, 15, 8⟩
def SAFE.SSM_CNT'PAYLOAD_REJ : Loc := ⟨SAFE.SSM_CNT, 7, 0⟩

/-! ### PORT: window at 0x00D00000 -/
/-- PORT.PORT_CMD: spec/16_portals.md. -/
def PORT.PORT_CMD (i : Nat) : Nat := 0x00D00000 + 0x100 * i
def PORT.PORT_CMD'RELEARN (i : Nat) : Loc := ⟨(PORT.PORT_CMD i), 3, 3⟩
def PORT.PORT_CMD'STOP (i : Nat) : Loc := ⟨(PORT.PORT_CMD i), 2, 2⟩
def PORT.PORT_CMD'CLOSE (i : Nat) : Loc := ⟨(PORT.PORT_CMD i), 1, 1⟩
def PORT.PORT_CMD'OPEN (i : Nat) : Loc := ⟨(PORT.PORT_CMD i), 0, 0⟩
/-- PORT.PORT_STAT: spec/16_portals.md. -/
def PORT.PORT_STAT (i : Nat) : Nat := 0x00D00004 + 0x100 * i
def PORT.PORT_STAT'STATE (i : Nat) : Loc := ⟨(PORT.PORT_STAT i), 31, 28⟩
def PORT.PORT_STAT'LEARN_O (i : Nat) : Loc := ⟨(PORT.PORT_STAT i), 27, 24⟩
def PORT.PORT_STAT'LEARN_C (i : Nat) : Loc := ⟨(PORT.PORT_STAT i), 23, 20⟩
def PORT.PORT_STAT'FAULT_CAUSE (i : Nat) : Loc := ⟨(PORT.PORT_STAT i), 19, 17⟩
def PORT.PORT_STAT'HOMED (i : Nat) : Loc := ⟨(PORT.PORT_STAT i), 16, 16⟩
def PORT.PORT_STAT'UNLOCK_REQ (i : Nat) : Loc := ⟨(PORT.PORT_STAT i), 15, 15⟩
def PORT.PORT_STAT'LKD_ON (i : Nat) : Loc := ⟨(PORT.PORT_STAT i), 14, 14⟩
def PORT.PORT_STAT'LOCK_FB (i : Nat) : Loc := ⟨(PORT.PORT_STAT i), 13, 13⟩
def PORT.PORT_STAT'EDGE (i : Nat) : Loc := ⟨(PORT.PORT_STAT i), 12, 12⟩
def PORT.PORT_STAT'BIN (i : Nat) : Loc := ⟨(PORT.PORT_STAT i), 5, 0⟩
/-- PORT.PORT_FLAGS: spec/16_portals.md. -/
def PORT.PORT_FLAGS (i : Nat) : Nat := 0x00D00008 + 0x100 * i
def PORT.PORT_FLAGS'REFUSE_CODE (i : Nat) : Loc := ⟨(PORT.PORT_FLAGS i), 15, 8⟩
def PORT.PORT_FLAGS'CMD_REFUSED (i : Nat) : Loc := ⟨(PORT.PORT_FLAGS i), 4, 4⟩
def PORT.PORT_FLAGS'UNLOCK_TIMEOUT (i : Nat) : Loc := ⟨(PORT.PORT_FLAGS i), 3, 3⟩
def PORT.PORT_FLAGS'EDGE_HIT (i : Nat) : Loc := ⟨(PORT.PORT_FLAGS i), 2, 2⟩
def PORT.PORT_FLAGS'OBSTACLE (i : Nat) : Loc := ⟨(PORT.PORT_FLAGS i), 1, 1⟩
def PORT.PORT_FLAGS'LOCK_FAULT (i : Nat) : Loc := ⟨(PORT.PORT_FLAGS i), 0, 0⟩
/-- PORT.PORT_CUR: spec/16_portals.md. -/
def PORT.PORT_CUR (i : Nat) : Nat := 0x00D0000C + 0x100 * i
def PORT.PORT_CUR'THRESHOLD (i : Nat) : Loc := ⟨(PORT.PORT_CUR i), 31, 16⟩
def PORT.PORT_CUR'I_MEAS (i : Nat) : Loc := ⟨(PORT.PORT_CUR i), 15, 0⟩
/-- PORT.PORT_CFG: spec/16_portals.md. -/
def PORT.PORT_CFG (i : Nat) : Nat := 0x00D00010 + 0x100 * i
def PORT.PORT_CFG'EN (i : Nat) : Loc := ⟨(PORT.PORT_CFG i), 31, 31⟩
def PORT.PORT_CFG'MOTOR_KIND (i : Nat) : Loc := ⟨(PORT.PORT_CFG i), 29, 28⟩
def PORT.PORT_CFG'POS_SRC (i : Nat) : Loc := ⟨(PORT.PORT_CFG i), 27, 27⟩
def PORT.PORT_CFG'ZONE (i : Nat) : Loc := ⟨(PORT.PORT_CFG i), 26, 24⟩
def PORT.PORT_CFG'LPG (i : Nat) : Loc := ⟨(PORT.PORT_CFG i), 22, 20⟩
def PORT.PORT_CFG'FB (i : Nat) : Loc := ⟨(PORT.PORT_CFG i), 18, 16⟩
def PORT.PORT_CFG'BRAKE (i : Nat) : Loc := ⟨(PORT.PORT_CFG i), 15, 15⟩
/-- PORT.PORT_POS: spec/16_portals.md. -/
def PORT.PORT_POS (i : Nat) : Nat := 0x00D00014 + 0x100 * i
def PORT.PORT_POS'POS (i : Nat) : Loc := ⟨(PORT.PORT_POS i), 31, 0⟩
/-- PORT.PORT_CNT: spec/16_portals.md. -/
def PORT.PORT_CNT (i : Nat) : Nat := 0x00D00018 + 0x100 * i
def PORT.PORT_CNT'CYCLES (i : Nat) : Loc := ⟨(PORT.PORT_CNT i), 31, 16⟩
def PORT.PORT_CNT'OBSTACLES (i : Nat) : Loc := ⟨(PORT.PORT_CNT i), 15, 8⟩
def PORT.PORT_CNT'EDGES (i : Nat) : Loc := ⟨(PORT.PORT_CNT i), 7, 0⟩
/-- PORT.PORT_ZONE: spec/16_portals.md. -/
def PORT.PORT_ZONE : Nat := 0x00D01000
def PORT.PORT_ZONE'LIVE : Loc := ⟨PORT.PORT_ZONE, 15, 8⟩
def PORT.PORT_ZONE'DEAD : Loc := ⟨PORT.PORT_ZONE, 7, 0⟩
/-- PORT.ENV: spec/16_portals.md. -/
def PORT.ENV (i j k : Nat) : Nat := 0x00D04000 + 0x200 * i + 0x100 * j + 0x4 * k
def PORT.ENV'MA (i j k : Nat) : Loc := ⟨(PORT.ENV i j k), 15, 0⟩

/-! ### SRT: window at 0x00E00000 -/
/-- SRT.SRT_CTRL: spec/17_sertik_bus.md. -/
def SRT.SRT_CTRL : Nat := 0x00E00000
def SRT.SRT_CTRL'EN : Loc := ⟨SRT.SRT_CTRL, 31, 31⟩
def SRT.SRT_CTRL'CH_B_EN : Loc := ⟨SRT.SRT_CTRL, 1, 1⟩
def SRT.SRT_CTRL'CH_A_EN : Loc := ⟨SRT.SRT_CTRL, 0, 0⟩
/-- SRT.SRT_STAT: spec/17_sertik_bus.md. -/
def SRT.SRT_STAT : Nat := 0x00E00004
def SRT.SRT_STAT'STATE : Loc := ⟨SRT.SRT_STAT, 31, 29⟩
def SRT.SRT_STAT'LEADER : Loc := ⟨SRT.SRT_STAT, 28, 28⟩
def SRT.SRT_STAT'LEADER_IDX : Loc := ⟨SRT.SRT_STAT, 27, 26⟩
def SRT.SRT_STAT'LOST_A : Loc := ⟨SRT.SRT_STAT, 25, 25⟩
def SRT.SRT_STAT'LOST_B : Loc := ⟨SRT.SRT_STAT, 24, 24⟩
def SRT.SRT_STAT'CYCLE : Loc := ⟨SRT.SRT_STAT, 15, 0⟩
/-- SRT.SRT_ERR: spec/17_sertik_bus.md. -/
def SRT.SRT_ERR : Nat := 0x00E00008
def SRT.SRT_ERR'ALIGN_FAULT : Loc := ⟨SRT.SRT_ERR, 7, 7⟩
def SRT.SRT_ERR'GUARD_MISMATCH : Loc := ⟨SRT.SRT_ERR, 6, 6⟩
def SRT.SRT_ERR'GUARD_BLOCK : Loc := ⟨SRT.SRT_ERR, 5, 5⟩
def SRT.SRT_ERR'SCHED_MISMATCH : Loc := ⟨SRT.SRT_ERR, 4, 4⟩
def SRT.SRT_ERR'SYNC_LOST : Loc := ⟨SRT.SRT_ERR, 3, 3⟩
def SRT.SRT_ERR'COLLISION : Loc := ⟨SRT.SRT_ERR, 2, 2⟩
def SRT.SRT_ERR'CLAIM_DENIED : Loc := ⟨SRT.SRT_ERR, 1, 1⟩
def SRT.SRT_ERR'CH_LOST : Loc := ⟨SRT.SRT_ERR, 0, 0⟩
/-- SRT.SRT_CFG: spec/17_sertik_bus.md. -/
def SRT.SRT_CFG : Nat := 0x00E0000C
def SRT.SRT_CFG'SCHED_ID : Loc := ⟨SRT.SRT_CFG, 31, 16⟩
def SRT.SRT_CFG'CS_IDX : Loc := ⟨SRT.SRT_CFG, 13, 12⟩
def SRT.SRT_CFG'NODE_ID : Loc := ⟨SRT.SRT_CFG, 4, 0⟩
/-- SRT.SRT_PROP: spec/17_sertik_bus.md. -/
def SRT.SRT_PROP : Nat := 0x00E00010
def SRT.SRT_PROP'NS : Loc := ⟨SRT.SRT_PROP, 9, 0⟩
/-- SRT.ERR_CNT: spec/17_sertik_bus.md. -/
def SRT.ERR_CNT (i : Nat) : Nat := 0x00E00014 + 0x4 * i
def SRT.ERR_CNT'CRC (i : Nat) : Loc := ⟨(SRT.ERR_CNT i), 31, 24⟩
def SRT.ERR_CNT'TIMING (i : Nat) : Loc := ⟨(SRT.ERR_CNT i), 23, 16⟩
def SRT.ERR_CNT'HEADER (i : Nat) : Loc := ⟨(SRT.ERR_CNT i), 15, 8⟩
def SRT.ERR_CNT'CODE (i : Nat) : Loc := ⟨(SRT.ERR_CNT i), 7, 0⟩
/-- SRT.COLD_CNT: spec/17_sertik_bus.md. -/
def SRT.COLD_CNT : Nat := 0x00E0001C
def SRT.COLD_CNT'COLLISIONS : Loc := ⟨SRT.COLD_CNT, 31, 16⟩
def SRT.COLD_CNT'TAKEOVERS : Loc := ⟨SRT.COLD_CNT, 15, 8⟩
def SRT.COLD_CNT'LEADER_CHG : Loc := ⟨SRT.COLD_CNT, 7, 0⟩
/-- SRT.GRANT: spec/17_sertik_bus.md. -/
def SRT.GRANT (i : Nat) : Nat := 0x00E00020 + 0x4 * i
def SRT.GRANT'BYTES (i : Nat) : Loc := ⟨(SRT.GRANT i), 31, 0⟩
/-- SRT.GUARD_STAT: spec/17_sertik_bus.md. -/
def SRT.GUARD_STAT : Nat := 0x00E00040
def SRT.GUARD_STAT'BLOCK_CNT : Loc := ⟨SRT.GUARD_STAT, 31, 16⟩
def SRT.GUARD_STAT'TABLE_OK : Loc := ⟨SRT.GUARD_STAT, 0, 0⟩
/-- SRT.CLAIM_CNT: spec/17_sertik_bus.md. -/
def SRT.CLAIM_CNT : Nat := 0x00E00044
def SRT.CLAIM_CNT'GRANTS : Loc := ⟨SRT.CLAIM_CNT, 31, 16⟩
def SRT.CLAIM_CNT'DENIALS : Loc := ⟨SRT.CLAIM_CNT, 15, 0⟩
/-- SRT.RX_HDR: spec/17_sertik_bus.md. -/
def SRT.RX_HDR (i : Nat) : Nat := 0x00E01000 + 0x80 * i
def SRT.RX_HDR'CYCLE (i : Nat) : Loc := ⟨(SRT.RX_HDR i), 31, 16⟩
def SRT.RX_HDR'AGE (i : Nat) : Loc := ⟨(SRT.RX_HDR i), 15, 8⟩
def SRT.RX_HDR'FAILOVER (i : Nat) : Loc := ⟨(SRT.RX_HDR i), 5, 5⟩
def SRT.RX_HDR'CH (i : Nat) : Loc := ⟨(SRT.RX_HDR i), 4, 4⟩
def SRT.RX_HDR'SAFETY (i : Nat) : Loc := ⟨(SRT.RX_HDR i), 3, 3⟩
def SRT.RX_HDR'HELD (i : Nat) : Loc := ⟨(SRT.RX_HDR i), 0, 0⟩
/-- SRT.RX_SRC: spec/17_sertik_bus.md. -/
def SRT.RX_SRC (i : Nat) : Nat := 0x00E01004 + 0x80 * i
def SRT.RX_SRC'SLOT (i : Nat) : Loc := ⟨(SRT.RX_SRC i), 14, 8⟩
def SRT.RX_SRC'NODE (i : Nat) : Loc := ⟨(SRT.RX_SRC i), 4, 0⟩
/-- SRT.RX_DT: spec/17_sertik_bus.md. -/
def SRT.RX_DT (i : Nat) : Nat := 0x00E01008 + 0x80 * i
def SRT.RX_DT'NS (i : Nat) : Loc := ⟨(SRT.RX_DT i), 31, 0⟩
/-- SRT.RX_CFG: spec/17_sertik_bus.md. -/
def SRT.RX_CFG (i : Nat) : Nat := 0x00E0100C + 0x80 * i
def SRT.RX_CFG'EN (i : Nat) : Loc := ⟨(SRT.RX_CFG i), 31, 31⟩
def SRT.RX_CFG'SAFETY (i : Nat) : Loc := ⟨(SRT.RX_CFG i), 30, 30⟩
def SRT.RX_CFG'DEST (i : Nat) : Loc := ⟨(SRT.RX_CFG i), 29, 28⟩
def SRT.RX_CFG'FLOW (i : Nat) : Loc := ⟨(SRT.RX_CFG i), 15, 8⟩
def SRT.RX_CFG'LEN (i : Nat) : Loc := ⟨(SRT.RX_CFG i), 6, 0⟩
/-- SRT.RX_CNT: spec/17_sertik_bus.md. -/
def SRT.RX_CNT (i : Nat) : Nat := 0x00E01010 + 0x80 * i
def SRT.RX_CNT'DUP_CNT (i : Nat) : Loc := ⟨(SRT.RX_CNT i), 31, 16⟩
def SRT.RX_CNT'MISS_CNT (i : Nat) : Loc := ⟨(SRT.RX_CNT i), 15, 0⟩
/-- SRT.RX_SAFE: spec/17_sertik_bus.md. -/
def SRT.RX_SAFE (i : Nat) : Nat := 0x00E01014 + 0x80 * i
def SRT.RX_SAFE'DEAD (i : Nat) : Loc := ⟨(SRT.RX_SAFE i), 31, 16⟩
def SRT.RX_SAFE'LIVE (i : Nat) : Loc := ⟨(SRT.RX_SAFE i), 15, 0⟩
/-- SRT.TX_STAT: spec/17_sertik_bus.md. -/
def SRT.TX_STAT (i : Nat) : Nat := 0x00E01000 + 0x80 * i
def SRT.TX_STAT'CYCLE (i : Nat) : Loc := ⟨(SRT.TX_STAT i), 31, 16⟩
def SRT.TX_STAT'FAILOVER_ACT (i : Nat) : Loc := ⟨(SRT.TX_STAT i), 2, 2⟩
def SRT.TX_STAT'NULL_SENT (i : Nat) : Loc := ⟨(SRT.TX_STAT i), 1, 1⟩
def SRT.TX_STAT'PENDING (i : Nat) : Loc := ⟨(SRT.TX_STAT i), 0, 0⟩
/-- SRT.TX_CTRL: spec/17_sertik_bus.md. -/
def SRT.TX_CTRL (i : Nat) : Nat := 0x00E0100C + 0x80 * i
def SRT.TX_CTRL'EN (i : Nat) : Loc := ⟨(SRT.TX_CTRL i), 31, 31⟩
def SRT.TX_CTRL'COMMIT (i : Nat) : Loc := ⟨(SRT.TX_CTRL i), 30, 30⟩
def SRT.TX_CTRL'SRC (i : Nat) : Loc := ⟨(SRT.TX_CTRL i), 29, 28⟩
def SRT.TX_CTRL'LEN (i : Nat) : Loc := ⟨(SRT.TX_CTRL i), 6, 0⟩
/-- SRT.TX_CNT: spec/17_sertik_bus.md. -/
def SRT.TX_CNT (i : Nat) : Nat := 0x00E01010 + 0x80 * i
def SRT.TX_CNT'NULL_CNT (i : Nat) : Loc := ⟨(SRT.TX_CNT i), 31, 16⟩
def SRT.TX_CNT'SENT_CNT (i : Nat) : Loc := ⟨(SRT.TX_CNT i), 15, 0⟩
/-- SRT.RX_DATA: spec/17_sertik_bus.md. -/
def SRT.RX_DATA (i j : Nat) : Nat := 0x00E01040 + 0x80 * i + 0x4 * j
def SRT.RX_DATA'WORD (i j : Nat) : Loc := ⟨(SRT.RX_DATA i j), 31, 0⟩
/-- SRT.TX_DATA: spec/17_sertik_bus.md. -/
def SRT.TX_DATA (i j : Nat) : Nat := 0x00E01040 + 0x80 * i + 0x4 * j
def SRT.TX_DATA'WORD (i j : Nat) : Loc := ⟨(SRT.TX_DATA i j), 31, 0⟩

/-! ### TIME: window at 0x00F00000 -/
/-- TIME.TIME_CTRL: spec/18_time_base.md. -/
def TIME.TIME_CTRL : Nat := 0x00F00000
def TIME.TIME_CTRL'RUN : Loc := ⟨TIME.TIME_CTRL, 31, 31⟩
def TIME.TIME_CTRL'PPS_EN : Loc := ⟨TIME.TIME_CTRL, 30, 30⟩
def TIME.TIME_CTRL'SRC : Loc := ⟨TIME.TIME_CTRL, 2, 0⟩
/-- TIME.TIME_STAT: spec/18_time_base.md. -/
def TIME.TIME_STAT : Nat := 0x00F00004
def TIME.TIME_STAT'HOLDOVER : Loc := ⟨TIME.TIME_STAT, 31, 31⟩
def TIME.TIME_STAT'SLEWING : Loc := ⟨TIME.TIME_STAT, 30, 30⟩
def TIME.TIME_STAT'HOLD_CAUSE : Loc := ⟨TIME.TIME_STAT, 29, 29⟩
def TIME.TIME_STAT'ADJ_REFUSED : Loc := ⟨TIME.TIME_STAT, 2, 2⟩
def TIME.TIME_STAT'STEP_REFUSED : Loc := ⟨TIME.TIME_STAT, 1, 1⟩
/-- TIME.STEP_CMD: spec/18_time_base.md. -/
def TIME.STEP_CMD : Nat := 0x00F00024
def TIME.STEP_CMD'GO : Loc := ⟨TIME.STEP_CMD, 31, 31⟩
def TIME.STEP_CMD'HOLD_EXIT : Loc := ⟨TIME.STEP_CMD, 30, 30⟩
/-- TIME.RATE_ADJ: spec/18_time_base.md. -/
def TIME.RATE_ADJ : Nat := 0x00F00028
def TIME.RATE_ADJ'ADJ : Loc := ⟨TIME.RATE_ADJ, 31, 0⟩
/-- TIME.RATE_MAX: spec/18_time_base.md. -/
def TIME.RATE_MAX : Nat := 0x00F0002C
def TIME.RATE_MAX'RATE_MAX : Loc := ⟨TIME.RATE_MAX, 9, 0⟩
/-- TIME.SLEW_NS: spec/18_time_base.md. -/
def TIME.SLEW_NS : Nat := 0x00F00030
def TIME.SLEW_NS'NS : Loc := ⟨TIME.SLEW_NS, 31, 0⟩
/-- TIME.SLEW_RATE: spec/18_time_base.md. -/
def TIME.SLEW_RATE : Nat := 0x00F00034
def TIME.SLEW_RATE'SLEW_RATE : Loc := ⟨TIME.SLEW_RATE, 8, 0⟩
/-- TIME.SLEW_LEFT: spec/18_time_base.md. -/
def TIME.SLEW_LEFT : Nat := 0x00F00038
def TIME.SLEW_LEFT'LEFT : Loc := ⟨TIME.SLEW_LEFT, 31, 0⟩
/-- TIME.SYNC_TO: spec/18_time_base.md. -/
def TIME.SYNC_TO : Nat := 0x00F0003C
def TIME.SYNC_TO'SYNC_TO : Loc := ⟨TIME.SYNC_TO, 11, 0⟩
/-- TIME.GM_ID_LO: spec/18_time_base.md. -/
def TIME.GM_ID_LO : Nat := 0x00F00040
def TIME.GM_ID_LO'LO : Loc := ⟨TIME.GM_ID_LO, 31, 0⟩
/-- TIME.GM_ID_HI: spec/18_time_base.md. -/
def TIME.GM_ID_HI : Nat := 0x00F00044
def TIME.GM_ID_HI'HI : Loc := ⟨TIME.GM_ID_HI, 31, 0⟩
/-- TIME.PTP_CFG: spec/18_time_base.md. -/
def TIME.PTP_CFG (i : Nat) : Nat := 0x00F00100 + 0x40 * i
def TIME.PTP_CFG'EN (i : Nat) : Loc := ⟨(TIME.PTP_CFG i), 31, 31⟩
def TIME.PTP_CFG'PROFILE (i : Nat) : Loc := ⟨(TIME.PTP_CFG i), 30, 29⟩
def TIME.PTP_CFG'TRANSPORT (i : Nat) : Loc := ⟨(TIME.PTP_CFG i), 28, 28⟩
/-- TIME.PTP_LAT: spec/18_time_base.md. -/
def TIME.PTP_LAT (i : Nat) : Nat := 0x00F00104 + 0x40 * i
def TIME.PTP_LAT'TX_LAT (i : Nat) : Loc := ⟨(TIME.PTP_LAT i), 31, 16⟩
def TIME.PTP_LAT'RX_LAT (i : Nat) : Loc := ⟨(TIME.PTP_LAT i), 15, 0⟩
/-- TIME.TXTS_HDR: spec/18_time_base.md. -/
def TIME.TXTS_HDR (i : Nat) : Nat := 0x00F00108 + 0x40 * i
def TIME.TXTS_HDR'VALID (i : Nat) : Loc := ⟨(TIME.TXTS_HDR i), 31, 31⟩
def TIME.TXTS_HDR'COUNT (i : Nat) : Loc := ⟨(TIME.TXTS_HDR i), 20, 16⟩
def TIME.TXTS_HDR'FRAME_TAG (i : Nat) : Loc := ⟨(TIME.TXTS_HDR i), 15, 0⟩
/-- TIME.TXTS_NS: spec/18_time_base.md. -/
def TIME.TXTS_NS (i : Nat) : Nat := 0x00F0010C + 0x40 * i
def TIME.TXTS_NS'NS (i : Nat) : Loc := ⟨(TIME.TXTS_NS i), 31, 0⟩
/-- TIME.TXTS_SEC_LO: spec/18_time_base.md. -/
def TIME.TXTS_SEC_LO (i : Nat) : Nat := 0x00F00110 + 0x40 * i
def TIME.TXTS_SEC_LO'LO (i : Nat) : Loc := ⟨(TIME.TXTS_SEC_LO i), 31, 0⟩
/-- TIME.TXTS_SEC_HI: spec/18_time_base.md. -/
def TIME.TXTS_SEC_HI (i : Nat) : Nat := 0x00F00114 + 0x40 * i
def TIME.TXTS_SEC_HI'HI (i : Nat) : Loc := ⟨(TIME.TXTS_SEC_HI i), 15, 0⟩
/-- TIME.TS_OVF: spec/18_time_base.md. -/
def TIME.TS_OVF (i : Nat) : Nat := 0x00F00118 + 0x40 * i
def TIME.TS_OVF'CNT (i : Nat) : Loc := ⟨(TIME.TS_OVF i), 15, 0⟩
/-- TIME.DT_NS: spec/18_time_base.md. -/
def TIME.DT_NS : Nat := 0x00F00008
def TIME.DT_NS'DT_NS : Loc := ⟨TIME.DT_NS, 31, 0⟩
/-- TIME.DT_SEC_LO: spec/18_time_base.md. -/
def TIME.DT_SEC_LO : Nat := 0x00F0000C
def TIME.DT_SEC_LO'DT_SEC_LO : Loc := ⟨TIME.DT_SEC_LO, 31, 0⟩
/-- TIME.DT_SEC_HI: spec/18_time_base.md. -/
def TIME.DT_SEC_HI : Nat := 0x00F00010
def TIME.DT_SEC_HI'DT_SEC_HI : Loc := ⟨TIME.DT_SEC_HI, 15, 0⟩
/-- TIME.NS32: spec/18_time_base.md. -/
def TIME.NS32 : Nat := 0x00F00014
def TIME.NS32'NS32 : Loc := ⟨TIME.NS32, 31, 0⟩
/-- TIME.SET_NS: spec/18_time_base.md. -/
def TIME.SET_NS : Nat := 0x00F00018
def TIME.SET_NS'SET_NS : Loc := ⟨TIME.SET_NS, 31, 0⟩
/-- TIME.SET_SEC_LO: spec/18_time_base.md. -/
def TIME.SET_SEC_LO : Nat := 0x00F0001C
def TIME.SET_SEC_LO'SET_SEC_LO : Loc := ⟨TIME.SET_SEC_LO, 31, 0⟩
/-- TIME.SET_SEC_HI: spec/18_time_base.md. -/
def TIME.SET_SEC_HI : Nat := 0x00F00020
def TIME.SET_SEC_HI'SET_SEC_HI : Loc := ⟨TIME.SET_SEC_HI, 15, 0⟩

/-! ### NET: window at 0x01000000 -/
/-- NET.NET_CFG: spec/22_host_and_events.md. -/
def NET.NET_CFG (i : Nat) : Nat := 0x01000000 + 0x1000 * i
def NET.NET_CFG'EN (i : Nat) : Loc := ⟨(NET.NET_CFG i), 31, 31⟩
def NET.NET_CFG'PROMISC (i : Nat) : Loc := ⟨(NET.NET_CFG i), 30, 30⟩
def NET.NET_CFG'BCAST (i : Nat) : Loc := ⟨(NET.NET_CFG i), 29, 29⟩
def NET.NET_CFG'MCAST_ALL (i : Nat) : Loc := ⟨(NET.NET_CFG i), 28, 28⟩
def NET.NET_CFG'RX_TO (i : Nat) : Loc := ⟨(NET.NET_CFG i), 20, 16⟩
/-- NET.NET_MAC_LO: spec/22_host_and_events.md. -/
def NET.NET_MAC_LO (i : Nat) : Nat := 0x01000004 + 0x1000 * i
def NET.NET_MAC_LO'MAC (i : Nat) : Loc := ⟨(NET.NET_MAC_LO i), 31, 0⟩
/-- NET.NET_MAC_HI: spec/22_host_and_events.md. -/
def NET.NET_MAC_HI (i : Nat) : Nat := 0x01000008 + 0x1000 * i
def NET.NET_MAC_HI'MAC (i : Nat) : Loc := ⟨(NET.NET_MAC_HI i), 15, 0⟩
/-- NET.NET_RX_RING: spec/22_host_and_events.md. -/
def NET.NET_RX_RING (i : Nat) : Nat := 0x0100000C + 0x1000 * i
def NET.NET_RX_RING'RX_BASE (i : Nat) : Loc := ⟨(NET.NET_RX_RING i), 26, 16⟩
def NET.NET_RX_RING'RX_N_M1 (i : Nat) : Loc := ⟨(NET.NET_RX_RING i), 7, 0⟩
/-- NET.NET_STAT: spec/22_host_and_events.md. -/
def NET.NET_STAT (i : Nat) : Nat := 0x01000010 + 0x1000 * i
def NET.NET_STAT'LINK (i : Nat) : Loc := ⟨(NET.NET_STAT i), 31, 31⟩
def NET.NET_STAT'SFP_PRESENT (i : Nat) : Loc := ⟨(NET.NET_STAT i), 30, 30⟩
def NET.NET_STAT'SFP_LOS (i : Nat) : Loc := ⟨(NET.NET_STAT i), 29, 29⟩
def NET.NET_STAT'TX_DRAIN (i : Nat) : Loc := ⟨(NET.NET_STAT i), 2, 2⟩
def NET.NET_STAT'RX_NOBUF (i : Nat) : Loc := ⟨(NET.NET_STAT i), 1, 1⟩
def NET.NET_STAT'LINK_CHG (i : Nat) : Loc := ⟨(NET.NET_STAT i), 0, 0⟩
/-- NET.NET_TX_CMD: spec/22_host_and_events.md. -/
def NET.NET_TX_CMD (i : Nat) : Nat := 0x01000014 + 0x1000 * i
def NET.NET_TX_CMD'GO (i : Nat) : Loc := ⟨(NET.NET_TX_CMD i), 31, 31⟩
def NET.NET_TX_CMD'BUF (i : Nat) : Loc := ⟨(NET.NET_TX_CMD i), 10, 0⟩
/-- NET.NET_TX_STAT: spec/22_host_and_events.md. -/
def NET.NET_TX_STAT (i : Nat) : Nat := 0x01000018 + 0x1000 * i
def NET.NET_TX_STAT'RESULT (i : Nat) : Loc := ⟨(NET.NET_TX_STAT i), 31, 28⟩
def NET.NET_TX_STAT'QUEUED (i : Nat) : Loc := ⟨(NET.NET_TX_STAT i), 22, 16⟩
/-- NET.NET_CNT: spec/22_host_and_events.md. -/
def NET.NET_CNT (i : Nat) : Nat := 0x0100001C + 0x1000 * i
def NET.NET_CNT'RX_DROP (i : Nat) : Loc := ⟨(NET.NET_CNT i), 31, 16⟩
def NET.NET_CNT'RX_BAD (i : Nat) : Loc := ⟨(NET.NET_CNT i), 15, 0⟩

/-! ### FYV: window at 0x01100000 -/
/-- FYV.PAIR_STAT: spec/19_redundant_pairs_cascades.md. -/
def FYV.PAIR_STAT : Nat := 0x01100000
def FYV.PAIR_STAT'STATE : Loc := ⟨FYV.PAIR_STAT, 31, 30⟩
def FYV.PAIR_STAT'ACTIVE : Loc := ⟨FYV.PAIR_STAT, 29, 29⟩
def FYV.PAIR_STAT'MEMBER : Loc := ⟨FYV.PAIR_STAT, 28, 28⟩
def FYV.PAIR_STAT'FB_SUSP : Loc := ⟨FYV.PAIR_STAT, 27, 27⟩
def FYV.PAIR_STAT'SWAP_DUE : Loc := ⟨FYV.PAIR_STAT, 26, 26⟩
def FYV.PAIR_STAT'PARTNER_MODE : Loc := ⟨FYV.PAIR_STAT, 19, 16⟩
def FYV.PAIR_STAT'TRACK_SKIP : Loc := ⟨FYV.PAIR_STAT, 15, 0⟩
/-- FYV.PAIR_ERR: spec/19_redundant_pairs_cascades.md. -/
def FYV.PAIR_ERR : Nat := 0x01100004
def FYV.PAIR_ERR'DRIFT : Loc := ⟨FYV.PAIR_ERR, 3, 3⟩
def FYV.PAIR_ERR'STANDBY_WR : Loc := ⟨FYV.PAIR_ERR, 2, 2⟩
def FYV.PAIR_ERR'ROLE_CONFLICT : Loc := ⟨FYV.PAIR_ERR, 1, 1⟩
def FYV.PAIR_ERR'HASH_MISMATCH : Loc := ⟨FYV.PAIR_ERR, 0, 0⟩
/-- FYV.PAIR_CFG: spec/19_redundant_pairs_cascades.md. -/
def FYV.PAIR_CFG : Nat := 0x01100008
def FYV.PAIR_CFG'ALIGN_TOL : Loc := ⟨FYV.PAIR_CFG, 31, 16⟩
def FYV.PAIR_CFG'PAIR_OFS : Loc := ⟨FYV.PAIR_CFG, 9, 0⟩
/-- FYV.SWAP_AGE: spec/19_redundant_pairs_cascades.md. -/
def FYV.SWAP_AGE : Nat := 0x0110000C
def FYV.SWAP_AGE'SECONDS : Loc := ⟨FYV.SWAP_AGE, 31, 0⟩
/-- FYV.PAIR_DIFF: spec/19_redundant_pairs_cascades.md. -/
def FYV.PAIR_DIFF : Nat := 0x01100010
def FYV.PAIR_DIFF'AXIS : Loc := ⟨FYV.PAIR_DIFF, 31, 26⟩
def FYV.PAIR_DIFF'DIFF : Loc := ⟨FYV.PAIR_DIFF, 25, 0⟩
/-- FYV.LINK_STAT: spec/19_redundant_pairs_cascades.md. -/
def FYV.LINK_STAT (i : Nat) : Nat := 0x01100100 + 0x40 * i
def FYV.LINK_STAT'UP (i : Nat) : Loc := ⟨(FYV.LINK_STAT i), 31, 31⟩
def FYV.LINK_STAT'CRC_CNT (i : Nat) : Loc := ⟨(FYV.LINK_STAT i), 23, 16⟩
def FYV.LINK_STAT'DELAY (i : Nat) : Loc := ⟨(FYV.LINK_STAT i), 15, 0⟩
/-- FYV.CASC_CFG: spec/19_redundant_pairs_cascades.md. -/
def FYV.CASC_CFG : Nat := 0x01100400
def FYV.CASC_CFG'POS : Loc := ⟨FYV.CASC_CFG, 29, 28⟩
def FYV.CASC_CFG'NPOS_M1 : Loc := ⟨FYV.CASC_CFG, 25, 24⟩
def FYV.CASC_CFG'ROUNDS : Loc := ⟨FYV.CASC_CFG, 19, 16⟩
def FYV.CASC_CFG'SHARED : Loc := ⟨FYV.CASC_CFG, 10, 0⟩
/-- FYV.CONS_STAT: spec/19_redundant_pairs_cascades.md. -/
def FYV.CONS_STAT : Nat := 0x01100404
def FYV.CONS_STAT'MASTER_LOST : Loc := ⟨FYV.CONS_STAT, 31, 31⟩
def FYV.CONS_STAT'CONS_LATE : Loc := ⟨FYV.CONS_STAT, 30, 30⟩
def FYV.CONS_STAT'MISSED : Loc := ⟨FYV.CONS_STAT, 29, 28⟩
def FYV.CONS_STAT'ROUNDS_DONE : Loc := ⟨FYV.CONS_STAT, 27, 24⟩
/-- FYV.CONS_RES: spec/19_redundant_pairs_cascades.md. -/
def FYV.CONS_RES : Nat := 0x01100408
def FYV.CONS_RES'RES : Loc := ⟨FYV.CONS_RES, 31, 0⟩
/-- FYV.TIME_OFS: spec/19_redundant_pairs_cascades.md. -/
def FYV.TIME_OFS : Nat := 0x01100410
def FYV.TIME_OFS'NS : Loc := ⟨FYV.TIME_OFS, 31, 0⟩
/-- FYV.IMG_SEND: spec/19_redundant_pairs_cascades.md. -/
def FYV.IMG_SEND : Nat := 0x01100500
def FYV.IMG_SEND'GO : Loc := ⟨FYV.IMG_SEND, 31, 31⟩
def FYV.IMG_SEND'POS : Loc := ⟨FYV.IMG_SEND, 30, 29⟩
def FYV.IMG_SEND'NBUF : Loc := ⟨FYV.IMG_SEND, 28, 18⟩
def FYV.IMG_SEND'BUF : Loc := ⟨FYV.IMG_SEND, 10, 0⟩

/-! ### DIO: window at 0x01200000 -/
/-- DIO.DIO_IN: spec/20_field_io.md. -/
def DIO.DIO_IN : Nat := 0x01200000
def DIO.DIO_IN'IN : Loc := ⟨DIO.DIO_IN, 31, 0⟩
/-- DIO.DIO_IN_RISE: spec/20_field_io.md. -/
def DIO.DIO_IN_RISE : Nat := 0x01200004
def DIO.DIO_IN_RISE'RISE : Loc := ⟨DIO.DIO_IN_RISE, 31, 0⟩
/-- DIO.DIO_IN_FALL: spec/20_field_io.md. -/
def DIO.DIO_IN_FALL : Nat := 0x01200008
def DIO.DIO_IN_FALL'FALL : Loc := ⟨DIO.DIO_IN_FALL, 31, 0⟩
/-- DIO.DIO_IN_EVT_EN: spec/20_field_io.md. -/
def DIO.DIO_IN_EVT_EN : Nat := 0x0120000C
def DIO.DIO_IN_EVT_EN'EN : Loc := ⟨DIO.DIO_IN_EVT_EN, 31, 0⟩
/-- DIO.DIO_FILT: spec/20_field_io.md. -/
def DIO.DIO_FILT : Nat := 0x01200010
def DIO.DIO_FILT'FILT : Loc := ⟨DIO.DIO_FILT, 31, 0⟩
/-- DIO.DIO_OUT: spec/20_field_io.md. -/
def DIO.DIO_OUT : Nat := 0x01200020
def DIO.DIO_OUT'OUT : Loc := ⟨DIO.DIO_OUT, 15, 0⟩
/-- DIO.DIO_OUT_ACT: spec/20_field_io.md. -/
def DIO.DIO_OUT_ACT : Nat := 0x01200024
def DIO.DIO_OUT_ACT'ACT : Loc := ⟨DIO.DIO_OUT_ACT, 15, 0⟩
/-- DIO.DIO_OUT_SRC: spec/20_field_io.md. -/
def DIO.DIO_OUT_SRC : Nat := 0x01200028
def DIO.DIO_OUT_SRC'SRC : Loc := ⟨DIO.DIO_OUT_SRC, 31, 0⟩
/-- DIO.DIO_CMP_SEL: spec/20_field_io.md. -/
def DIO.DIO_CMP_SEL (i : Nat) : Nat := 0x01200030 + 0x4 * i
def DIO.DIO_CMP_SEL'SEL (i : Nat) : Loc := ⟨(DIO.DIO_CMP_SEL i), 31, 0⟩
/-- DIO.DIO_PAR: spec/20_field_io.md. -/
def DIO.DIO_PAR : Nat := 0x01200040
def DIO.DIO_PAR'PAR : Loc := ⟨DIO.DIO_PAR, 7, 0⟩
/-- DIO.DIO_OVLD: spec/20_field_io.md. -/
def DIO.DIO_OVLD : Nat := 0x01200044
def DIO.DIO_OVLD'OVLD : Loc := ⟨DIO.DIO_OVLD, 15, 0⟩
/-- DIO.DIO_OVLD_CLR: spec/20_field_io.md. -/
def DIO.DIO_OVLD_CLR : Nat := 0x01200048
def DIO.DIO_OVLD_CLR'CLR : Loc := ⟨DIO.DIO_OVLD_CLR, 15, 0⟩
/-- DIO.DIO_GRP_STAT: spec/20_field_io.md. -/
def DIO.DIO_GRP_STAT (i : Nat) : Nat := 0x01200050 + 0x4 * i
def DIO.DIO_GRP_STAT'UV_LATCH (i : Nat) : Loc := ⟨(DIO.DIO_GRP_STAT i), 31, 31⟩
def DIO.DIO_GRP_STAT'SILENT (i : Nat) : Loc := ⟨(DIO.DIO_GRP_STAT i), 30, 30⟩
def DIO.DIO_GRP_STAT'UV_WARN (i : Nat) : Loc := ⟨(DIO.DIO_GRP_STAT i), 29, 29⟩
def DIO.DIO_GRP_STAT'RESTORE_READY (i : Nat) : Loc := ⟨(DIO.DIO_GRP_STAT i), 28, 28⟩
def DIO.DIO_GRP_STAT'UV_SEEN (i : Nat) : Loc := ⟨(DIO.DIO_GRP_STAT i), 27, 27⟩
def DIO.DIO_GRP_STAT'ACK_REFUSED (i : Nat) : Loc := ⟨(DIO.DIO_GRP_STAT i), 26, 26⟩
def DIO.DIO_GRP_STAT'VF (i : Nat) : Loc := ⟨(DIO.DIO_GRP_STAT i), 11, 0⟩
/-- DIO.DIO_GRP_CTRL: spec/20_field_io.md. -/
def DIO.DIO_GRP_CTRL (i : Nat) : Nat := 0x01200058 + 0x4 * i
def DIO.DIO_GRP_CTRL'ACK (i : Nat) : Loc := ⟨(DIO.DIO_GRP_CTRL i), 31, 31⟩
def DIO.DIO_GRP_CTRL'AUTO_RESTORE (i : Nat) : Loc := ⟨(DIO.DIO_GRP_CTRL i), 0, 0⟩
/-- DIO.DIO_LINK: spec/20_field_io.md. -/
def DIO.DIO_LINK : Nat := 0x01200060
def DIO.DIO_LINK'ERR_CNT : Loc := ⟨DIO.DIO_LINK, 31, 16⟩
def DIO.DIO_LINK'RUN : Loc := ⟨DIO.DIO_LINK, 1, 0⟩

/-! ### NAND: window at 0x01300000 -/
/-- NAND.NAND_STAT: spec/21_storage.md. -/
def NAND.NAND_STAT : Nat := 0x01300000
def NAND.NAND_STAT'MOUNTED : Loc := ⟨NAND.NAND_STAT, 31, 31⟩
def NAND.NAND_STAT'BUSY : Loc := ⟨NAND.NAND_STAT, 30, 30⟩
def NAND.NAND_STAT'DEFERRED : Loc := ⟨NAND.NAND_STAT, 29, 29⟩
def NAND.NAND_STAT'LIFE_WARN : Loc := ⟨NAND.NAND_STAT, 28, 28⟩
def NAND.NAND_STAT'PREF_SLOT : Loc := ⟨NAND.NAND_STAT, 7, 7⟩
def NAND.NAND_STAT'FAILED : Loc := ⟨NAND.NAND_STAT, 6, 0⟩
/-- NAND.NAND_ERR: spec/21_storage.md. -/
def NAND.NAND_ERR : Nat := 0x01300004
def NAND.NAND_ERR'MOUNT_LOSS : Loc := ⟨NAND.NAND_ERR, 4, 4⟩
def NAND.NAND_ERR'DROP : Loc := ⟨NAND.NAND_ERR, 3, 3⟩
def NAND.NAND_ERR'UNCORR : Loc := ⟨NAND.NAND_ERR, 2, 2⟩
def NAND.NAND_ERR'ERASE_FAIL : Loc := ⟨NAND.NAND_ERR, 1, 1⟩
def NAND.NAND_ERR'PROG_FAIL : Loc := ⟨NAND.NAND_ERR, 0, 0⟩
/-- NAND.NAND_CFG: spec/21_storage.md. -/
def NAND.NAND_CFG : Nat := 0x01300008
def NAND.NAND_CFG'SCRUB_BITS : Loc := ⟨NAND.NAND_CFG, 31, 24⟩
def NAND.NAND_CFG'SCRUB_DAYS : Loc := ⟨NAND.NAND_CFG, 23, 16⟩
def NAND.NAND_CFG'FLUSH_MS : Loc := ⟨NAND.NAND_CFG, 15, 0⟩
/-- NAND.RD_LIMIT: spec/21_storage.md. -/
def NAND.RD_LIMIT : Nat := 0x0130000C
def NAND.RD_LIMIT'RD_LIMIT : Loc := ⟨NAND.RD_LIMIT, 31, 0⟩
/-- NAND.ECC_CNT: spec/21_storage.md. -/
def NAND.ECC_CNT : Nat := 0x01300010
def NAND.ECC_CNT'UNCORR_CW : Loc := ⟨NAND.ECC_CNT, 31, 16⟩
def NAND.ECC_CNT'CORR40 : Loc := ⟨NAND.ECC_CNT, 15, 0⟩
/-- NAND.BAD_CNT: spec/21_storage.md. -/
def NAND.BAD_CNT : Nat := 0x01300014
def NAND.BAD_CNT'GROWN : Loc := ⟨NAND.BAD_CNT, 31, 16⟩
def NAND.BAD_CNT'FACTORY : Loc := ⟨NAND.BAD_CNT, 15, 0⟩
/-- NAND.DROP_CNT: spec/21_storage.md. -/
def NAND.DROP_CNT : Nat := 0x01300018
def NAND.DROP_CNT'SAFELOG : Loc := ⟨NAND.DROP_CNT, 31, 16⟩
def NAND.DROP_CNT'CYCLE : Loc := ⟨NAND.DROP_CNT, 15, 0⟩
/-- NAND.PART_STAT: spec/21_storage.md. -/
def NAND.PART_STAT (i : Nat) : Nat := 0x01300040 + 0x20 * i
def NAND.PART_STAT'REMAIN_PCT (i : Nat) : Loc := ⟨(NAND.PART_STAT i), 31, 24⟩
def NAND.PART_STAT'MAX_ERASE (i : Nat) : Loc := ⟨(NAND.PART_STAT i), 23, 12⟩
def NAND.PART_STAT'GOOD (i : Nat) : Loc := ⟨(NAND.PART_STAT i), 11, 0⟩
/-- NAND.IMG_WR: spec/21_storage.md. -/
def NAND.IMG_WR : Nat := 0x01300200
def NAND.IMG_WR'GO : Loc := ⟨NAND.IMG_WR, 31, 31⟩
def NAND.IMG_WR'SET_PREF : Loc := ⟨NAND.IMG_WR, 30, 30⟩
def NAND.IMG_WR'SLOT : Loc := ⟨NAND.IMG_WR, 29, 29⟩
def NAND.IMG_WR'RESULT : Loc := ⟨NAND.IMG_WR, 7, 0⟩
/-- NAND.RD_CMD: spec/21_storage.md. -/
def NAND.RD_CMD : Nat := 0x01300300
def NAND.RD_CMD'GO : Loc := ⟨NAND.RD_CMD, 31, 31⟩
def NAND.RD_CMD'PART : Loc := ⟨NAND.RD_CMD, 30, 30⟩
def NAND.RD_CMD'BUF : Loc := ⟨NAND.RD_CMD, 10, 0⟩
/-- NAND.RD_RSEQ_LO: spec/21_storage.md. -/
def NAND.RD_RSEQ_LO : Nat := 0x01300304
def NAND.RD_RSEQ_LO'LO : Loc := ⟨NAND.RD_RSEQ_LO, 31, 0⟩
/-- NAND.RD_RSEQ_HI: spec/21_storage.md. -/
def NAND.RD_RSEQ_HI : Nat := 0x01300308
def NAND.RD_RSEQ_HI'HI : Loc := ⟨NAND.RD_RSEQ_HI, 31, 0⟩
/-- NAND.RD_STAT: spec/21_storage.md. -/
def NAND.RD_STAT : Nat := 0x0130030C
def NAND.RD_STAT'RESULT : Loc := ⟨NAND.RD_STAT, 31, 24⟩
def NAND.RD_STAT'BAD : Loc := ⟨NAND.RD_STAT, 23, 16⟩
def NAND.RD_STAT'COUNT : Loc := ⟨NAND.RD_STAT, 7, 0⟩
/-- NAND.CR_DATA: spec/21_storage.md. -/
def NAND.CR_DATA (i : Nat) : Nat := 0x01300400 + 0x4 * i
def NAND.CR_DATA'WORD (i : Nat) : Loc := ⟨(NAND.CR_DATA i), 31, 0⟩
/-- NAND.CR_CMD: spec/21_storage.md. -/
def NAND.CR_CMD : Nat := 0x01300440
def NAND.CR_CMD'GO : Loc := ⟨NAND.CR_CMD, 31, 31⟩
def NAND.CR_CMD'FLUSH : Loc := ⟨NAND.CR_CMD, 30, 30⟩
def NAND.CR_CMD'RESULT : Loc := ⟨NAND.CR_CMD, 1, 0⟩
/-- NAND.DURABLE_LO: spec/21_storage.md. -/
def NAND.DURABLE_LO (i : Nat) : Nat := 0x01300044 + 0x20 * i
def NAND.DURABLE_LO'DURABLE_LO (i : Nat) : Loc := ⟨(NAND.DURABLE_LO i), 31, 0⟩
/-- NAND.DURABLE_HI: spec/21_storage.md. -/
def NAND.DURABLE_HI (i : Nat) : Nat := 0x01300048 + 0x20 * i
def NAND.DURABLE_HI'DURABLE_HI (i : Nat) : Loc := ⟨(NAND.DURABLE_HI i), 31, 0⟩
/-- NAND.OLDEST_LO: spec/21_storage.md. -/
def NAND.OLDEST_LO (i : Nat) : Nat := 0x0130004C + 0x20 * i
def NAND.OLDEST_LO'OLDEST_LO (i : Nat) : Loc := ⟨(NAND.OLDEST_LO i), 31, 0⟩
/-- NAND.OLDEST_HI: spec/21_storage.md. -/
def NAND.OLDEST_HI (i : Nat) : Nat := 0x01300050 + 0x20 * i
def NAND.OLDEST_HI'OLDEST_HI (i : Nat) : Loc := ⟨(NAND.OLDEST_HI i), 31, 0⟩

/-! ### EVT: window at 0x01400000 -/
/-- EVT.EVT_PEND: spec/22_host_and_events.md. -/
def EVT.EVT_PEND (i : Nat) : Nat := 0x01400000 + 0x4 * i
def EVT.EVT_PEND'PEND (i : Nat) : Loc := ⟨(EVT.EVT_PEND i), 31, 0⟩
/-- EVT.EVT_EN: spec/22_host_and_events.md. -/
def EVT.EVT_EN (i : Nat) : Nat := 0x01400020 + 0x4 * i
def EVT.EVT_EN'EN (i : Nat) : Loc := ⟨(EVT.EVT_EN i), 31, 0⟩
/-- EVT.EVT_SET: spec/22_host_and_events.md. -/
def EVT.EVT_SET : Nat := 0x01400040
def EVT.EVT_SET'GO : Loc := ⟨EVT.EVT_SET, 31, 31⟩
def EVT.EVT_SET'D : Loc := ⟨EVT.EVT_SET, 4, 0⟩
/-- EVT.EVT_LOCK: spec/22_host_and_events.md. -/
def EVT.EVT_LOCK : Nat := 0x01400044
def EVT.EVT_LOCK'LOCK : Loc := ⟨EVT.EVT_LOCK, 0, 0⟩
/-- EVT.EVT_VEC_ACK: spec/22_host_and_events.md. -/
def EVT.EVT_VEC_ACK : Nat := 0x01400048
def EVT.EVT_VEC_ACK'GO : Loc := ⟨EVT.EVT_VEC_ACK, 31, 31⟩
def EVT.EVT_VEC_ACK'VECTOR : Loc := ⟨EVT.EVT_VEC_ACK, 4, 0⟩
/-- EVT.EVT_ERR: spec/22_host_and_events.md. -/
def EVT.EVT_ERR : Nat := 0x0140004C
def EVT.EVT_ERR'ROUTE_REFUSED : Loc := ⟨EVT.EVT_ERR, 0, 0⟩
/-- EVT.EVT_HOLDOFF: spec/22_host_and_events.md. -/
def EVT.EVT_HOLDOFF (i : Nat) : Nat := 0x01400100 + 0x4 * i
def EVT.EVT_HOLDOFF'US (i : Nat) : Loc := ⟨(EVT.EVT_HOLDOFF i), 15, 0⟩
/-- EVT.EVT_ROUTE: spec/22_host_and_events.md. -/
def EVT.EVT_ROUTE (i : Nat) : Nat := 0x01401000 + 0x4 * i
def EVT.EVT_ROUTE'KIND (i : Nat) : Loc := ⟨(EVT.EVT_ROUTE i), 17, 16⟩
def EVT.EVT_ROUTE'LINE (i : Nat) : Loc := ⟨(EVT.EVT_ROUTE i), 15, 12⟩
def EVT.EVT_ROUTE'CORE (i : Nat) : Loc := ⟨(EVT.EVT_ROUTE i), 11, 8⟩
def EVT.EVT_ROUTE'VECTOR (i : Nat) : Loc := ⟨(EVT.EVT_ROUTE i), 4, 0⟩
/-- EVT.MSIX_ADDR_LO: spec/22_host_and_events.md. -/
def EVT.MSIX_ADDR_LO (i : Nat) : Nat := 0x01408000 + 0x10 * i
def EVT.MSIX_ADDR_LO'ADDR (i : Nat) : Loc := ⟨(EVT.MSIX_ADDR_LO i), 31, 0⟩
/-- EVT.MSIX_ADDR_HI: spec/22_host_and_events.md. -/
def EVT.MSIX_ADDR_HI (i : Nat) : Nat := 0x01408004 + 0x10 * i
def EVT.MSIX_ADDR_HI'ADDR (i : Nat) : Loc := ⟨(EVT.MSIX_ADDR_HI i), 31, 0⟩
/-- EVT.MSIX_DATA: spec/22_host_and_events.md. -/
def EVT.MSIX_DATA (i : Nat) : Nat := 0x01408008 + 0x10 * i
def EVT.MSIX_DATA'DATA (i : Nat) : Loc := ⟨(EVT.MSIX_DATA i), 31, 0⟩
/-- EVT.MSIX_CTRL: spec/22_host_and_events.md. -/
def EVT.MSIX_CTRL (i : Nat) : Nat := 0x0140800C + 0x10 * i
def EVT.MSIX_CTRL'MASK (i : Nat) : Loc := ⟨(EVT.MSIX_CTRL i), 0, 0⟩
/-- EVT.MSIX_PBA: spec/22_host_and_events.md. -/
def EVT.MSIX_PBA (i : Nat) : Nat := 0x01409000 + 0x4 * i
def EVT.MSIX_PBA'PBA (i : Nat) : Loc := ⟨(EVT.MSIX_PBA i), 31, 0⟩

/-! ### PERF: window at 0x01500000 -/
/-- PERF.PERF_CTRL: spec/23_counters.md. -/
def PERF.PERF_CTRL : Nat := 0x01500000
def PERF.PERF_CTRL'CLR : Loc := ⟨PERF.PERF_CTRL, 31, 31⟩
def PERF.PERF_CTRL'HIST_CLR : Loc := ⟨PERF.PERF_CTRL, 30, 30⟩
def PERF.PERF_CTRL'PERF_USER : Loc := ⟨PERF.PERF_CTRL, 21, 21⟩
def PERF.PERF_CTRL'SNAP_TO : Loc := ⟨PERF.PERF_CTRL, 20, 16⟩
def PERF.PERF_CTRL'SNAP_EN : Loc := ⟨PERF.PERF_CTRL, 3, 3⟩
def PERF.PERF_CTRL'SNAP_N_M1 : Loc := ⟨PERF.PERF_CTRL, 2, 0⟩
/-- PERF.SNAP_BASE: spec/23_counters.md. -/
def PERF.SNAP_BASE : Nat := 0x01500004
def PERF.SNAP_BASE'BASE : Loc := ⟨PERF.SNAP_BASE, 10, 0⟩
/-- PERF.PERF_STAT: spec/23_counters.md. -/
def PERF.PERF_STAT : Nat := 0x01500008
def PERF.PERF_STAT'SNAP_SKIP : Loc := ⟨PERF.PERF_STAT, 31, 16⟩
def PERF.PERF_STAT'L3_SEQ : Loc := ⟨PERF.PERF_STAT, 15, 0⟩
/-- PERF.PC_LO: spec/23_counters.md. -/
def PERF.PC_LO (i j : Nat) : Nat := 0x01501000 + 0x40 * i + 0x8 * j
def PERF.PC_LO'LO (i j : Nat) : Loc := ⟨(PERF.PC_LO i j), 31, 0⟩
/-- PERF.PC_HI: spec/23_counters.md. -/
def PERF.PC_HI (i j : Nat) : Nat := 0x01501004 + 0x40 * i + 0x8 * j
def PERF.PC_HI'HI (i j : Nat) : Loc := ⟨(PERF.PC_HI i j), 15, 0⟩
/-- PERF.HIST_CFG: spec/23_counters.md. -/
def PERF.HIST_CFG (i : Nat) : Nat := 0x01502000 + 0x4 * i
def PERF.HIST_CFG'EN (i : Nat) : Loc := ⟨(PERF.HIST_CFG i), 31, 31⟩
def PERF.HIST_CFG'SHIFT (i : Nat) : Loc := ⟨(PERF.HIST_CFG i), 28, 24⟩
def PERF.HIST_CFG'SEL (i : Nat) : Loc := ⟨(PERF.HIST_CFG i), 19, 16⟩
/-- PERF.TAG_CFG: spec/23_counters.md. -/
def PERF.TAG_CFG (i : Nat) : Nat := 0x01503000 + 0x20 * i
def PERF.TAG_CFG'EN (i : Nat) : Loc := ⟨(PERF.TAG_CFG i), 31, 31⟩
def PERF.TAG_CFG'RANGE (i : Nat) : Loc := ⟨(PERF.TAG_CFG i), 20, 16⟩
def PERF.TAG_CFG'TAG_MIN (i : Nat) : Loc := ⟨(PERF.TAG_CFG i), 15, 0⟩
/-- PERF.TAG_PC: spec/23_counters.md. -/
def PERF.TAG_PC (i : Nat) : Nat := 0x01503004 + 0x20 * i
def PERF.TAG_PC'VALID (i : Nat) : Loc := ⟨(PERF.TAG_PC i), 31, 31⟩
def PERF.TAG_PC'ABORTED (i : Nat) : Loc := ⟨(PERF.TAG_PC i), 30, 30⟩
def PERF.TAG_PC'SUPP (i : Nat) : Loc := ⟨(PERF.TAG_PC i), 29, 29⟩
def PERF.TAG_PC'TAG_LOST (i : Nat) : Loc := ⟨(PERF.TAG_PC i), 23, 16⟩
def PERF.TAG_PC'PC (i : Nat) : Loc := ⟨(PERF.TAG_PC i), 14, 0⟩
/-- PERF.TAG_T: spec/23_counters.md. -/
def PERF.TAG_T (i : Nat) : Nat := 0x01503008 + 0x20 * i
def PERF.TAG_T'T (i : Nat) : Loc := ⟨(PERF.TAG_T i), 31, 0⟩
/-- PERF.TAG_D: spec/23_counters.md. -/
def PERF.TAG_D (i : Nat) : Nat := 0x0150300C + 0x20 * i
def PERF.TAG_D'D (i : Nat) : Loc := ⟨(PERF.TAG_D i), 31, 0⟩
/-- PERF.TAG_D2: spec/23_counters.md. -/
def PERF.TAG_D2 (i : Nat) : Nat := 0x01503010 + 0x20 * i
def PERF.TAG_D2'D2 (i : Nat) : Loc := ⟨(PERF.TAG_D2 i), 23, 0⟩
/-- PERF.HIST_BIN: spec/23_counters.md. -/
def PERF.HIST_BIN (i j : Nat) : Nat := 0x01504000 + 0x100 * i + 0x4 * j
def PERF.HIST_BIN'BIN (i j : Nat) : Loc := ⟨(PERF.HIST_BIN i j), 31, 0⟩

/-- Register map rows of SYS, part 1. -/
def rowsSYS1 : List RegRow := [
  -- CHIP_ID
  ⟨0x0, [], .aon, [⟨31, 16, .ro, 0x6408, .any⟩, ⟨15, 12, .ro, 0x0, .any⟩, ⟨11, 8, .ro, 0x1, .any⟩, ⟨7, 4, .ro, 0x1, .any⟩]⟩,
  -- CYCLE_CFG
  ⟨0x10, [], .time, [⟨31, 31, .ro, 0x0, .any⟩, ⟨11, 8, .ro, 0x8, .any⟩, ⟨2, 0, .ro, 0x2, .any⟩]⟩,
  -- CYCLE_STAT
  ⟨0x14, [], .time, [⟨31, 16, .ro, 0x0, .any⟩, ⟨2, 2, .w1c, 0x0, .any⟩, ⟨1, 1, .w1c, 0x0, .any⟩, ⟨0, 0, .w1c, 0x0, .any⟩]⟩,
  -- IMG_CTRL
  ⟨0x100, [], .aon, [⟨31, 31, .wo, 0x0, .any⟩, ⟨2, 0, .rw, 0x0, (.range 0 4)⟩]⟩,
  -- IMG_STAT
  ⟨0x104, [], .aon, [⟨31, 31, .ro, 0x0, .any⟩, ⟨30, 30, .ro, 0x0, .any⟩, ⟨29, 24, .ro, 0x0, .any⟩, ⟨15, 8, .ro, 0x0, .any⟩, ⟨2, 0, .ro, 0x0, .any⟩]⟩,
  -- IMG_SEQ
  ⟨0x108, [], .aon, [⟨31, 0, .ro, 0x0, .any⟩]⟩,
  -- IMG_POLICY
  ⟨0x10C, [], .aon, [⟨1, 1, .rwl 1, 0x0, .any⟩, ⟨0, 0, .rwl 1, 0x0, .any⟩]⟩,
  -- STRUCT_HASH_LO
  ⟨0x110, [], .aon, [⟨31, 0, .ro, 0x0, .any⟩]⟩,
  -- STRUCT_HASH_HI
  ⟨0x114, [], .aon, [⟨31, 0, .ro, 0x0, .any⟩]⟩,
  -- IMG_SAFE_ID
  ⟨0x118, [], .aon, [⟨31, 0, .ro, 0x0, .any⟩]⟩,
  -- PATCH_CTRL
  ⟨0x120, [], .aon, [⟨31, 31, .wo, 0x0, .any⟩, ⟨10, 0, .rw, 0x0, .any⟩]⟩,
  -- PATCH_STAT
  ⟨0x124, [], .aon, [⟨31, 16, .ro, 0x0, .any⟩, ⟨15, 8, .ro, 0x0, .any⟩, ⟨1, 0, .ro, 0x0, .any⟩]⟩]
/-- Register map rows of SYS, part 2. -/
def rowsSYS2 : List RegRow := [
  -- ACC_ERR_ADDR
  ⟨0x20, [], .aon, [⟨31, 0, .ro, 0x0, .any⟩]⟩,
  -- ACC_ERR_INFO
  ⟨0x24, [], .aon, [⟨31, 31, .w1c, 0x0, .any⟩, ⟨12, 8, .ro, 0x0, .any⟩, ⟨4, 4, .ro, 0x0, .any⟩, ⟨2, 0, .ro, 0x0, .any⟩]⟩,
  -- HOST_CFG
  ⟨0x30, [], .aon, [⟨31, 31, .rwl 31, 0x0, .any⟩, ⟨8, 8, .rwl 31, 0x0, .any⟩, ⟨7, 7, .ro, 0x0, .any⟩, ⟨6, 4, .ro, 0x0, .any⟩, ⟨1, 0, .ro, 0x0, .any⟩]⟩,
  -- MODE_STAT
  ⟨0x40, [], .aon, [⟨31, 28, .ro, 0x0, .any⟩, ⟨27, 24, .ro, 0x0, .any⟩, ⟨19, 16, .ro, 0x0, .any⟩, ⟨13, 12, .ro, 0x0, .any⟩, ⟨11, 8, .ro, 0x0, .any⟩, ⟨7, 4, .ro, 0x0, .any⟩, ⟨3, 0, .ro, 0x0, .any⟩]⟩,
  -- MODE_REQ
  ⟨0x44, [], .aon, [⟨31, 31, .wo, 0x0, .any⟩, ⟨30, 30, .wo, 0x0, .any⟩, ⟨3, 0, .wo, 0x0, .any⟩]⟩,
  -- MODE_CFG
  ⟨0x48, [], .aon, [⟨31, 16, .rw, 0x2000, (.clampTo 32768)⟩, ⟨15, 0, .rw, 0x1000, (.clampTo 32768)⟩]⟩,
  -- MODE_TIMEOUT
  ⟨0x4C, [], .aon, [⟨31, 16, .ro, 0x0, .any⟩, ⟨9, 0, .rw, 0x3C, (.range 1 600)⟩]⟩]
/-- The register map of SYS. -/
def rowsSYS : List RegRow := rowsSYS1 ++ rowsSYS2

/-- Register map rows of RST, part 1. -/
def rowsRST1 : List RegRow := [
  -- RST_CTRL
  ⟨0x0, [], .aon, [⟨31, 31, .wo, 0x0, .any⟩]⟩,
  -- RST_CAUSE
  ⟨0x4, [], .ret, [⟨31, 24, .ro, 0x1, .any⟩, ⟨23, 20, .ro, 0x0, .any⟩, ⟨15, 0, .ro, 0xFFFF, .any⟩]⟩,
  -- RST_CNT
  ⟨0x8, [], .ret, [⟨31, 16, .ro, 0x0, .any⟩, ⟨15, 0, .ro, 0x0, .any⟩]⟩,
  -- RST_STRAP
  ⟨0xC, [], .aon, [⟨8, 8, .ro, 0x0, .any⟩, ⟨6, 4, .ro, 0x0, .any⟩, ⟨3, 2, .ro, 0x0, .any⟩, ⟨1, 0, .ro, 0x0, .any⟩]⟩,
  -- RST_BLK
  ⟨0x10, [], .aon, [⟨15, 0, .rw, 0x0, .any⟩]⟩,
  -- RST_STAT
  ⟨0x14, [], .aon, [⟨31, 31, .ro, 0x0, .any⟩, ⟨30, 30, .ro, 0x0, .any⟩, ⟨29, 28, .ro, 0x0, .any⟩, ⟨27, 27, .ro, 0x0, .any⟩, ⟨15, 0, .ro, 0x1, .any⟩]⟩,
  -- RST_PEND
  ⟨0x18, [], .aon, [⟨15, 0, .ro, 0x0, .any⟩]⟩,
  -- RST_GAP
  ⟨0x1C, [], .ret, [⟨12, 0, .rw, 0x100, (.range 16 4096)⟩]⟩,
  -- RST_ERR
  ⟨0x20, [], .aon, [⟨1, 1, .w1c, 0x0, .any⟩, ⟨0, 0, .w1c, 0x0, .any⟩]⟩,
  -- BKP
  ⟨0x100, [(0x4, 16)], .ret, [⟨31, 0, .rw, 0x0, .any⟩]⟩,
  -- RET_PTR
  ⟨0x200, [], .aon, [⟨14, 2, .rw, 0x0, .any⟩]⟩,
  -- RET_DATA
  ⟨0x204, [], .aon, [⟨31, 0, .ro, 0x0, .any⟩]⟩]
/-- Register map rows of RST, part 2. -/
def rowsRST2 : List RegRow := [
  -- RSRAM
  ⟨0x8000, [(0x4, 8192)], .ret, [⟨31, 0, .rw, 0x0, .any⟩]⟩]
/-- The register map of RST. -/
def rowsRST : List RegRow := rowsRST1 ++ rowsRST2

/-- Register map rows of CLK, part 1. -/
def rowsCLK1 : List RegRow := [
  -- CLK_STAT
  ⟨0x0, [], .aon, [⟨31, 31, .ro, 0x0, .any⟩, ⟨30, 30, .ro, 0x0, .any⟩, ⟨29, 29, .ro, 0x1, .any⟩, ⟨28, 28, .ro, 0x0, .any⟩, ⟨27, 26, .ro, 0x0, .any⟩, ⟨15, 0, .ro, 0x1, .any⟩]⟩,
  -- CLK_ERR
  ⟨0x4, [], .aon, [⟨3, 3, .w1c, 0x0, .any⟩, ⟨2, 2, .w1c, 0x0, .any⟩, ⟨1, 1, .w1c, 0x0, .any⟩, ⟨0, 0, .w1c, 0x0, .any⟩]⟩,
  -- CLK_CMD
  ⟨0x8, [], .aon, [⟨31, 31, .wo, 0x0, .any⟩]⟩,
  -- CLK_MEAS
  ⟨0xC, [], .aon, [⟨15, 0, .ro, 0x0, .any⟩]⟩,
  -- CLK_CFG
  ⟨0x10, [], .aon, [⟨0, 0, .rw, 0x1, .any⟩]⟩]
/-- The register map of CLK. -/
def rowsCLK : List RegRow := rowsCLK1

/-- Register map rows of PWR, part 1. -/
def rowsPWR1 : List RegRow := [
  -- PWR_STAT
  ⟨0x0, [], .aon, [⟨31, 30, .ro, 0x0, .any⟩, ⟨29, 28, .ro, 0x0, .any⟩, ⟨27, 27, .ro, 0x0, .any⟩, ⟨15, 0, .ro, 0x1, .any⟩]⟩,
  -- LAT_TOL
  ⟨0x4, [], .aon, [⟨19, 0, .rw, 0x0, .any⟩]⟩,
  -- LEDGER_CFG
  ⟨0x8, [], .aon, [⟨25, 16, .rw, 0x3FF, .any⟩, ⟨9, 0, .ro, 0x0, .any⟩]⟩,
  -- LEDGER_STAT
  ⟨0xC, [], .aon, [⟨29, 20, .ro, 0x0, .any⟩, ⟨19, 10, .ro, 0x0, .any⟩, ⟨9, 0, .ro, 0x0, .any⟩]⟩,
  -- LEDGER_CNT
  ⟨0x10, [], .aon, [⟨31, 16, .ro, 0x0, .any⟩, ⟨15, 0, .ro, 0x0, .any⟩]⟩,
  -- LEDGER_ERR
  ⟨0x14, [], .aon, [⟨1, 1, .w1c, 0x0, .any⟩, ⟨0, 0, .w1c, 0x0, .any⟩]⟩,
  -- LEDGER_CLASS
  ⟨0x20, [(0x4, 7)], .aon, [⟨25, 16, .ro, 0x0, .any⟩, ⟨7, 0, .ro, 0x0, .any⟩]⟩,
  -- THERM_STAT
  ⟨0x40, [], .aon, [⟨31, 31, .ro, 0x0, .any⟩, ⟨30, 30, .ro, 0x0, .any⟩, ⟨23, 16, .ro, 0x0, .any⟩, ⟨8, 0, .ro, 0x0, .any⟩]⟩,
  -- THERM_CFG
  ⟨0x44, [], .aon, [⟨15, 8, .rw, 0x73, (.range 80 120)⟩, ⟨7, 0, .rw, 0x6E, (.range 70 120)⟩]⟩,
  -- THROT_TOK
  ⟨0x48, [], .aon, [⟨9, 0, .ro, 0x0, .any⟩]⟩]
/-- The register map of PWR. -/
def rowsPWR : List RegRow := rowsPWR1

/-- Register map rows of ADC, part 1. -/
def rowsADC1 : List RegRow := [
  -- ADC_CTRL
  ⟨0x0, [], .adc, [⟨11, 9, .rw, 0x4, (.range 0 6)⟩, ⟨8, 8, .rw, 0x0, .any⟩, ⟨4, 2, .rw, 0x2, .any⟩, ⟨0, 0, .rw, 0x0, .any⟩]⟩,
  -- ADC_STAT
  ⟨0x4, [], .adc, [⟨31, 16, .ro, 0x0, .any⟩, ⟨15, 8, .ro, 0x0, .any⟩, ⟨7, 7, .ro, 0x0, .any⟩, ⟨6, 6, .ro, 0x0, .any⟩, ⟨5, 5, .ro, 0x0, .any⟩, ⟨4, 4, .ro, 0x0, .any⟩, ⟨2, 0, .ro, 0x0, .any⟩]⟩,
  -- ADC_ERR
  ⟨0x8, [], .adc, [⟨0, 0, .w1c, 0x0, .any⟩]⟩,
  -- CAL_FS_UV
  ⟨0xC, [], .adc, [⟨20, 0, .rw, 0x1B7740, (.range 1600000 2000000)⟩]⟩,
  -- SYSCAL_CTRL
  ⟨0x10, [], .adc, [⟨31, 31, .wo, 0x0, .any⟩, ⟨17, 16, .rw, 0x0, .any⟩, ⟨15, 8, .rw, 0x1, (.range 1 144)⟩, ⟨7, 0, .rw, 0x0, (.range 0 143)⟩]⟩,
  -- SYSCAL_TARGET
  ⟨0x14, [], .adc, [⟨15, 0, .rw, 0x0, .any⟩]⟩,
  -- SYSCAL_STAT
  ⟨0x18, [], .adc, [⟨31, 16, .ro, 0x0, .any⟩, ⟨7, 0, .ro, 0x0, .any⟩]⟩,
  -- CAP_CTRL
  ⟨0x20, [], .adc, [⟨31, 31, .wo, 0x0, .any⟩, ⟨30, 30, .wo, 0x0, .any⟩, ⟨25, 24, .rw, 0x0, .any⟩, ⟨23, 16, .rw, 0x0, .any⟩, ⟨15, 0, .rw, 0x0, .any⟩]⟩,
  -- CAP_BASE
  ⟨0x24, [], .adc, [⟨21, 12, .rw, 0x0, .any⟩]⟩,
  -- CAP_LEN
  ⟨0x28, [], .adc, [⟨22, 12, .rw, 0x1, (.range 1 1024)⟩]⟩,
  -- CAP_STAT
  ⟨0x2C, [], .adc, [⟨31, 29, .ro, 0x0, .any⟩, ⟨21, 0, .ro, 0x0, .any⟩]⟩,
  -- CAP_TRIG_PTR
  ⟨0x30, [], .adc, [⟨21, 0, .ro, 0x0, .any⟩]⟩]
/-- Register map rows of ADC, part 2. -/
def rowsADC2 : List RegRow := [
  -- CAP_MASK
  ⟨0x40, [(0x4, 4)], .adc, [⟨31, 0, .rw, 0x0, .any⟩]⟩,
  -- CAP_MASK[4] (its bits 31:16 are RSVD)
  ⟨0x50, [], .adc, [⟨15, 0, .rw, 0x0, .any⟩]⟩,
  -- CONV_CORR
  ⟨0x100, [(0x8, 8)], .adc, [⟨31, 16, .ro, 0x0, .any⟩, ⟨15, 0, .ro, 0x0, .any⟩]⟩,
  -- CONV_AGE
  ⟨0x104, [(0x8, 8)], .adc, [⟨31, 0, .ro, 0x0, .any⟩]⟩,
  -- CH_CFG
  ⟨0x400, [(0x4, 144)], .adc, [⟨24, 24, .rw, 0x0, .any⟩, ⟨22, 20, .rw, 0x0, .any⟩, ⟨19, 18, .rw, 0x1, .any⟩, ⟨17, 17, .rw, 0x0, .any⟩, ⟨16, 16, .rw, 0x0, .any⟩, ⟨10, 8, .rw, 0x0, .any⟩, ⟨5, 4, .rw, 0x0, .any⟩, ⟨1, 0, .rw, 0x0, .any⟩]⟩,
  -- CMP_TH
  ⟨0x800, [(0x4, 144)], .adc, [⟨15, 8, .rw, 0xFF, .any⟩, ⟨7, 0, .rw, 0x0, .any⟩]⟩,
  -- CH_COEF
  ⟨0xC00, [(0x4, 144)], .adc, [⟨31, 16, .rw, 0x0, .any⟩, ⟨15, 0, .rw, 0x0, .any⟩]⟩,
  -- RES
  ⟨0x1000, [(0x4, 144)], .adc, [⟨31, 0, .ro, 0x0, .any⟩]⟩,
  -- CMP_LATCH
  ⟨0x1400, [(0x4, 5)], .adc, [⟨31, 0, .w1c, 0x0, .any⟩]⟩,
  -- CMP_LIVE
  ⟨0x1420, [(0x4, 5)], .adc, [⟨31, 0, .ro, 0x0, .any⟩]⟩]
/-- The register map of ADC. -/
def rowsADC : List RegRow := rowsADC1 ++ rowsADC2

/-- Register map rows of PWM, part 1. -/
def rowsPWM1 : List RegRow := [
  -- PWM_CTRL
  ⟨0x0, [], .ctl, [⟨9, 9, .rw, 0x0, .any⟩, ⟨8, 8, .rw, 0x0, .any⟩, ⟨6, 0, .rw, 0x0, (.range 0 71)⟩]⟩,
  -- PWM_STAT
  ⟨0x4, [], .ctl, [⟨31, 31, .ro, 0x0, .any⟩, ⟨30, 30, .w1c, 0x0, .any⟩, ⟨20, 16, .ro, 0x0, .any⟩, ⟨15, 0, .ro, 0x1388, .any⟩]⟩,
  -- SYNC_CFG
  ⟨0x8, [], .ctl, [⟨23, 16, .rw, 0x4, (.range 1 10)⟩, ⟨7, 0, .rw, 0x0, .any⟩]⟩,
  -- TRIP_PIN_CFG
  ⟨0x10, [], .ctl, [⟨18, 16, .rw, 0x2, .any⟩, ⟨15, 0, .rw, 0x0, .any⟩]⟩,
  -- TRIP_PIN_LIVE
  ⟨0x14, [], .ctl, [⟨15, 0, .ro, 0x0, .any⟩]⟩,
  -- BLANK_CFG
  ⟨0x100, [(0x8, 32)], .ctl, [⟨31, 31, .rw, 0x0, .any⟩, ⟨25, 16, .rw, 0x0, .any⟩, ⟨14, 8, .rw, 0x0, (.range 0 71)⟩, ⟨7, 0, .rw, 0x0, (.range 0 223)⟩]⟩,
  -- BLANK_STAT
  ⟨0x104, [(0x8, 32)], .ctl, [⟨0, 0, .ro, 0x0, .any⟩]⟩,
  -- GRP_CFG
  ⟨0x1000, [(0x100, 72)], .ctl, [⟨9, 8, .rw, 0x0, (.range 0 2)⟩, ⟨5, 4, .rw, 0x0, (.range 0 1)⟩, ⟨3, 3, .rw, 0x0, .any⟩, ⟨2, 0, .ro, 0x0, .any⟩]⟩,
  -- GRP_STAT
  ⟨0x1004, [(0x100, 72)], .ctl, [⟨31, 31, .ro, 0x0, .any⟩, ⟨23, 16, .ro, 0x0, .any⟩, ⟨4, 4, .ro, 0x0, .any⟩, ⟨3, 3, .w1c, 0x0, .any⟩, ⟨2, 2, .w1c, 0x0, .any⟩, ⟨1, 1, .w1c, 0x0, .any⟩, ⟨0, 0, .ro, 0x0, .any⟩]⟩,
  -- GRP_CMD
  ⟨0x1008, [(0x100, 72)], .ctl, [⟨3, 3, .wo, 0x0, .any⟩, ⟨2, 2, .wo, 0x0, .any⟩, ⟨1, 1, .wo, 0x0, .any⟩, ⟨0, 0, .wo, 0x0, .any⟩]⟩,
  -- TRIP_SEL_A
  ⟨0x1010, [(0x100, 72)], .ctl, [⟨31, 0, .rw, 0x0, .any⟩]⟩,
  -- TRIP_SEL_B
  ⟨0x1014, [(0x100, 72)], .ctl, [⟨31, 0, .rw, 0x0, .any⟩]⟩]
/-- Register map rows of PWM, part 2. -/
def rowsPWM2 : List RegRow := [
  -- TRIP_EN
  ⟨0x1018, [(0x100, 72)], .ctl, [⟨7, 0, .rw, 0x0, .any⟩]⟩,
  -- DT_CFG
  ⟨0x1020, [(0x100, 72), (0x8, 4)], .ctl, [⟨25, 16, .rw, 0x0, .any⟩, ⟨9, 0, .rw, 0x0, .any⟩]⟩,
  -- DUTY_SH
  ⟨0x1024, [(0x100, 72), (0x8, 4)], .ctl, [⟨15, 0, .rw, 0x0, .any⟩]⟩,
  -- DUTY_ACT
  ⟨0x1040, [(0x100, 72), (0x4, 4)], .ctl, [⟨15, 0, .ro, 0x0, .any⟩]⟩,
  -- DT_ACT
  ⟨0x1050, [(0x100, 72), (0x4, 4)], .ctl, [⟨25, 16, .ro, 0x0, .any⟩, ⟨9, 0, .ro, 0x0, .any⟩]⟩,
  -- LATE_CNT
  ⟨0x1060, [(0x100, 72)], .ctl, [⟨15, 0, .ro, 0x0, .any⟩]⟩]
/-- The register map of PWM. -/
def rowsPWM : List RegRow := rowsPWM1 ++ rowsPWM2

/-- Register map rows of BLK, part 1. -/
def rowsBLK1 : List RegRow := [
  -- BLK_UP
  ⟨0x0, [], .link, [⟨15, 0, .ro, 0x0, .any⟩]⟩,
  -- PORT_CFG
  ⟨0x1000, [(0x100, 16)], .link, [⟨1, 1, .rw, 0x0, .any⟩, ⟨0, 0, .rw, 0x0, .any⟩]⟩,
  -- PORT_STAT
  ⟨0x1004, [(0x100, 16)], .link, [⟨31, 29, .ro, 0x0, .any⟩, ⟨28, 28, .w1c, 0x0, .any⟩, ⟨27, 27, .w1c, 0x0, .any⟩, ⟨26, 26, .ro, 0x0, .any⟩, ⟨25, 25, .ro, 0x0, .any⟩, ⟨15, 0, .ro, 0x0, .any⟩]⟩,
  -- PORT_CMD
  ⟨0x1008, [(0x100, 16)], .link, [⟨1, 1, .wo, 0x0, .any⟩, ⟨0, 0, .wo, 0x0, .any⟩]⟩,
  -- ERR_CNT
  ⟨0x100C, [(0x100, 16)], .link, [⟨31, 24, .ro, 0x0, .any⟩, ⟨23, 16, .ro, 0x0, .any⟩, ⟨15, 0, .ro, 0x0, .any⟩]⟩,
  -- UP_HDR
  ⟨0x1010, [(0x100, 16)], .link, [⟨31, 0, .ro, 0x0, .any⟩]⟩,
  -- UP_AXIS
  ⟨0x1014, [(0x100, 16), (0x4, 4)], .link, [⟨31, 0, .ro, 0x0, .any⟩]⟩,
  -- UP_MISC
  ⟨0x1024, [(0x100, 16)], .link, [⟨23, 16, .ro, 0x0, .any⟩, ⟨15, 0, .ro, 0xFFFF, .any⟩]⟩,
  -- PORT_MAP
  ⟨0x1028, [(0x100, 16)], .link, [⟨29, 24, .ro, 0x0, .any⟩, ⟨21, 16, .ro, 0x0, .any⟩, ⟨13, 8, .ro, 0x0, .any⟩, ⟨5, 0, .ro, 0x0, .any⟩]⟩,
  -- POS_EN
  ⟨0x102C, [(0x100, 16)], .link, [⟨3, 0, .ro, 0x0, .any⟩]⟩]
/-- The register map of BLK. -/
def rowsBLK : List RegRow := rowsBLK1

/-- Register map rows of FB, part 1. -/
def rowsFB1 : List RegRow := [
  -- FB_ERR
  ⟨0x0, [], .ctl, [⟨0, 0, .w1c, 0x0, .any⟩]⟩,
  -- FB_CFG
  ⟨0x1000, [(0x100, 72)], .ctl, [⟨31, 31, .rw, 0x0, .any⟩, ⟨30, 30, .rw, 0x0, .any⟩, ⟨29, 28, .rw, 0x0, (.range 0 2)⟩, ⟨27, 24, .rw, 0x2, .any⟩, ⟨11, 0, .rw, 0x3FF, .any⟩]⟩,
  -- SPD_CFG
  ⟨0x1004, [(0x100, 72)], .ctl, [⟨31, 16, .rw, 0x100, .any⟩, ⟨15, 0, .rw, 0x80, .any⟩]⟩,
  -- SPD_CFG2
  ⟨0x1008, [(0x100, 72)], .ctl, [⟨23, 8, .rw, 0x2710, (.range 1 65535)⟩, ⟨3, 0, .rw, 0x8, (.range 1 15)⟩]⟩,
  -- POS_MID_LO
  ⟨0x1010, [(0x100, 72)], .ctl, [⟨31, 0, .ro, 0x0, .any⟩]⟩,
  -- POS_MID_HI
  ⟨0x1014, [(0x100, 72)], .ctl, [⟨31, 0, .ro, 0x0, .any⟩]⟩,
  -- POS_BND_LO
  ⟨0x1018, [(0x100, 72)], .ctl, [⟨31, 0, .ro, 0x0, .any⟩]⟩,
  -- POS_BND_HI
  ⟨0x101C, [(0x100, 72)], .ctl, [⟨31, 0, .ro, 0x0, .any⟩]⟩,
  -- SPEED
  ⟨0x1020, [(0x100, 72)], .ctl, [⟨31, 0, .ro, 0x0, .any⟩]⟩,
  -- FB_STAT
  ⟨0x1024, [(0x100, 72)], .ctl, [⟨31, 31, .ro, 0x0, .any⟩, ⟨30, 28, .ro, 0x0, .any⟩, ⟨27, 27, .w1c, 0x0, .any⟩, ⟨26, 26, .w1c, 0x0, .any⟩, ⟨25, 25, .w1c, 0x0, .any⟩, ⟨24, 24, .w1c, 0x0, .any⟩, ⟨23, 23, .w1c, 0x0, .any⟩, ⟨22, 22, .w1c, 0x0, .any⟩, ⟨21, 21, .ro, 0x0, .any⟩, ⟨20, 20, .ro, 0x0, .any⟩, ⟨19, 19, .ro, 0x1, .any⟩, ⟨18, 18, .ro, 0x0, .any⟩, ⟨17, 17, .ro, 0x0, .any⟩, ⟨16, 8, .ro, 0x0, .any⟩, ⟨7, 0, .ro, 0x0, .any⟩]⟩,
  -- REF_ORIGIN
  ⟨0x1028, [(0x100, 72)], .ctl, [⟨31, 0, .ro, 0x0, .any⟩]⟩,
  -- REF_POS
  ⟨0x102C, [(0x100, 72)], .ctl, [⟨31, 0, .ro, 0x0, .any⟩]⟩]
/-- Register map rows of FB, part 2. -/
def rowsFB2 : List RegRow := [
  -- REF_CNT
  ⟨0x1030, [(0x100, 72)], .ctl, [⟨31, 16, .ro, 0x0, .any⟩, ⟨15, 8, .ro, 0x0, .any⟩, ⟨7, 0, .ro, 0x0, .any⟩]⟩,
  -- FB_CMD
  ⟨0x1034, [(0x100, 72)], .ctl, [⟨1, 1, .wo, 0x0, .any⟩, ⟨0, 0, .wo, 0x0, .any⟩]⟩,
  -- WIRE_STAT
  ⟨0x1038, [(0x100, 72)], .ctl, [⟨5, 5, .ro, 0x0, .any⟩, ⟨4, 4, .ro, 0x0, .any⟩, ⟨3, 0, .ro, 0x0, .any⟩]⟩,
  -- CMP_CTRL
  ⟨0x1040, [(0x100, 72)], .ctl, [⟨31, 31, .rw, 0x0, .any⟩, ⟨30, 30, .rw, 0x0, .any⟩, ⟨29, 29, .rw, 0x0, .any⟩, ⟨28, 28, .rw, 0x0, .any⟩, ⟨7, 0, .rw, 0x9, .any⟩]⟩,
  -- CMP_VAL
  ⟨0x1044, [(0x100, 72)], .ctl, [⟨31, 0, .rw, 0x0, .any⟩]⟩,
  -- CMP_SPACING
  ⟨0x1048, [(0x100, 72)], .ctl, [⟨31, 0, .rw, 0x0, .any⟩]⟩,
  -- CMP_STAT
  ⟨0x104C, [(0x100, 72)], .ctl, [⟨31, 16, .ro, 0x0, .any⟩, ⟨15, 0, .ro, 0x0, .any⟩]⟩,
  -- XCHK_CFG
  ⟨0x1050, [(0x100, 72)], .ctl, [⟨31, 31, .rw, 0x0, .any⟩, ⟨30, 30, .rw, 0x0, .any⟩, ⟨19, 16, .rw, 0x3, (.range 1 15)⟩, ⟨15, 0, .rw, 0x40, .any⟩]⟩,
  -- XCHK_RATIO
  ⟨0x1054, [(0x100, 72)], .ctl, [⟨31, 0, .rw, 0x10000, .any⟩]⟩,
  -- XCHK_OFS
  ⟨0x1058, [(0x100, 72)], .ctl, [⟨31, 0, .ro, 0x0, .any⟩]⟩,
  -- XCHK_DIFF
  ⟨0x105C, [(0x100, 72)], .ctl, [⟨31, 16, .ro, 0x0, .any⟩, ⟨15, 0, .ro, 0x0, .any⟩]⟩]
/-- The register map of FB. -/
def rowsFB : List RegRow := rowsFB1 ++ rowsFB2

/-- Register map rows of CTL, part 1. -/
def rowsCTL1 : List RegRow := [
  -- AX_CTRL
  ⟨0x0, [(0x400, 64)], .ctl, [⟨31, 31, .rw, 0x0, .any⟩, ⟨30, 30, .wo, 0x0, .any⟩, ⟨26, 24, .rw, 0x0, (.range 0 5)⟩]⟩,
  -- AX_STAT
  ⟨0x4, [(0x400, 64)], .ctl, [⟨31, 30, .ro, 0x0, .any⟩, ⟨29, 27, .ro, 0x0, .any⟩, ⟨26, 24, .ro, 0x0, .any⟩, ⟨23, 20, .ro, 0x0, .any⟩, ⟨19, 19, .ro, 0x0, .any⟩, ⟨18, 18, .ro, 0x0, .any⟩, ⟨17, 17, .ro, 0x0, .any⟩, ⟨16, 16, .ro, 0x0, .any⟩, ⟨15, 8, .ro, 0x0, .any⟩]⟩,
  -- AX_FLAGS
  ⟨0x8, [(0x400, 64)], .ctl, [⟨9, 9, .w1c, 0x0, .any⟩, ⟨8, 8, .w1c, 0x0, .any⟩, ⟨7, 7, .w1c, 0x0, .any⟩, ⟨6, 6, .w1c, 0x0, .any⟩, ⟨5, 5, .w1c, 0x0, .any⟩, ⟨4, 4, .w1c, 0x0, .any⟩, ⟨3, 3, .w1c, 0x0, .any⟩, ⟨2, 2, .w1c, 0x0, .any⟩, ⟨1, 1, .w1c, 0x0, .any⟩, ⟨0, 0, .w1c, 0x0, .any⟩]⟩,
  -- FAULT_CFG
  ⟨0xC, [(0x400, 64)], .ctl, [⟨3, 0, .rw, 0x3, (.range 1 15)⟩]⟩,
  -- SCALE
  ⟨0x44, [(0x400, 64)], .ctl, [⟨31, 16, .ro, 0x8000, .any⟩, ⟨15, 0, .ro, 0x8000, .any⟩]⟩,
  -- ELEC
  ⟨0x90, [(0x400, 64)], .ctl, [⟨15, 12, .rw, 0xF, (.among [0, 1, 2, 3, 4, 5, 6, 7, 15])⟩, ⟨11, 11, .rw, 0x0, .any⟩, ⟨10, 10, .rw, 0x0, .any⟩, ⟨9, 9, .rw, 0x0, .any⟩, ⟨5, 0, .rw, 0x1, (.range 1 32)⟩]⟩,
  -- SRAMP
  ⟨0xB4, [(0x400, 64)], .ctl, [⟨31, 16, .rw, 0x100, .any⟩, ⟨15, 0, .rw, 0x800, .any⟩]⟩,
  -- GS_CFG
  ⟨0x100, [(0x400, 64)], .ctl, [⟨15, 14, .ro, 0x0, .any⟩, ⟨13, 12, .ro, 0x0, .any⟩, ⟨11, 10, .ro, 0x0, .any⟩, ⟨9, 8, .ro, 0x0, .any⟩, ⟨7, 4, .ro, 0x0, .any⟩, ⟨3, 0, .ro, 0x0, .any⟩]⟩,
  -- INJ_CTRL
  ⟨0x180, [(0x400, 64)], .ctl, [⟨31, 31, .wo, 0x0, .any⟩, ⟨30, 30, .wo, 0x0, .any⟩, ⟨29, 28, .rw, 0x0, .any⟩, ⟨27, 26, .rw, 0x0, (.range 0 3)⟩, ⟨20, 16, .rw, 0xB, .any⟩, ⟨15, 0, .rw, 0x0, .any⟩]⟩,
  -- INJ_STAT
  ⟨0x198, [(0x400, 64)], .ctl, [⟨31, 30, .ro, 0x0, .any⟩, ⟨29, 28, .ro, 0x0, .any⟩, ⟨23, 0, .ro, 0x0, .any⟩]⟩,
  -- AX_CNT
  ⟨0x1C0, [(0x400, 64)], .ctl, [⟨31, 16, .ro, 0x0, .any⟩, ⟨15, 8, .ro, 0x0, .any⟩, ⟨7, 0, .ro, 0x0, .any⟩]⟩,
  -- ENG_STAT
  ⟨0x380, [], .ctl, [⟨3, 0, .ro, 0x0, .any⟩]⟩]
/-- Register map rows of CTL, part 2. -/
def rowsCTL2 : List RegRow := [
  -- ENG_ERR
  ⟨0x384, [], .ctl, [⟨0, 0, .w1c, 0x0, .any⟩]⟩,
  -- CCAP_CTRL
  ⟨0x390, [], .ctl, [⟨31, 31, .wo, 0x0, .any⟩, ⟨30, 30, .wo, 0x0, .any⟩, ⟨29, 29, .wo, 0x0, .any⟩, ⟨28, 28, .rw, 0x0, .any⟩, ⟨27, 27, .rw, 0x0, .any⟩, ⟨26, 24, .rw, 0x0, (.range 0 4)⟩, ⟨23, 16, .rw, 0x0, .any⟩, ⟨13, 0, .rw, 0x0, .any⟩]⟩,
  -- CCAP_SEL_A
  ⟨0x394, [], .ctl, [⟨29, 24, .rw, 0x0, .any⟩, ⟨20, 16, .rw, 0x0, .any⟩, ⟨13, 8, .rw, 0x0, .any⟩, ⟨4, 0, .rw, 0x0, .any⟩]⟩,
  -- CCAP_SEL_B
  ⟨0x398, [], .ctl, [⟨29, 24, .rw, 0x0, .any⟩, ⟨20, 16, .rw, 0x0, .any⟩, ⟨13, 8, .rw, 0x0, .any⟩, ⟨4, 0, .rw, 0x0, .any⟩]⟩,
  -- CCAP_RATE
  ⟨0x39C, [], .ctl, [⟨7, 0, .rw, 0x0, .any⟩]⟩,
  -- CCAP_BASE
  ⟨0x3A0, [], .ctl, [⟨21, 12, .rw, 0x0, .any⟩]⟩,
  -- CCAP_LEVEL
  ⟨0x3A4, [], .ctl, [⟨31, 0, .rw, 0x0, .any⟩]⟩,
  -- CCAP_STAT
  ⟨0x3A8, [], .ctl, [⟨31, 29, .ro, 0x0, .any⟩, ⟨13, 0, .ro, 0x0, .any⟩]⟩,
  -- CCAP_TRIG_PTR
  ⟨0x3AC, [], .ctl, [⟨17, 0, .ro, 0x0, .any⟩]⟩,
  -- ID_REF
  ⟨0x10, [(0x400, 64)], .ctl, [⟨31, 0, .ro, 0x0, .any⟩]⟩,
  -- IQ_REF
  ⟨0x14, [(0x400, 64)], .ctl, [⟨31, 0, .ro, 0x0, .any⟩]⟩,
  -- ID_MEAS
  ⟨0x18, [(0x400, 64)], .ctl, [⟨31, 0, .ro, 0x0, .any⟩]⟩]
/-- Register map rows of CTL, part 3. -/
def rowsCTL3 : List RegRow := [
  -- IQ_MEAS
  ⟨0x1C, [(0x400, 64)], .ctl, [⟨31, 0, .ro, 0x0, .any⟩]⟩,
  -- VD
  ⟨0x20, [(0x400, 64)], .ctl, [⟨31, 0, .ro, 0x0, .any⟩]⟩,
  -- VQ
  ⟨0x24, [(0x400, 64)], .ctl, [⟨31, 0, .ro, 0x0, .any⟩]⟩,
  -- ANGLE
  ⟨0x28, [(0x400, 64)], .ctl, [⟨31, 0, .ro, 0x0, .any⟩]⟩,
  -- POS_REF_LO
  ⟨0x30, [(0x400, 64)], .ctl, [⟨31, 0, .ro, 0x0, .any⟩]⟩,
  -- POS_REF_HI
  ⟨0x34, [(0x400, 64)], .ctl, [⟨31, 0, .ro, 0x0, .any⟩]⟩,
  -- VEL_REF
  ⟨0x38, [(0x400, 64)], .ctl, [⟨31, 0, .ro, 0x0, .any⟩]⟩,
  -- VEL_ACT
  ⟨0x3C, [(0x400, 64)], .ctl, [⟨31, 0, .ro, 0x0, .any⟩]⟩,
  -- POS_ERR
  ⟨0x40, [(0x400, 64)], .ctl, [⟨31, 0, .ro, 0x0, .any⟩]⟩,
  -- TLAG
  ⟨0x48, [(0x400, 64)], .ctl, [⟨31, 0, .ro, 0x0, .any⟩]⟩,
  -- INT_D
  ⟨0x4C, [(0x400, 64)], .ctl, [⟨31, 0, .ro, 0x0, .any⟩]⟩,
  -- INT_Q
  ⟨0x50, [(0x400, 64)], .ctl, [⟨31, 0, .ro, 0x0, .any⟩]⟩]
/-- Register map rows of CTL, part 4. -/
def rowsCTL4 : List RegRow := [
  -- INT_VEL
  ⟨0x54, [(0x400, 64)], .ctl, [⟨31, 0, .ro, 0x0, .any⟩]⟩,
  -- MAN_POS_LO
  ⟨0x60, [(0x400, 64)], .ctl, [⟨31, 0, .rw, 0x0, .any⟩]⟩,
  -- MAN_POS_HI
  ⟨0x64, [(0x400, 64)], .ctl, [⟨31, 0, .rw, 0x0, .any⟩]⟩,
  -- MAN_VEL
  ⟨0x68, [(0x400, 64)], .ctl, [⟨31, 0, .rw, 0x0, .any⟩]⟩,
  -- MAN_IQ
  ⟨0x6C, [(0x400, 64)], .ctl, [⟨31, 0, .rw, 0x0, .any⟩]⟩,
  -- MAN_ID
  ⟨0x70, [(0x400, 64)], .ctl, [⟨31, 0, .rw, 0x0, .any⟩]⟩,
  -- ID_CMD
  ⟨0x74, [(0x400, 64)], .ctl, [⟨31, 0, .rw, 0x0, .any⟩]⟩,
  -- PAYLOAD_IDX
  ⟨0x78, [(0x400, 64)], .ctl, [⟨3, 0, .rw, 0x0, .any⟩]⟩,
  -- SCALE_LIM
  ⟨0x7C, [(0x400, 64)], .ctl, [⟨15, 0, .rw, 0x8000, (.clampTo 32768)⟩]⟩,
  -- ISCALE
  ⟨0x80, [(0x400, 64)], .ctl, [⟨31, 0, .rw, 0x0, .any⟩]⟩,
  -- VSCALE
  ⟨0x84, [(0x400, 64)], .ctl, [⟨31, 0, .rw, 0x0, .any⟩]⟩,
  -- PSCALE
  ⟨0x88, [(0x400, 64)], .ctl, [⟨31, 0, .rw, 0x0, .any⟩]⟩]
/-- Register map rows of CTL, part 5. -/
def rowsCTL5 : List RegRow := [
  -- DSCALE
  ⟨0x8C, [(0x400, 64)], .ctl, [⟨31, 0, .rw, 0x0, .any⟩]⟩,
  -- ANGLE_OFS
  ⟨0x94, [(0x400, 64)], .ctl, [⟨31, 0, .rw, 0x0, .any⟩]⟩,
  -- L_D
  ⟨0x98, [(0x400, 64)], .ctl, [⟨31, 0, .rw, 0x0, .any⟩]⟩,
  -- L_Q
  ⟨0x9C, [(0x400, 64)], .ctl, [⟨31, 0, .rw, 0x0, .any⟩]⟩,
  -- PSI
  ⟨0xA0, [(0x400, 64)], .ctl, [⟨31, 0, .rw, 0x0, .any⟩]⟩,
  -- VLIM
  ⟨0xA4, [(0x400, 64)], .ctl, [⟨15, 0, .rw, 0x0, (.range 0 32768)⟩]⟩,
  -- ILIM
  ⟨0xA8, [(0x400, 64)], .ctl, [⟨31, 0, .rw, 0x0, .any⟩]⟩,
  -- VELLIM
  ⟨0xAC, [(0x400, 64)], .ctl, [⟨31, 0, .rw, 0x0, .any⟩]⟩,
  -- FE_LIM
  ⟨0xB0, [(0x400, 64)], .ctl, [⟨31, 0, .rw, 0x0, .any⟩]⟩,
  -- INT_LIM_V
  ⟨0xB8, [(0x400, 64)], .ctl, [⟨31, 0, .rw, 0x0, .any⟩]⟩,
  -- DC_MIN
  ⟨0xBC, [(0x400, 64)], .ctl, [⟨31, 0, .rw, 0x0, .any⟩]⟩,
  -- MAN_STEP
  ⟨0xC0, [(0x400, 64)], .ctl, [⟨31, 0, .rw, 0x0, .any⟩]⟩]
/-- Register map rows of CTL, part 6. -/
def rowsCTL6 : List RegRow := [
  -- GS_BP_A
  ⟨0x104, [(0x400, 64), (0x4, 3)], .ctl, [⟨31, 0, .ro, 0x0, .any⟩]⟩,
  -- GS_BP_B
  ⟨0x110, [(0x400, 64), (0x4, 3)], .ctl, [⟨31, 0, .ro, 0x0, .any⟩]⟩,
  -- GS_HYS_A
  ⟨0x11C, [(0x400, 64)], .ctl, [⟨31, 0, .ro, 0x0, .any⟩]⟩,
  -- GS_HYS_B
  ⟨0x120, [(0x400, 64)], .ctl, [⟨31, 0, .ro, 0x0, .any⟩]⟩,
  -- KP_POS
  ⟨0x140, [(0x400, 64)], .ctl, [⟨31, 0, .ro, 0x0, .any⟩]⟩,
  -- KP_VEL
  ⟨0x144, [(0x400, 64)], .ctl, [⟨31, 0, .ro, 0x0, .any⟩]⟩,
  -- KI_VEL
  ⟨0x148, [(0x400, 64)], .ctl, [⟨31, 0, .ro, 0x0, .any⟩]⟩,
  -- KP_D
  ⟨0x14C, [(0x400, 64)], .ctl, [⟨31, 0, .ro, 0x0, .any⟩]⟩,
  -- KI_D
  ⟨0x150, [(0x400, 64)], .ctl, [⟨31, 0, .ro, 0x0, .any⟩]⟩,
  -- KP_Q
  ⟨0x154, [(0x400, 64)], .ctl, [⟨31, 0, .ro, 0x0, .any⟩]⟩,
  -- KI_Q
  ⟨0x158, [(0x400, 64)], .ctl, [⟨31, 0, .ro, 0x0, .any⟩]⟩,
  -- INJ_AMP
  ⟨0x184, [(0x400, 64)], .ctl, [⟨31, 0, .rw, 0x0, .any⟩]⟩]
/-- Register map rows of CTL, part 7. -/
def rowsCTL7 : List RegRow := [
  -- INJ_F0
  ⟨0x188, [(0x400, 64)], .ctl, [⟨31, 0, .rw, 0x0, .any⟩]⟩,
  -- INJ_F1
  ⟨0x18C, [(0x400, 64)], .ctl, [⟨31, 0, .rw, 0x0, .any⟩]⟩,
  -- INJ_LEN
  ⟨0x190, [(0x400, 64)], .ctl, [⟨31, 0, .rw, 0x0, .any⟩]⟩,
  -- INJ_MASK
  ⟨0x194, [(0x400, 64)], .ctl, [⟨31, 0, .rw, 0x0, .any⟩]⟩]
/-- The register map of CTL. -/
def rowsCTL : List RegRow := rowsCTL1 ++ rowsCTL2 ++ rowsCTL3 ++ rowsCTL4 ++ rowsCTL5 ++ rowsCTL6 ++ rowsCTL7

/-- Register map rows of PRF, part 1. -/
def rowsPRF1 : List RegRow := [
  -- PG_CMD
  ⟨0x0, [(0x100, 72)], .ctl, [⟨3, 3, .rw, 0x0, .any⟩, ⟨2, 2, .rw, 0x0, .any⟩, ⟨1, 1, .wo, 0x0, .any⟩, ⟨0, 0, .wo, 0x0, .any⟩]⟩,
  -- PG_CFG
  ⟨0x4, [(0x100, 72)], .ctl, [⟨4, 4, .rw, 0x0, .any⟩]⟩,
  -- PG_STAT
  ⟨0x8, [(0x100, 72)], .ctl, [⟨31, 29, .ro, 0x0, .any⟩, ⟨6, 6, .ro, 0x0, .any⟩, ⟨5, 5, .w1c, 0x0, .any⟩, ⟨4, 4, .w1c, 0x0, .any⟩, ⟨3, 3, .w1c, 0x0, .any⟩, ⟨2, 2, .w1c, 0x0, .any⟩, ⟨1, 1, .w1c, 0x0, .any⟩]⟩,
  -- ST_CFG
  ⟨0x8000, [(0x100, 8)], .ctl, [⟨31, 31, .rw, 0x0, .any⟩, ⟨30, 30, .rw, 0x0, .any⟩, ⟨29, 28, .rw, 0x0, (.range 0 2)⟩, ⟨27, 24, .rw, 0xF, (.among [0, 1, 2, 3, 4, 5, 6, 7, 15])⟩, ⟨23, 20, .rw, 0x4, (.range 0 8)⟩, ⟨19, 18, .rw, 0x1, .any⟩, ⟨17, 8, .rw, 0x0, .any⟩, ⟨7, 0, .rw, 0x28, .any⟩]⟩,
  -- ST_CUR
  ⟨0x8004, [(0x100, 8)], .ctl, [⟨31, 16, .rw, 0x0, (.range 0 2048)⟩, ⟨15, 0, .rw, 0x0, (.range 0 2048)⟩]⟩,
  -- ST_BAND
  ⟨0x8008, [(0x100, 8)], .ctl, [⟨31, 16, .rw, 0x64, .any⟩, ⟨15, 0, .rw, 0x40, (.range 32 512)⟩]⟩,
  -- ST_OFS
  ⟨0x800C, [(0x100, 8)], .ctl, [⟨31, 16, .ro, 0x0, .any⟩, ⟨15, 0, .ro, 0x0, .any⟩]⟩,
  -- ST_PEAK
  ⟨0x8010, [(0x100, 8)], .ctl, [⟨31, 16, .ro, 0x0, .any⟩, ⟨15, 0, .ro, 0x0, .any⟩]⟩,
  -- TARGET_LO
  ⟨0x10, [(0x100, 72)], .ctl, [⟨31, 0, .rw, 0x0, .any⟩]⟩,
  -- TARGET_HI
  ⟨0x14, [(0x100, 72)], .ctl, [⟨31, 0, .rw, 0x0, .any⟩]⟩,
  -- VLIM_LO_LO
  ⟨0x18, [(0x100, 72)], .ctl, [⟨31, 0, .rw, 0x0, .any⟩]⟩,
  -- VLIM_LO_HI
  ⟨0x1C, [(0x100, 72)], .ctl, [⟨31, 0, .rw, 0x0, .any⟩]⟩]
/-- Register map rows of PRF, part 2. -/
def rowsPRF2 : List RegRow := [
  -- VLIM_HI_LO
  ⟨0x20, [(0x100, 72)], .ctl, [⟨31, 0, .rw, 0x0, .any⟩]⟩,
  -- VLIM_HI_HI
  ⟨0x24, [(0x100, 72)], .ctl, [⟨31, 0, .rw, 0x0, .any⟩]⟩,
  -- P_OUT_LO
  ⟨0x28, [(0x100, 72)], .ctl, [⟨31, 0, .ro, 0x0, .any⟩]⟩,
  -- P_OUT_HI
  ⟨0x2C, [(0x100, 72)], .ctl, [⟨31, 0, .ro, 0x0, .any⟩]⟩,
  -- V_MAX
  ⟨0x30, [(0x100, 72)], .ctl, [⟨31, 0, .rw, 0x0, .any⟩]⟩,
  -- A_MAX
  ⟨0x34, [(0x100, 72)], .ctl, [⟨31, 0, .rw, 0x0, .any⟩]⟩,
  -- J_MAX
  ⟨0x38, [(0x100, 72)], .ctl, [⟨31, 0, .rw, 0x0, .any⟩]⟩,
  -- JOG_V
  ⟨0x3C, [(0x100, 72)], .ctl, [⟨31, 0, .rw, 0x0, .any⟩]⟩,
  -- ASCALE
  ⟨0x40, [(0x100, 72)], .ctl, [⟨31, 0, .rw, 0x0, .any⟩]⟩,
  -- V_OUT
  ⟨0x44, [(0x100, 72)], .ctl, [⟨31, 0, .ro, 0x0, .any⟩]⟩,
  -- A_OUT
  ⟨0x48, [(0x100, 72)], .ctl, [⟨31, 0, .ro, 0x0, .any⟩]⟩]
/-- The register map of PRF. -/
def rowsPRF : List RegRow := rowsPRF1 ++ rowsPRF2

/-- Register map rows of TRJ, part 1. -/
def rowsTRJ1 : List RegRow := [
  -- TRJ_CTRL
  ⟨0x0, [], .ctl, [⟨4, 0, .rw, 0x0, (.range 0 16)⟩]⟩,
  -- TRJ_STAT
  ⟨0x4, [], .ctl, [⟨31, 31, .ro, 0x0, .any⟩, ⟨24, 16, .ro, 0x0, .any⟩, ⟨8, 0, .ro, 0x0, .any⟩]⟩,
  -- TRJ_ERR
  ⟨0x8, [], .ctl, [⟨3, 3, .w1c, 0x0, .any⟩, ⟨2, 2, .w1c, 0x0, .any⟩, ⟨1, 1, .w1c, 0x0, .any⟩, ⟨0, 0, .w1c, 0x0, .any⟩]⟩,
  -- VT_VERDICT
  ⟨0x10, [], .ctl, [⟨31, 0, .rw, 0x0, .any⟩]⟩,
  -- VT_SQ
  ⟨0x14, [(0x4, 8)], .ctl, [⟨31, 16, .rw, 0x0, .any⟩, ⟨15, 0, .rw, 0x0, .any⟩]⟩,
  -- VT_SOLVE
  ⟨0x34, [], .ctl, [⟨31, 16, .rw, 0x0, .any⟩, ⟨15, 0, .rw, 0x0, .any⟩]⟩,
  -- VT_SEAL
  ⟨0x38, [], .ctl, [⟨31, 31, .wo, 0x0, .any⟩, ⟨30, 30, .ro, 0x0, .any⟩, ⟨15, 0, .rw, 0x0, .any⟩]⟩,
  -- COMMIT_STAT
  ⟨0x3C, [], .ctl, [⟨31, 16, .ro, 0x0, .any⟩, ⟨15, 8, .ro, 0x0, .any⟩, ⟨7, 0, .ro, 0x0, .any⟩]⟩,
  -- FALLBACK
  ⟨0x40, [], .ctl, [⟨15, 0, .ro, 0x0, .any⟩]⟩,
  -- PLAN_SEL
  ⟨0x50, [], .ctl, [⟨15, 0, .rw, 0x0, .any⟩]⟩,
  -- PLAN_INFO
  ⟨0x54, [], .ctl, [⟨31, 29, .ro, 0x0, .any⟩, ⟨28, 25, .ro, 0x0, .any⟩, ⟨24, 21, .ro, 0x0, .any⟩, ⟨20, 16, .ro, 0x0, .any⟩, ⟨15, 12, .ro, 0x0, .any⟩, ⟨3, 0, .ro, 0x0, .any⟩]⟩,
  -- Q_CFG
  ⟨0x1000, [(0x100, 16)], .ctl, [⟨31, 31, .ro, 0x0, .any⟩, ⟨28, 24, .rw, 0x0, (.range 0 15)⟩, ⟨23, 20, .ro, 0xF, .any⟩, ⟨19, 16, .ro, 0x0, .any⟩, ⟨15, 0, .rw, 0x10, .any⟩]⟩]
/-- Register map rows of TRJ, part 2. -/
def rowsTRJ2 : List RegRow := [
  -- Q_MAP_A
  ⟨0x1004, [(0x100, 16)], .ctl, [⟨31, 0, .ro, 0x0, .any⟩]⟩,
  -- Q_MAP_B
  ⟨0x1008, [(0x100, 16)], .ctl, [⟨31, 0, .ro, 0x0, .any⟩]⟩,
  -- Q_STAT
  ⟨0x100C, [(0x100, 16)], .ctl, [⟨31, 31, .ro, 0x0, .any⟩, ⟨23, 16, .ro, 0x0, .any⟩, ⟨15, 8, .ro, 0x0, .any⟩, ⟨7, 0, .ro, 0x0, .any⟩]⟩,
  -- Q_LAST_BND
  ⟨0x1010, [(0x100, 16)], .ctl, [⟨31, 0, .ro, 0x0, .any⟩]⟩,
  -- Q_FB_BND
  ⟨0x1014, [(0x100, 16)], .ctl, [⟨31, 0, .ro, 0x0, .any⟩]⟩,
  -- Q_CNT
  ⟨0x1018, [(0x100, 16)], .ctl, [⟨31, 16, .ro, 0x0, .any⟩, ⟨15, 0, .ro, 0x0, .any⟩]⟩,
  -- PP_CMD
  ⟨0x2000, [(0x80, 16)], .ctl, [⟨31, 31, .wo, 0x0, .any⟩, ⟨30, 30, .wo, 0x0, .any⟩, ⟨29, 29, .wo, 0x0, .any⟩, ⟨28, 28, .wo, 0x0, .any⟩, ⟨27, 24, .rw, 0x0, .any⟩, ⟨22, 20, .rw, 0x0, .any⟩, ⟨12, 12, .rw, 0x0, .any⟩, ⟨10, 0, .rw, 0x0, .any⟩]⟩,
  -- PP_QFIRST
  ⟨0x2004, [(0x80, 16)], .ctl, [⟨31, 0, .rw, 0x0, .any⟩]⟩,
  -- PP_STAT
  ⟨0x2008, [(0x80, 16)], .ctl, [⟨31, 31, .ro, 0x0, .any⟩, ⟨30, 30, .ro, 0x0, .any⟩, ⟨29, 29, .ro, 0x0, .any⟩, ⟨28, 25, .ro, 0x0, .any⟩, ⟨23, 16, .ro, 0x0, .any⟩, ⟨15, 0, .ro, 0x0, .any⟩]⟩,
  -- PP_DEP
  ⟨0x200C, [(0x80, 16)], .ctl, [⟨31, 28, .ro, 0x0, .any⟩, ⟨20, 16, .ro, 0x0, .any⟩]⟩,
  -- PP_QRES_A
  ⟨0x2040, [(0x80, 16), (0x8, 8)], .ctl, [⟨31, 28, .ro, 0x0, .any⟩, ⟨27, 26, .ro, 0x0, .any⟩, ⟨25, 23, .ro, 0x0, .any⟩, ⟨15, 0, .ro, 0x0, .any⟩]⟩,
  -- PP_QRES_B
  ⟨0x2044, [(0x80, 16), (0x8, 8)], .ctl, [⟨31, 0, .ro, 0x0, .any⟩]⟩]
/-- The register map of TRJ. -/
def rowsTRJ : List RegRow := rowsTRJ1 ++ rowsTRJ2

/-- Register map rows of FACE, part 1. -/
def rowsFACE1 : List RegRow := [
  -- FACE_CTRL
  ⟨0x0, [], .face, [⟨20, 16, .rw, 0x10, (.range 0 16)⟩, ⟨10, 8, .rw, 0x1, .any⟩, ⟨0, 0, .rw, 0x0, .any⟩]⟩,
  -- S_RES_BASE
  ⟨0x4, [], .face, [⟨10, 0, .rw, 0x0, .any⟩]⟩,
  -- B_RES_CFG
  ⟨0x8, [], .face, [⟨10, 0, .rw, 0x0, .any⟩]⟩,
  -- FACE_CMD
  ⟨0xC, [], .face, [⟨31, 31, .wo, 0x0, .any⟩, ⟨30, 30, .wo, 0x0, .any⟩, ⟨29, 29, .wo, 0x0, .any⟩, ⟨28, 28, .wo, 0x0, .any⟩, ⟨10, 0, .wo, 0x0, .any⟩]⟩,
  -- FACE_STAT
  ⟨0x10, [], .face, [⟨31, 31, .ro, 0x0, .any⟩, ⟨30, 30, .ro, 0x0, .any⟩, ⟨29, 29, .ro, 0x0, .any⟩, ⟨28, 28, .ro, 0x0, .any⟩, ⟨27, 24, .ro, 0x0, .any⟩, ⟨15, 0, .ro, 0x0, .any⟩]⟩,
  -- FACE_ERR
  ⟨0x14, [], .face, [⟨3, 3, .w1c, 0x0, .any⟩, ⟨2, 2, .w1c, 0x0, .any⟩, ⟨1, 1, .w1c, 0x0, .any⟩, ⟨0, 0, .w1c, 0x0, .any⟩]⟩,
  -- FACE_SIZE
  ⟨0x18, [], .face, [⟨29, 20, .ro, 0x0, .any⟩, ⟨19, 10, .ro, 0x0, .any⟩, ⟨6, 0, .ro, 0x0, .any⟩]⟩,
  -- FACE_TOKENS
  ⟨0x1C, [], .face, [⟨15, 8, .rw, 0x14, .any⟩, ⟨7, 0, .rw, 0x3C, .any⟩]⟩,
  -- FACE_CNT
  ⟨0x20, [], .face, [⟨31, 16, .ro, 0x0, .any⟩, ⟨15, 8, .ro, 0x0, .any⟩, ⟨7, 0, .ro, 0x0, .any⟩]⟩,
  -- S_LAST
  ⟨0x24, [], .face, [⟨31, 16, .ro, 0x0, .any⟩, ⟨15, 0, .ro, 0x0, .any⟩]⟩,
  -- B_LAST
  ⟨0x28, [], .face, [⟨31, 16, .ro, 0x0, .any⟩, ⟨8, 0, .ro, 0x0, .any⟩]⟩]
/-- The register map of FACE. -/
def rowsFACE : List RegRow := rowsFACE1

/-- Register map rows of ROUGH, part 1. -/
def rowsROUGH1 : List RegRow := [
  -- ROUGH_STAT
  ⟨0x0, [], .rough, [⟨31, 31, .ro, 0x0, .any⟩, ⟨30, 30, .ro, 0x0, .any⟩, ⟨15, 0, .ro, 0x0, .any⟩]⟩,
  -- ROUGH_TIME
  ⟨0x4, [], .rough, [⟨19, 0, .ro, 0x0, .any⟩]⟩,
  -- ROUGH_ERR
  ⟨0x8, [], .rough, [⟨2, 2, .w1c, 0x0, .any⟩, ⟨1, 1, .w1c, 0x0, .any⟩, ⟨0, 0, .w1c, 0x0, .any⟩]⟩,
  -- FRAME
  ⟨0x8000, [(0x1000, 8), (0x4, 1024)], .rough, [⟨31, 0, .ro, 0x0, .any⟩]⟩]
/-- The register map of ROUGH. -/
def rowsROUGH : List RegRow := rowsROUGH1

/-- Register map rows of GC, part 1. -/
def rowsGC1 : List RegRow := [
  -- GC_CTRL
  ⟨0x0, [(0x800, 16)], .gc 0, [⟨31, 31, .wo, 0x0, .any⟩, ⟨30, 30, .wo, 0x0, .any⟩, ⟨29, 29, .wo, 0x0, .any⟩, ⟨28, 28, .wo, 0x0, .any⟩]⟩,
  -- GC_STAT
  ⟨0x4, [(0x800, 16)], .gc 0, [⟨31, 29, .ro, 0x0, .any⟩, ⟨28, 25, .ro, 0x0, .any⟩, ⟨24, 23, .ro, 0x0, .any⟩, ⟨22, 18, .ro, 0x0, .any⟩, ⟨15, 12, .ro, 0x0, .any⟩, ⟨0, 0, .ro, 0x0, .any⟩]⟩,
  -- GC_PC
  ⟨0x8, [(0x800, 16)], .gc 0, [⟨14, 0, .rw, 0x0, .any⟩]⟩,
  -- GC_EXC
  ⟨0xC, [(0x800, 16)], .gc 0, [⟨31, 27, .ro, 0x0, .any⟩, ⟨26, 24, .ro, 0x0, .any⟩, ⟨14, 0, .ro, 0x0, .any⟩]⟩,
  -- GC_WDOG_CFG
  ⟨0x10, [(0x800, 16)], .gc 0, [⟨31, 31, .rwl 31, 0x0, .any⟩, ⟨15, 0, .rwl 31, 0x3E8, (.range 1 65535)⟩]⟩,
  -- GC_WDOG_KICK
  ⟨0x14, [(0x800, 16)], .gc 0, [⟨15, 0, .wo, 0x0, .any⟩]⟩,
  -- GC_ECC
  ⟨0x18, [(0x800, 16)], .gc 0, [⟨31, 16, .ro, 0x0, .any⟩, ⟨15, 8, .ro, 0x0, .any⟩, ⟨1, 0, .ro, 0x0, .any⟩]⟩,
  -- GC_BP
  ⟨0x20, [(0x800, 16), (0x4, 4)], .gc 0, [⟨31, 31, .rw, 0x0, .any⟩, ⟨30, 30, .rw, 0x0, .any⟩, ⟨14, 0, .rw, 0x0, .any⟩]⟩,
  -- GC_WP_ADDR
  ⟨0x30, [(0x800, 16), (0x8, 2)], .gc 0, [⟨31, 0, .rw, 0x0, .any⟩]⟩,
  -- GC_WP_CFG
  ⟨0x34, [(0x800, 16), (0x8, 2)], .gc 0, [⟨31, 31, .rw, 0x0, .any⟩, ⟨30, 30, .rw, 0x0, .any⟩, ⟨29, 28, .rw, 0x0, .any⟩, ⟨27, 26, .rw, 0x0, (.range 0 2)⟩, ⟨4, 0, .rw, 0x0, .any⟩]⟩,
  -- GC_DBG_SEL
  ⟨0x40, [(0x800, 16)], .gc 0, [⟨9, 4, .rw, 0x0, .any⟩, ⟨3, 0, .rw, 0x0, .any⟩]⟩,
  -- GC_DBG_DATA
  ⟨0x44, [(0x800, 16)], .gc 0, [⟨31, 0, .rw, 0x0, .any⟩]⟩]
/-- Register map rows of GC, part 2. -/
def rowsGC2 : List RegRow := [
  -- GC_BOOT_CFG
  ⟨0xF000, [], .aon, [⟨31, 30, .rw, 0x1, (.range 0 1)⟩, ⟨29, 28, .rw, 0x1, (.range 0 1)⟩, ⟨27, 26, .rw, 0x1, (.range 0 1)⟩, ⟨25, 24, .rw, 0x1, (.range 0 1)⟩, ⟨23, 22, .rw, 0x1, (.range 0 1)⟩, ⟨21, 20, .rw, 0x1, (.range 0 1)⟩, ⟨19, 18, .rw, 0x1, (.range 0 1)⟩, ⟨17, 16, .rw, 0x1, (.range 0 1)⟩, ⟨15, 14, .rw, 0x1, (.range 0 1)⟩, ⟨13, 12, .rw, 0x1, (.range 0 1)⟩, ⟨11, 10, .rw, 0x1, (.range 0 1)⟩, ⟨9, 8, .rw, 0x1, (.range 0 1)⟩, ⟨7, 6, .rw, 0x1, (.range 0 1)⟩, ⟨5, 4, .rw, 0x1, (.range 0 1)⟩, ⟨3, 2, .rw, 0x1, (.range 0 1)⟩, ⟨1, 0, .rw, 0x1, (.range 0 1)⟩]⟩,
  -- GC_SUPV
  ⟨0xF004, [], .aon, [⟨31, 31, .rwl 31, 0x0, .any⟩, ⟨4, 4, .rwl 31, 0x0, .any⟩, ⟨3, 0, .rwl 31, 0x0, .any⟩]⟩]
/-- The register map of GC. -/
def rowsGC : List RegRow := rowsGC1 ++ rowsGC2

/-- Register map rows of CHUCK, part 1. -/
def rowsCHUCK1 : List RegRow := [
  -- CHUCK_CTRL
  ⟨0x0, [], .mem, [⟨31, 31, .rw, 0x0, .any⟩, ⟨26, 16, .rw, 0x100, (.range 0 1024)⟩, ⟨15, 8, .rw, 0x0, .any⟩, ⟨7, 0, .rw, 0x14, .any⟩]⟩,
  -- CHUCK_STAT
  ⟨0x4, [], .mem, [⟨28, 16, .ro, 0x0, .any⟩, ⟨15, 0, .ro, 0x0, .any⟩]⟩,
  -- CHUCK_ERR
  ⟨0x8, [], .mem, [⟨3, 3, .w1c, 0x0, .any⟩, ⟨2, 2, .w1c, 0x0, .any⟩, ⟨1, 1, .w1c, 0x0, .any⟩, ⟨0, 0, .w1c, 0x0, .any⟩]⟩,
  -- HOST_CREDIT
  ⟨0xC, [], .mem, [⟨27, 16, .ro, 0x400, .any⟩, ⟨11, 0, .rw, 0x400, (.range 1 4095)⟩]⟩,
  -- CHUCK_WDOG_CFG
  ⟨0x10, [], .mem, [⟨31, 31, .rwl 31, 0x0, .any⟩, ⟨15, 0, .rwl 31, 0x64, (.range 1 65535)⟩]⟩,
  -- HW_CNT
  ⟨0x14, [], .mem, [⟨31, 16, .ro, 0x0, .any⟩, ⟨15, 0, .ro, 0x0, .any⟩]⟩,
  -- LEVEL_CNT
  ⟨0x20, [(0x4, 8)], .mem, [⟨12, 0, .ro, 0x0, .any⟩]⟩,
  -- ENQ_DESC
  ⟨0x1000, [(0x4, 8)], .mem, [⟨31, 0, .rw, 0x0, .any⟩]⟩,
  -- ENQ_CMD
  ⟨0x1020, [], .mem, [⟨0, 0, .wo, 0x0, .any⟩]⟩,
  -- ENQ_STAT
  ⟨0x1024, [], .mem, [⟨31, 28, .ro, 0x0, .any⟩, ⟨11, 0, .ro, 0x0, .any⟩]⟩,
  -- MBX
  ⟨0x2000, [(0x40, 16), (0x4, 8)], .mem, [⟨31, 0, .ro, 0x0, .any⟩]⟩,
  -- MBX_TAG
  ⟨0x2020, [(0x40, 16)], .mem, [⟨31, 31, .ro, 0x0, .any⟩, ⟨27, 16, .ro, 0x0, .any⟩, ⟨15, 0, .ro, 0x0, .any⟩]⟩]
/-- Register map rows of CHUCK, part 2. -/
def rowsCHUCK2 : List RegRow := [
  -- CORE_DONE
  ⟨0x2024, [(0x40, 16)], .mem, [⟨31, 31, .wo, 0x0, .any⟩, ⟨30, 30, .wo, 0x0, .any⟩, ⟨23, 16, .wo, 0x0, .any⟩, ⟨10, 0, .wo, 0x0, .any⟩]⟩,
  -- CQ_LO
  ⟨0x3000, [(0x10, 17)], .mem, [⟨31, 31, .ro, 0x0, .any⟩, ⟨30, 30, .ro, 0x0, .any⟩, ⟨23, 16, .ro, 0x0, .any⟩, ⟨7, 0, .ro, 0x0, .any⟩]⟩,
  -- CQ_HI
  ⟨0x3004, [(0x10, 17)], .mem, [⟨31, 16, .ro, 0x0, .any⟩, ⟨10, 0, .ro, 0x0, .any⟩]⟩,
  -- CQ_STAT
  ⟨0x3008, [(0x10, 17)], .mem, [⟨8, 0, .ro, 0x0, .any⟩]⟩,
  -- FLOW_CFG
  ⟨0x4000, [(0x8, 256)], .mem, [⟨31, 31, .rw, 0x0, .any⟩, ⟨30, 30, .rw, 0x1, .any⟩, ⟨17, 16, .rw, 0x0, .any⟩, ⟨12, 8, .rw, 0x10, (.range 0 16)⟩, ⟨6, 4, .rw, 0x4, .any⟩, ⟨1, 0, .rw, 0x0, (.range 0 2)⟩]⟩,
  -- FLOW_MASK
  ⟨0x4004, [(0x8, 256)], .mem, [⟨15, 0, .rw, 0x0, .any⟩]⟩,
  -- FLOW_STAT
  ⟨0x6000, [(0x4, 256)], .mem, [⟨31, 31, .ro, 0x0, .any⟩, ⟨30, 27, .ro, 0x0, .any⟩, ⟨23, 16, .ro, 0x0, .any⟩, ⟨14, 8, .ro, 0x0, .any⟩, ⟨4, 0, .ro, 0x0, .any⟩]⟩,
  -- SMW_FLAG
  ⟨0x8000, [(0x4, 2048)], .mem, [⟨31, 16, .ro, 0x0, .any⟩, ⟨12, 8, .ro, 0x10, .any⟩, ⟨4, 0, .rw, 0x10, .any⟩]⟩,
  -- SMW_PASS
  ⟨0xA000, [], .mem, [⟨31, 27, .wo, 0x0, .any⟩, ⟨24, 19, .wo, 0x0, .any⟩, ⟨10, 0, .wo, 0x0, .any⟩]⟩,
  -- SMW_RECLAIM
  ⟨0xA004, [], .mem, [⟨10, 0, .wo, 0x0, .any⟩]⟩,
  -- SMW_ERR
  ⟨0xA008, [], .mem, [⟨2, 2, .w1c, 0x0, .any⟩, ⟨1, 1, .w1c, 0x0, .any⟩, ⟨0, 0, .w1c, 0x0, .any⟩]⟩,
  -- SMW_ERR_INFO
  ⟨0xA00C, [], .mem, [⟨20, 16, .ro, 0x0, .any⟩, ⟨10, 0, .ro, 0x0, .any⟩]⟩]
/-- The register map of CHUCK. -/
def rowsCHUCK : List RegRow := rowsCHUCK1 ++ rowsCHUCK2

/-- Register map rows of SAFE, part 1. -/
def rowsSAFE1 : List RegRow := [
  -- SAFE_STAT
  ⟨0x0, [], .dead, [⟨31, 31, .ro, 0x0, .any⟩, ⟨30, 30, .ro, 0x0, .any⟩, ⟨29, 29, .ro, 0x0, .any⟩, ⟨28, 28, .ro, 0x0, .any⟩, ⟨27, 27, .ro, 0x0, .any⟩, ⟨23, 20, .ro, 0x0, .any⟩, ⟨15, 0, .ro, 0x0, .any⟩]⟩,
  -- ZONE_STAT
  ⟨0x10, [], .dead, [⟨31, 24, .ro, 0x0, .any⟩, ⟨23, 16, .ro, 0x0, .any⟩, ⟨15, 8, .ro, 0xFF, .any⟩, ⟨7, 0, .ro, 0xFF, .any⟩]⟩,
  -- ZONE_FB
  ⟨0x14, [], .dead, [⟨15, 8, .ro, 0x0, .any⟩, ⟨7, 0, .ro, 0x0, .any⟩]⟩,
  -- CD_STAT
  ⟨0x18, [], .dead, [⟨31, 0, .ro, 0x0, .any⟩]⟩,
  -- ARM_SAFE
  ⟨0x1C, [], .dead, [⟨31, 24, .ro, 0x0, .any⟩, ⟨23, 16, .ro, 0x0, .any⟩, ⟨15, 8, .ro, 0x0, .any⟩, ⟨7, 0, .ro, 0x0, .any⟩]⟩,
  -- SI_FILT
  ⟨0x20, [], .dead, [⟨23, 0, .ro, 0x0, .any⟩]⟩,
  -- SI_FILT_L
  ⟨0x24, [], .dead, [⟨23, 0, .ro, 0x0, .any⟩]⟩,
  -- TPS_STAT
  ⟨0x28, [], .dead, [⟨15, 8, .ro, 0x0, .any⟩, ⟨7, 0, .ro, 0x0, .any⟩]⟩,
  -- DEG_CFG
  ⟨0x40, [], .dead, [⟨31, 16, .ro, 0x0, .any⟩, ⟨15, 0, .ro, 0x0, .any⟩]⟩,
  -- SPD_CFG
  ⟨0x44, [], .dead, [⟨31, 16, .ro, 0x0, .any⟩, ⟨15, 0, .ro, 0x0, .any⟩]⟩,
  -- STILL_CFG
  ⟨0x48, [], .dead, [⟨26, 24, .ro, 0x0, .any⟩, ⟨18, 16, .ro, 0x0, .any⟩, ⟨15, 0, .ro, 0x0, .any⟩]⟩,
  -- ZONE_CFG
  ⟨0x60, [(0x4, 8)], .dead, [⟨31, 31, .ro, 0x0, .any⟩, ⟨23, 16, .ro, 0x0, .any⟩, ⟨15, 0, .ro, 0x0, .any⟩]⟩]
/-- Register map rows of SAFE, part 2. -/
def rowsSAFE2 : List RegRow := [
  -- CD_CFG
  ⟨0x80, [(0x4, 4)], .dead, [⟨31, 31, .ro, 0x0, .any⟩, ⟨23, 16, .ro, 0x0, .any⟩, ⟨15, 8, .ro, 0x0, .any⟩, ⟨7, 0, .ro, 0x0, .any⟩]⟩,
  -- FN_STAT
  ⟨0x100, [(0x4, 24)], .dead, [⟨31, 29, .ro, 0x7, .any⟩, ⟨28, 26, .ro, 0x0, .any⟩, ⟨25, 25, .ro, 0x0, .any⟩, ⟨24, 24, .ro, 0x0, .any⟩, ⟨15, 0, .ro, 0x0, .any⟩]⟩,
  -- FN_CFG
  ⟨0x200, [(0x4, 24)], .dead, [⟨31, 31, .ro, 0x0, .any⟩, ⟨30, 30, .ro, 0x0, .any⟩, ⟨29, 29, .ro, 0x0, .any⟩, ⟨28, 28, .ro, 0x0, .any⟩, ⟨27, 26, .ro, 0x0, .any⟩, ⟨23, 16, .ro, 0x0, .any⟩, ⟨15, 8, .ro, 0x0, .any⟩, ⟨7, 0, .ro, 0x0, .any⟩]⟩,
  -- SI_CFG
  ⟨0x300, [(0x4, 24)], .dead, [⟨31, 31, .ro, 0x0, .any⟩, ⟨30, 28, .ro, 0x0, .any⟩, ⟨27, 24, .ro, 0x0, .any⟩, ⟨4, 0, .ro, 0x0, .any⟩]⟩,
  -- SI_STAT
  ⟨0x400, [(0x4, 24)], .dead, [⟨31, 31, .ro, 0x0, .any⟩, ⟨30, 30, .ro, 0x0, .any⟩, ⟨29, 29, .ro, 0x0, .any⟩, ⟨28, 28, .ro, 0x0, .any⟩, ⟨27, 27, .ro, 0x0, .any⟩, ⟨26, 24, .ro, 0x0, .any⟩, ⟨15, 0, .ro, 0x0, .any⟩]⟩,
  -- SSM_STAT
  ⟨0x800, [], .dead, [⟨31, 24, .ro, 0x0, .any⟩, ⟨23, 16, .ro, 0x0, .any⟩, ⟨7, 0, .ro, 0x0, .any⟩]⟩,
  -- SSM_LEVEL
  ⟨0x804, [], .dead, [⟨31, 0, .ro, 0x0, .any⟩]⟩,
  -- SSM_LVL_D
  ⟨0x808, [], .dead, [⟨31, 0, .ro, 0x0, .any⟩]⟩,
  -- SSM_LVL_L
  ⟨0x80C, [], .dead, [⟨31, 0, .ro, 0x0, .any⟩]⟩,
  -- SSM_CFG
  ⟨0x810, [], .dead, [⟨31, 31, .ro, 0x0, .any⟩, ⟨30, 30, .ro, 0x0, .any⟩, ⟨29, 27, .ro, 0x0, .any⟩, ⟨15, 8, .ro, 0x0, .any⟩, ⟨7, 0, .ro, 0x0, .any⟩]⟩,
  -- SSM_VH
  ⟨0x814, [], .dead, [⟨31, 16, .ro, 0x0, .any⟩, ⟨15, 0, .ro, 0x0, .any⟩]⟩,
  -- SSM_TERMS
  ⟨0x818, [], .dead, [⟨31, 24, .ro, 0x0, .any⟩, ⟨23, 16, .ro, 0x0, .any⟩, ⟨15, 8, .ro, 0x0, .any⟩, ⟨7, 0, .ro, 0x0, .any⟩]⟩]
/-- Register map rows of SAFE, part 3. -/
def rowsSAFE3 : List RegRow := [
  -- LEVEL_SCALE
  ⟨0x820, [(0x4, 8)], .dead, [⟨15, 0, .ro, 0x0, .any⟩]⟩,
  -- SSM_ARM_CFG
  ⟨0x840, [(0x8, 8)], .dead, [⟨31, 31, .ro, 0x0, .any⟩, ⟨30, 30, .ro, 0x0, .any⟩, ⟨29, 20, .ro, 0x0, .any⟩, ⟨19, 8, .ro, 0x0, .any⟩, ⟨7, 0, .ro, 0x0, .any⟩]⟩,
  -- SSM_ARM_CFG2
  ⟨0x844, [(0x8, 8)], .dead, [⟨31, 16, .ro, 0x0, .any⟩, ⟨15, 0, .ro, 0x0, .any⟩]⟩,
  -- MIN_DIST
  ⟨0x880, [(0x4, 8)], .dead, [⟨31, 28, .ro, 0x0, .any⟩, ⟨27, 25, .ro, 0x0, .any⟩, ⟨24, 24, .ro, 0x1, .any⟩, ⟨23, 0, .ro, 0x0, .any⟩]⟩,
  -- MIN_DIST_L
  ⟨0x8A0, [(0x4, 8)], .dead, [⟨31, 28, .ro, 0x0, .any⟩, ⟨27, 25, .ro, 0x0, .any⟩, ⟨24, 24, .ro, 0x1, .any⟩, ⟨23, 0, .ro, 0x0, .any⟩]⟩,
  -- SENSOR_CFG
  ⟨0x8C0, [(0x4, 8)], .dead, [⟨31, 31, .ro, 0x0, .any⟩, ⟨15, 0, .ro, 0x0, .any⟩]⟩,
  -- PERS_STAT
  ⟨0x8E0, [], .dead, [⟨15, 0, .ro, 0x0, .any⟩]⟩,
  -- SSM_CNT
  ⟨0x8E4, [], .dead, [⟨31, 16, .ro, 0x0, .any⟩, ⟨15, 8, .ro, 0x0, .any⟩, ⟨7, 0, .ro, 0x0, .any⟩]⟩]
/-- The register map of SAFE. -/
def rowsSAFE : List RegRow := rowsSAFE1 ++ rowsSAFE2 ++ rowsSAFE3

/-- Register map rows of PORT, part 1. -/
def rowsPORT1 : List RegRow := [
  -- PORT_CMD
  ⟨0x0, [(0x100, 8)], .ctl, [⟨3, 3, .wo, 0x0, .any⟩, ⟨2, 2, .wo, 0x0, .any⟩, ⟨1, 1, .wo, 0x0, .any⟩, ⟨0, 0, .wo, 0x0, .any⟩]⟩,
  -- PORT_STAT
  ⟨0x4, [(0x100, 8)], .ctl, [⟨31, 28, .ro, 0x6, .any⟩, ⟨27, 24, .ro, 0x0, .any⟩, ⟨23, 20, .ro, 0x0, .any⟩, ⟨19, 17, .ro, 0x0, .any⟩, ⟨16, 16, .ro, 0x0, .any⟩, ⟨15, 15, .ro, 0x0, .any⟩, ⟨14, 14, .ro, 0x0, .any⟩, ⟨13, 13, .ro, 0x0, .any⟩, ⟨12, 12, .ro, 0x0, .any⟩, ⟨5, 0, .ro, 0x0, .any⟩]⟩,
  -- PORT_FLAGS
  ⟨0x8, [(0x100, 8)], .ctl, [⟨15, 8, .ro, 0x0, .any⟩, ⟨4, 4, .w1c, 0x0, .any⟩, ⟨3, 3, .w1c, 0x0, .any⟩, ⟨2, 2, .w1c, 0x0, .any⟩, ⟨1, 1, .w1c, 0x0, .any⟩, ⟨0, 0, .w1c, 0x0, .any⟩]⟩,
  -- PORT_CUR
  ⟨0xC, [(0x100, 8)], .ctl, [⟨31, 16, .ro, 0x0, .any⟩, ⟨15, 0, .ro, 0x0, .any⟩]⟩,
  -- PORT_CFG
  ⟨0x10, [(0x100, 8)], .ctl, [⟨31, 31, .ro, 0x0, .any⟩, ⟨29, 28, .ro, 0x0, .any⟩, ⟨27, 27, .ro, 0x0, .any⟩, ⟨26, 24, .ro, 0x0, .any⟩, ⟨22, 20, .ro, 0x0, .any⟩, ⟨18, 16, .ro, 0x0, .any⟩, ⟨15, 15, .ro, 0x0, .any⟩]⟩,
  -- PORT_POS
  ⟨0x14, [(0x100, 8)], .ctl, [⟨31, 0, .ro, 0x0, .any⟩]⟩,
  -- PORT_CNT
  ⟨0x18, [(0x100, 8)], .ctl, [⟨31, 16, .ro, 0x0, .any⟩, ⟨15, 8, .ro, 0x0, .any⟩, ⟨7, 0, .ro, 0x0, .any⟩]⟩,
  -- PORT_ZONE
  ⟨0x1000, [], .ctl, [⟨15, 8, .ro, 0x0, .any⟩, ⟨7, 0, .ro, 0x0, .any⟩]⟩,
  -- ENV
  ⟨0x4000, [(0x200, 8), (0x100, 2), (0x4, 64)], .ctl, [⟨15, 0, .ro, 0x0, .any⟩]⟩]
/-- The register map of PORT. -/
def rowsPORT : List RegRow := rowsPORT1

/-- Register map rows of SRT, part 1. -/
def rowsSRT1 : List RegRow := [
  -- SRT_CTRL
  ⟨0x0, [], .link, [⟨31, 31, .rw, 0x0, .any⟩, ⟨1, 1, .rw, 0x1, .any⟩, ⟨0, 0, .rw, 0x1, .any⟩]⟩,
  -- SRT_STAT
  ⟨0x4, [], .link, [⟨31, 29, .ro, 0x0, .any⟩, ⟨28, 28, .ro, 0x0, .any⟩, ⟨27, 26, .ro, 0x3, .any⟩, ⟨25, 25, .ro, 0x0, .any⟩, ⟨24, 24, .ro, 0x0, .any⟩, ⟨15, 0, .ro, 0x0, .any⟩]⟩,
  -- SRT_ERR
  ⟨0x8, [], .link, [⟨7, 7, .w1c, 0x0, .any⟩, ⟨6, 6, .w1c, 0x0, .any⟩, ⟨5, 5, .w1c, 0x0, .any⟩, ⟨4, 4, .w1c, 0x0, .any⟩, ⟨3, 3, .w1c, 0x0, .any⟩, ⟨2, 2, .w1c, 0x0, .any⟩, ⟨1, 1, .w1c, 0x0, .any⟩, ⟨0, 0, .w1c, 0x0, .any⟩]⟩,
  -- SRT_CFG
  ⟨0xC, [], .link, [⟨31, 16, .ro, 0x0, .any⟩, ⟨13, 12, .ro, 0x3, .any⟩, ⟨4, 0, .ro, 0x0, .any⟩]⟩,
  -- SRT_PROP
  ⟨0x10, [], .link, [⟨9, 0, .ro, 0x0, .any⟩]⟩,
  -- ERR_CNT
  ⟨0x14, [(0x4, 2)], .link, [⟨31, 24, .ro, 0x0, .any⟩, ⟨23, 16, .ro, 0x0, .any⟩, ⟨15, 8, .ro, 0x0, .any⟩, ⟨7, 0, .ro, 0x0, .any⟩]⟩,
  -- COLD_CNT
  ⟨0x1C, [], .link, [⟨31, 16, .ro, 0x0, .any⟩, ⟨15, 8, .ro, 0x0, .any⟩, ⟨7, 0, .ro, 0x0, .any⟩]⟩,
  -- GRANT
  ⟨0x20, [(0x4, 6)], .link, [⟨31, 0, .ro, 0x0, .any⟩]⟩,
  -- GUARD_STAT
  ⟨0x40, [], .link, [⟨31, 16, .ro, 0x0, .any⟩, ⟨0, 0, .ro, 0x0, .any⟩]⟩,
  -- CLAIM_CNT
  ⟨0x44, [], .link, [⟨31, 16, .ro, 0x0, .any⟩, ⟨15, 0, .ro, 0x0, .any⟩]⟩,
  -- RX_HDR
  ⟨0x1000, [(0x80, 256)], .link, [⟨31, 16, .ro, 0x0, .any⟩, ⟨15, 8, .ro, 0xFF, .any⟩, ⟨5, 5, .ro, 0x0, .any⟩, ⟨4, 4, .ro, 0x0, .any⟩, ⟨3, 3, .ro, 0x0, .any⟩, ⟨0, 0, .ro, 0x0, .any⟩]⟩,
  -- RX_SRC
  ⟨0x1004, [(0x80, 256)], .link, [⟨14, 8, .ro, 0x0, .any⟩, ⟨4, 0, .ro, 0x0, .any⟩]⟩]
/-- Register map rows of SRT, part 2. -/
def rowsSRT2 : List RegRow := [
  -- RX_DT
  ⟨0x1008, [(0x80, 256)], .link, [⟨31, 0, .ro, 0x0, .any⟩]⟩,
  -- RX_CFG
  ⟨0x100C, [(0x80, 256)], .link, [⟨31, 31, .ro, 0x0, .any⟩, ⟨30, 30, .ro, 0x0, .any⟩, ⟨29, 28, .rw, 0x0, (.range 0 1)⟩, ⟨15, 8, .rw, 0x0, .any⟩, ⟨6, 0, .ro, 0x0, .any⟩]⟩,
  -- RX_CNT
  ⟨0x1010, [(0x80, 256)], .link, [⟨31, 16, .ro, 0x0, .any⟩, ⟨15, 0, .ro, 0x0, .any⟩]⟩,
  -- RX_SAFE
  ⟨0x1014, [(0x80, 256)], .link, [⟨31, 16, .ro, 0x0, .any⟩, ⟨15, 0, .ro, 0x0, .any⟩]⟩,
  -- RX_DATA
  ⟨0x1040, [(0x80, 256), (0x4, 16)], .link, [⟨31, 0, .ro, 0x0, .any⟩]⟩]
/-- The register map of SRT. -/
def rowsSRT : List RegRow := rowsSRT1 ++ rowsSRT2

/-- Register map rows of TIME, part 1. -/
def rowsTIME1 : List RegRow := [
  -- TIME_CTRL
  ⟨0x0, [], .time, [⟨31, 31, .rw, 0x0, .any⟩, ⟨30, 30, .rw, 0x0, .any⟩, ⟨2, 0, .rw, 0x0, (.range 0 4)⟩]⟩,
  -- TIME_STAT
  ⟨0x4, [], .time, [⟨31, 31, .ro, 0x0, .any⟩, ⟨30, 30, .ro, 0x0, .any⟩, ⟨29, 29, .ro, 0x0, .any⟩, ⟨2, 2, .w1c, 0x0, .any⟩, ⟨1, 1, .w1c, 0x0, .any⟩]⟩,
  -- STEP_CMD
  ⟨0x24, [], .time, [⟨31, 31, .wo, 0x0, .any⟩, ⟨30, 30, .wo, 0x0, .any⟩]⟩,
  -- RATE_ADJ
  ⟨0x28, [], .time, [⟨31, 0, .rw, 0x0, .any⟩]⟩,
  -- RATE_MAX
  ⟨0x2C, [], .time, [⟨9, 0, .rw, 0x64, (.range 1 500)⟩]⟩,
  -- SLEW_NS
  ⟨0x30, [], .time, [⟨31, 0, .wo, 0x0, .any⟩]⟩,
  -- SLEW_RATE
  ⟨0x34, [], .time, [⟨8, 0, .rw, 0x32, (.range 1 500)⟩]⟩,
  -- SLEW_LEFT
  ⟨0x38, [], .time, [⟨31, 0, .ro, 0x0, .any⟩]⟩,
  -- SYNC_TO
  ⟨0x3C, [], .time, [⟨11, 0, .rw, 0xFA, (.range 1 4095)⟩]⟩,
  -- GM_ID_LO
  ⟨0x40, [], .time, [⟨31, 0, .ro, 0x0, .any⟩]⟩,
  -- GM_ID_HI
  ⟨0x44, [], .time, [⟨31, 0, .ro, 0x0, .any⟩]⟩,
  -- PTP_CFG
  ⟨0x100, [(0x40, 2)], .time, [⟨31, 31, .rw, 0x0, .any⟩, ⟨30, 29, .rw, 0x0, (.range 0 1)⟩, ⟨28, 28, .rw, 0x0, .any⟩]⟩]
/-- Register map rows of TIME, part 2. -/
def rowsTIME2 : List RegRow := [
  -- PTP_LAT
  ⟨0x104, [(0x40, 2)], .time, [⟨31, 16, .rw, 0x0, .any⟩, ⟨15, 0, .rw, 0x0, .any⟩]⟩,
  -- TXTS_HDR
  ⟨0x108, [(0x40, 2)], .time, [⟨31, 31, .ro, 0x0, .any⟩, ⟨20, 16, .ro, 0x0, .any⟩, ⟨15, 0, .ro, 0x0, .any⟩]⟩,
  -- TXTS_NS
  ⟨0x10C, [(0x40, 2)], .time, [⟨31, 0, .ro, 0x0, .any⟩]⟩,
  -- TXTS_SEC_LO
  ⟨0x110, [(0x40, 2)], .time, [⟨31, 0, .ro, 0x0, .any⟩]⟩,
  -- TXTS_SEC_HI
  ⟨0x114, [(0x40, 2)], .time, [⟨15, 0, .ro, 0x0, .any⟩]⟩,
  -- TS_OVF
  ⟨0x118, [(0x40, 2)], .time, [⟨15, 0, .ro, 0x0, .any⟩]⟩,
  -- DT_NS
  ⟨0x8, [], .time, [⟨31, 0, .ro, 0x0, .any⟩]⟩,
  -- DT_SEC_LO
  ⟨0xC, [], .time, [⟨31, 0, .ro, 0x0, .any⟩]⟩,
  -- DT_SEC_HI
  ⟨0x10, [], .time, [⟨15, 0, .ro, 0x0, .any⟩]⟩,
  -- NS32
  ⟨0x14, [], .time, [⟨31, 0, .ro, 0x0, .any⟩]⟩,
  -- SET_NS
  ⟨0x18, [], .time, [⟨31, 0, .rw, 0x0, .any⟩]⟩,
  -- SET_SEC_LO
  ⟨0x1C, [], .time, [⟨31, 0, .rw, 0x0, .any⟩]⟩]
/-- Register map rows of TIME, part 3. -/
def rowsTIME3 : List RegRow := [
  -- SET_SEC_HI
  ⟨0x20, [], .time, [⟨15, 0, .rw, 0x0, .any⟩]⟩]
/-- The register map of TIME. -/
def rowsTIME : List RegRow := rowsTIME1 ++ rowsTIME2 ++ rowsTIME3

/-- Register map rows of NET, part 1. -/
def rowsNET1 : List RegRow := [
  -- NET_CFG
  ⟨0x0, [(0x1000, 2)], .host, [⟨31, 31, .rw, 0x0, .any⟩, ⟨30, 30, .rw, 0x0, .any⟩, ⟨29, 29, .rw, 0x1, .any⟩, ⟨28, 28, .rw, 0x0, .any⟩, ⟨20, 16, .rw, 0x10, (.range 0 16)⟩]⟩,
  -- NET_MAC_LO
  ⟨0x4, [(0x1000, 2)], .host, [⟨31, 0, .rw, 0x0, .any⟩]⟩,
  -- NET_MAC_HI
  ⟨0x8, [(0x1000, 2)], .host, [⟨15, 0, .rw, 0x0, .any⟩]⟩,
  -- NET_RX_RING
  ⟨0xC, [(0x1000, 2)], .host, [⟨26, 16, .rw, 0x0, .any⟩, ⟨7, 0, .rw, 0x0, .any⟩]⟩,
  -- NET_STAT
  ⟨0x10, [(0x1000, 2)], .host, [⟨31, 31, .ro, 0x0, .any⟩, ⟨30, 30, .ro, 0x0, .any⟩, ⟨29, 29, .ro, 0x0, .any⟩, ⟨2, 2, .w1c, 0x0, .any⟩, ⟨1, 1, .w1c, 0x0, .any⟩, ⟨0, 0, .w1c, 0x0, .any⟩]⟩,
  -- NET_TX_CMD
  ⟨0x14, [(0x1000, 2)], .host, [⟨31, 31, .wo, 0x0, .any⟩, ⟨10, 0, .wo, 0x0, .any⟩]⟩,
  -- NET_TX_STAT
  ⟨0x18, [(0x1000, 2)], .host, [⟨31, 28, .ro, 0x0, .any⟩, ⟨22, 16, .ro, 0x0, .any⟩]⟩,
  -- NET_CNT
  ⟨0x1C, [(0x1000, 2)], .host, [⟨31, 16, .ro, 0x0, .any⟩, ⟨15, 0, .ro, 0x0, .any⟩]⟩]
/-- The register map of NET. -/
def rowsNET : List RegRow := rowsNET1

/-- Register map rows of FYV, part 1. -/
def rowsFYV1 : List RegRow := [
  -- PAIR_STAT
  ⟨0x0, [], .link, [⟨31, 30, .ro, 0x0, .any⟩, ⟨29, 29, .ro, 0x0, .any⟩, ⟨28, 28, .ro, 0x0, .any⟩, ⟨27, 27, .ro, 0x0, .any⟩, ⟨26, 26, .ro, 0x0, .any⟩, ⟨19, 16, .ro, 0x0, .any⟩, ⟨15, 0, .ro, 0x0, .any⟩]⟩,
  -- PAIR_ERR
  ⟨0x4, [], .link, [⟨3, 3, .w1c, 0x0, .any⟩, ⟨2, 2, .w1c, 0x0, .any⟩, ⟨1, 1, .w1c, 0x0, .any⟩, ⟨0, 0, .w1c, 0x0, .any⟩]⟩,
  -- PAIR_CFG
  ⟨0x8, [], .link, [⟨31, 16, .ro, 0x0, .any⟩, ⟨9, 0, .ro, 0x0, .any⟩]⟩,
  -- SWAP_AGE
  ⟨0xC, [], .link, [⟨31, 0, .ro, 0x0, .any⟩]⟩,
  -- PAIR_DIFF
  ⟨0x10, [], .link, [⟨31, 26, .ro, 0x0, .any⟩, ⟨25, 0, .ro, 0x0, .any⟩]⟩,
  -- LINK_STAT
  ⟨0x100, [(0x40, 5)], .link, [⟨31, 31, .ro, 0x0, .any⟩, ⟨23, 16, .ro, 0x0, .any⟩, ⟨15, 0, .ro, 0x0, .any⟩]⟩,
  -- CASC_CFG
  ⟨0x400, [], .link, [⟨29, 28, .ro, 0x0, .any⟩, ⟨25, 24, .ro, 0x0, .any⟩, ⟨19, 16, .ro, 0x0, .any⟩, ⟨10, 0, .ro, 0x0, .any⟩]⟩,
  -- CONS_STAT
  ⟨0x404, [], .link, [⟨31, 31, .ro, 0x0, .any⟩, ⟨30, 30, .w1c, 0x0, .any⟩, ⟨29, 28, .ro, 0x0, .any⟩, ⟨27, 24, .ro, 0x0, .any⟩]⟩,
  -- CONS_RES
  ⟨0x408, [], .link, [⟨31, 0, .ro, 0x0, .any⟩]⟩,
  -- TIME_OFS
  ⟨0x410, [], .link, [⟨31, 0, .ro, 0x0, .any⟩]⟩,
  -- IMG_SEND
  ⟨0x500, [], .link, [⟨31, 31, .wo, 0x0, .any⟩, ⟨30, 29, .rw, 0x0, .any⟩, ⟨28, 18, .rw, 0x0, .any⟩, ⟨10, 0, .rw, 0x0, .any⟩]⟩]
/-- The register map of FYV. -/
def rowsFYV : List RegRow := rowsFYV1

/-- Register map rows of DIO, part 1. -/
def rowsDIO1 : List RegRow := [
  -- DIO_IN
  ⟨0x0, [], .ctl, [⟨31, 0, .ro, 0x0, .any⟩]⟩,
  -- DIO_IN_RISE
  ⟨0x4, [], .ctl, [⟨31, 0, .w1c, 0x0, .any⟩]⟩,
  -- DIO_IN_FALL
  ⟨0x8, [], .ctl, [⟨31, 0, .w1c, 0x0, .any⟩]⟩,
  -- DIO_IN_EVT_EN
  ⟨0xC, [], .ctl, [⟨31, 0, .rw, 0x0, .any⟩]⟩,
  -- DIO_FILT
  ⟨0x10, [], .ctl, [⟨31, 0, .rw, 0x1E1E1E1E, .any⟩]⟩,
  -- DIO_OUT
  ⟨0x20, [], .ctl, [⟨15, 0, .rw, 0x0, .any⟩]⟩,
  -- DIO_OUT_ACT
  ⟨0x24, [], .ctl, [⟨15, 0, .ro, 0x0, .any⟩]⟩,
  -- DIO_OUT_SRC
  ⟨0x28, [], .ctl, [⟨31, 0, .rw, 0x0, .any⟩]⟩,
  -- DIO_CMP_SEL
  ⟨0x30, [(0x4, 4)], .ctl, [⟨31, 0, .rw, 0x0, .any⟩]⟩,
  -- DIO_PAR
  ⟨0x40, [], .ctl, [⟨7, 0, .rw, 0x0, .any⟩]⟩,
  -- DIO_OVLD
  ⟨0x44, [], .ctl, [⟨15, 0, .ro, 0x0, .any⟩]⟩,
  -- DIO_OVLD_CLR
  ⟨0x48, [], .ctl, [⟨15, 0, .wo, 0x0, .any⟩]⟩]
/-- Register map rows of DIO, part 2. -/
def rowsDIO2 : List RegRow := [
  -- DIO_GRP_STAT
  ⟨0x50, [(0x4, 2)], .ctl, [⟨31, 31, .ro, 0x0, .any⟩, ⟨30, 30, .ro, 0x0, .any⟩, ⟨29, 29, .ro, 0x0, .any⟩, ⟨28, 28, .ro, 0x0, .any⟩, ⟨27, 27, .w1c, 0x0, .any⟩, ⟨26, 26, .w1c, 0x0, .any⟩, ⟨11, 0, .ro, 0x0, .any⟩]⟩,
  -- DIO_GRP_CTRL
  ⟨0x58, [(0x4, 2)], .ctl, [⟨31, 31, .wo, 0x0, .any⟩, ⟨0, 0, .rw, 0x0, .any⟩]⟩,
  -- DIO_LINK
  ⟨0x60, [], .ctl, [⟨31, 16, .ro, 0x0, .any⟩, ⟨1, 0, .ro, 0x0, .any⟩]⟩]
/-- The register map of DIO. -/
def rowsDIO : List RegRow := rowsDIO1 ++ rowsDIO2

/-- Register map rows of NAND, part 1. -/
def rowsNAND1 : List RegRow := [
  -- NAND_STAT
  ⟨0x0, [], .flash, [⟨31, 31, .ro, 0x0, .any⟩, ⟨30, 30, .ro, 0x0, .any⟩, ⟨29, 29, .ro, 0x0, .any⟩, ⟨28, 28, .ro, 0x0, .any⟩, ⟨7, 7, .ro, 0x0, .any⟩, ⟨6, 0, .ro, 0x0, .any⟩]⟩,
  -- NAND_ERR
  ⟨0x4, [], .flash, [⟨4, 4, .w1c, 0x0, .any⟩, ⟨3, 3, .w1c, 0x0, .any⟩, ⟨2, 2, .w1c, 0x0, .any⟩, ⟨1, 1, .w1c, 0x0, .any⟩, ⟨0, 0, .w1c, 0x0, .any⟩]⟩,
  -- NAND_CFG
  ⟨0x8, [], .flash, [⟨31, 24, .rw, 0x28, (.range 8 72)⟩, ⟨23, 16, .rw, 0x1E, (.range 1 255)⟩, ⟨15, 0, .rw, 0x32, (.range 1 60000)⟩]⟩,
  -- RD_LIMIT
  ⟨0xC, [], .flash, [⟨31, 0, .rw, 0x186A0, (.range 10000 1000000)⟩]⟩,
  -- ECC_CNT
  ⟨0x10, [], .flash, [⟨31, 16, .ro, 0x0, .any⟩, ⟨15, 0, .ro, 0x0, .any⟩]⟩,
  -- BAD_CNT
  ⟨0x14, [], .flash, [⟨31, 16, .ro, 0x0, .any⟩, ⟨15, 0, .ro, 0x0, .any⟩]⟩,
  -- DROP_CNT
  ⟨0x18, [], .flash, [⟨31, 16, .ro, 0x0, .any⟩, ⟨15, 0, .ro, 0x0, .any⟩]⟩,
  -- PART_STAT
  ⟨0x40, [(0x20, 7)], .flash, [⟨31, 24, .ro, 0x0, .any⟩, ⟨23, 12, .ro, 0x0, .any⟩, ⟨11, 0, .ro, 0x0, .any⟩]⟩,
  -- IMG_WR
  ⟨0x200, [], .flash, [⟨31, 31, .wo, 0x0, .any⟩, ⟨30, 30, .rw, 0x0, .any⟩, ⟨29, 29, .rw, 0x0, .any⟩, ⟨7, 0, .ro, 0x0, .any⟩]⟩,
  -- RD_CMD
  ⟨0x300, [], .flash, [⟨31, 31, .wo, 0x0, .any⟩, ⟨30, 30, .rw, 0x0, .any⟩, ⟨10, 0, .rw, 0x0, .any⟩]⟩,
  -- RD_RSEQ_LO
  ⟨0x304, [], .flash, [⟨31, 0, .rw, 0x0, .any⟩]⟩,
  -- RD_RSEQ_HI
  ⟨0x308, [], .flash, [⟨31, 0, .rw, 0x0, .any⟩]⟩]
/-- Register map rows of NAND, part 2. -/
def rowsNAND2 : List RegRow := [
  -- RD_STAT
  ⟨0x30C, [], .flash, [⟨31, 24, .ro, 0x0, .any⟩, ⟨23, 16, .ro, 0x0, .any⟩, ⟨7, 0, .ro, 0x0, .any⟩]⟩,
  -- CR_DATA
  ⟨0x400, [(0x4, 15)], .flash, [⟨31, 0, .rw, 0x0, .any⟩]⟩,
  -- CR_CMD
  ⟨0x440, [], .flash, [⟨31, 31, .wo, 0x0, .any⟩, ⟨30, 30, .wo, 0x0, .any⟩, ⟨1, 0, .ro, 0x0, .any⟩]⟩,
  -- DURABLE_LO
  ⟨0x44, [(0x20, 7)], .flash, [⟨31, 0, .ro, 0x0, .any⟩]⟩,
  -- DURABLE_HI
  ⟨0x48, [(0x20, 7)], .flash, [⟨31, 0, .ro, 0x0, .any⟩]⟩,
  -- OLDEST_LO
  ⟨0x4C, [(0x20, 7)], .flash, [⟨31, 0, .ro, 0x0, .any⟩]⟩,
  -- OLDEST_HI
  ⟨0x50, [(0x20, 7)], .flash, [⟨31, 0, .ro, 0x0, .any⟩]⟩]
/-- The register map of NAND. -/
def rowsNAND : List RegRow := rowsNAND1 ++ rowsNAND2

/-- Register map rows of EVT, part 1. -/
def rowsEVT1 : List RegRow := [
  -- EVT_PEND
  ⟨0x0, [(0x4, 8)], .aon, [⟨31, 0, .w1c, 0x0, .any⟩]⟩,
  -- EVT_EN
  ⟨0x20, [(0x4, 8)], .aon, [⟨31, 0, .rw, 0x0, .any⟩]⟩,
  -- EVT_SET
  ⟨0x40, [], .aon, [⟨31, 31, .wo, 0x0, .any⟩, ⟨4, 0, .wo, 0x0, .any⟩]⟩,
  -- EVT_LOCK
  ⟨0x44, [], .aon, [⟨0, 0, .rwl 0, 0x0, .any⟩]⟩,
  -- EVT_VEC_ACK
  ⟨0x48, [], .aon, [⟨31, 31, .wo, 0x0, .any⟩, ⟨4, 0, .wo, 0x0, .any⟩]⟩,
  -- EVT_ERR
  ⟨0x4C, [], .aon, [⟨0, 0, .w1c, 0x0, .any⟩]⟩,
  -- EVT_HOLDOFF
  ⟨0x100, [(0x4, 32)], .aon, [⟨15, 0, .rw, 0x0, .any⟩]⟩,
  -- EVT_ROUTE
  ⟨0x1000, [(0x4, 256)], .aon, [⟨17, 16, .rw, 0x0, (.range 0 2)⟩, ⟨15, 12, .rw, 0x0, .any⟩, ⟨11, 8, .rw, 0x0, .any⟩, ⟨4, 0, .rw, 0x0, .any⟩]⟩,
  -- MSIX_ADDR_LO
  ⟨0x8000, [(0x10, 32)], .host, [⟨31, 0, .rw, 0x0, .any⟩]⟩,
  -- MSIX_ADDR_HI
  ⟨0x8004, [(0x10, 32)], .host, [⟨31, 0, .rw, 0x0, .any⟩]⟩,
  -- MSIX_DATA
  ⟨0x8008, [(0x10, 32)], .host, [⟨31, 0, .rw, 0x0, .any⟩]⟩,
  -- MSIX_CTRL
  ⟨0x800C, [(0x10, 32)], .host, [⟨0, 0, .rw, 0x1, .any⟩]⟩]
/-- Register map rows of EVT, part 2. -/
def rowsEVT2 : List RegRow := [
  -- MSIX_PBA
  ⟨0x9000, [(0x4, 2)], .host, [⟨31, 0, .ro, 0x0, .any⟩]⟩]
/-- The register map of EVT. -/
def rowsEVT : List RegRow := rowsEVT1 ++ rowsEVT2

/-- Register map rows of PERF, part 1. -/
def rowsPERF1 : List RegRow := [
  -- PERF_CTRL
  ⟨0x0, [], .mem, [⟨31, 31, .wo, 0x0, .any⟩, ⟨30, 30, .wo, 0x0, .any⟩, ⟨21, 21, .rw, 0x0, .any⟩, ⟨20, 16, .rw, 0x10, (.range 0 18)⟩, ⟨3, 3, .rw, 0x0, .any⟩, ⟨2, 0, .rw, 0x1, .any⟩]⟩,
  -- SNAP_BASE
  ⟨0x4, [], .mem, [⟨10, 0, .rw, 0x0, .any⟩]⟩,
  -- PERF_STAT
  ⟨0x8, [], .mem, [⟨31, 16, .ro, 0x0, .any⟩, ⟨15, 0, .ro, 0x0, .any⟩]⟩,
  -- PC_LO
  ⟨0x1000, [(0x40, 25), (0x8, 8)], .mem, [⟨31, 0, .ro, 0x0, .any⟩]⟩,
  -- PC_HI
  ⟨0x1004, [(0x40, 25), (0x8, 8)], .mem, [⟨15, 0, .ro, 0x0, .any⟩]⟩,
  -- HIST_CFG
  ⟨0x2000, [(0x4, 16)], .mem, [⟨31, 31, .rw, 0x0, .any⟩, ⟨28, 24, .rw, 0x0, .any⟩, ⟨19, 16, .rw, 0x0, .any⟩]⟩,
  -- TAG_CFG
  ⟨0x3000, [(0x20, 16)], .gc 0, [⟨31, 31, .rw, 0x0, .any⟩, ⟨20, 16, .rw, 0x8, (.range 0 16)⟩, ⟨15, 0, .rw, 0x400, (.range 16 65535)⟩]⟩,
  -- TAG_PC
  ⟨0x3004, [(0x20, 16)], .gc 0, [⟨31, 31, .ro, 0x0, .any⟩, ⟨30, 30, .ro, 0x0, .any⟩, ⟨29, 29, .ro, 0x0, .any⟩, ⟨23, 16, .ro, 0x0, .any⟩, ⟨14, 0, .ro, 0x0, .any⟩]⟩,
  -- TAG_T
  ⟨0x3008, [(0x20, 16)], .gc 0, [⟨31, 0, .ro, 0x0, .any⟩]⟩,
  -- TAG_D
  ⟨0x300C, [(0x20, 16)], .gc 0, [⟨31, 0, .ro, 0x0, .any⟩]⟩,
  -- TAG_D2
  ⟨0x3010, [(0x20, 16)], .gc 0, [⟨23, 0, .ro, 0x0, .any⟩]⟩,
  -- HIST_BIN
  ⟨0x4000, [(0x100, 16), (0x4, 64)], .mem, [⟨31, 0, .ro, 0x0, .any⟩]⟩]
/-- The register map of PERF. -/
def rowsPERF : List RegRow := rowsPERF1

/-- The register map of the block whose 64 KiB window starts at `0x10000 * w` (R498). -/
def blockRows : Nat → List RegRow
  | 0x0 => rowsSYS
  | 0x1 => rowsRST
  | 0x2 => rowsCLK
  | 0x3 => rowsPWR
  | 0x10 => rowsADC
  | 0x20 => rowsPWM
  | 0x30 => rowsBLK
  | 0x40 => rowsFB
  | 0x50 => rowsCTL
  | 0x60 => rowsPRF
  | 0x70 => rowsTRJ
  | 0x80 => rowsFACE
  | 0x90 => rowsROUGH
  | 0xA0 => rowsGC
  | 0xB0 => rowsCHUCK
  | 0xC0 => rowsSAFE
  | 0xD0 => rowsPORT
  | 0xE0 => rowsSRT
  | 0xF0 => rowsTIME
  | 0x100 => rowsNET
  | 0x110 => rowsFYV
  | 0x120 => rowsDIO
  | 0x130 => rowsNAND
  | 0x140 => rowsEVT
  | 0x150 => rowsPERF
  | _ => []

/-- The indexes at which the rest `d` of an offset falls in a row's array, outermost first; `none` if it is no
register of the array. -/
def matchIdx : List (Nat × Nat) → Nat → Option (List Nat)
  | [], d => if d = 0 then some [] else none
  | (s, c) :: t, d => if d / s < c then (matchIdx t (d % s)).map (d / s :: ·) else none

/-- The first row of a map that holds a register at offset `o`, with the indexes. -/
def findRow : List RegRow → Nat → Option (RegRow × List Nat)
  | [], _ => none
  | r :: t, o =>
    if o < r.off then findRow t o
    else match matchIdx r.idx (o - r.off) with
      | some ix => some (r, ix)
      | none => findRow t o

/-- The row of the register at byte offset `a` of BAR0. -/
def rowAt (a : Nat) : Option (RegRow × List Nat) := findRow (blockRows (a / 0x10000)) (a % 0x10000)

/-- The word that the Reset column of a row gives. -/
def RegRow.word (r : RegRow) : Nat := r.fields.foldl (fun w f => w + f.reset * 2 ^ f.lo) 0

end Sys2Proof.Machine
end

