-- ==== Sys2Proof/Machine/State.lean ====
section
/-!
DEFINITION. The machine's state: every register of the register map (one sparse map by BAR0 byte offset), every memory
(one sparse map by byte), the state of each block that no register shows, the non-volatile option area, the
per-requester read latches, and the queue of commands that wait.
-/
namespace Sys2Proof.Machine
open Sys2Proof

/-- Nothing in this model stops with a fault: every command of the table either has its effect or is answered as the
spec says a request that cannot be served is answered (an error response, a refusal code, no effect). -/
inductive Fault
  deriving DecidableEq, Repr

/-- Why a command has no meaning. -/
inductive Refusal
  /-- Raised by Dispatch.lean for a command that has no meaning yet; safe: the machine stops. -/
  | notModelled (mnemonic : String)
  deriving DecidableEq, Repr

/-- The state of the module. -/
structure State where
  /-- Every register, by byte offset in BAR0 (R498); an unlisted register holds its reset value. -/
  regs : Sparse Word
  /-- Every memory, by byte; an unlisted byte reads 0 (log entry 5). -/
  mem : Memory
  /-- Per-requester latches (R8, R435), keyed by requester code × 2^32 + register offset. -/
  latches : Sparse Nat
  /-- Per-requester registers (ENQ_DESC, ENQ_STAT, NET_TX_STAT), keyed in the same way. -/
  perReq : Sparse Nat
  /-- Option and trim area, copies A and B (R551): not touched by any reset. -/
  optA : OptArea
  optB : OptArea
  /-- grain image loader, patch engine, mode machine (SYS) -/
  sys : SysH
  /-- reset sequencer (RST) -/
  rst : RstH
  /-- clock tree (CLK) -/
  clk : ClkH
  /-- power states, ledger, thermal monitor (PWR) -/
  pwr : PwrH
  /-- sampling (ADC) -/
  adc : AdcH
  /-- pulse generation (PWM) -/
  pwm : PwmH
  /-- brick links (BLK) -/
  blk : BlkH
  /-- feedback and compare (FB) -/
  fb : FbH
  /-- control engine (CTL) -/
  ctl : CtlH
  /-- profile generators and steppers (PRF) -/
  prf : PrfH
  /-- trajectory run-ahead (TRJ) -/
  trj : TrjH
  /-- Faceplate (FACE) -/
  face : FaceH
  /-- Roughing stage (ROUGH) -/
  rough : RoughH
  /-- gouge cores (GC) -/
  gc : GcH
  /-- Chuck scheduler (CHUCK) -/
  chuck : ChuckH
  /-- safety channels (SAFE) -/
  safe : SafeH
  /-- portals (PORT) -/
  port : PortH
  /-- Sertik (SRT) -/
  srt : SrtH
  /-- device time (TIME) -/
  time : TimeH
  /-- Ethernet (NET) -/
  net : NetH
  /-- pair and cascade (FYV) -/
  fyv : FyvH
  /-- field I/O (DIO) -/
  dio : DioH
  /-- flash (NAND) -/
  nand : NandH
  /-- events (EVT) -/
  evt : EvtH
  /-- counters (PERF) -/
  perf : PerfH
  /-- The content of the image in force, as applied (R41). -/
  cfg : Cfg
  /-- The model's own: how the last access was answered (log entry 3). -/
  resp : Answer
  /-- The model's own: index of the next free value (log entry 2). -/
  freeN : Nat
  /-- Commands that wait, first in, first out. -/
  pending : List Instr
  deriving DecidableEq, Repr

/-- The option area as the factory writes it: a good copy whose only value the spec states is RST_GAP = 0x0100 (log
entry 4). -/
def OptArea.factory : OptArea := { (default : OptArea) with good := true, gap := 0x100 }

/-- The module right after a power-on reset: AON released, the mode M0, the option load under way, every other domain
held (R548); every register at its Reset column. -/
def State.reset : State where
  regs := ⟨[]⟩
  mem := ⟨[]⟩
  latches := ⟨[]⟩
  perReq := ⟨[]⟩
  optA := OptArea.factory
  optB := OptArea.factory
  sys := { (default : SysH) with bootPend := true }
  rst := { (default : RstH) with seq := [1, 2, 12, 3, 4, 14, 11, 6, 5, 7, 8, 9, 10, 13, 15], reach := 0xFFFF, size := 16, cause := 1 }
  clk := default
  pwr := default
  adc := default
  pwm := default
  blk := default
  fb := default
  ctl := default
  prf := default
  trj := default
  face := default
  rough := default
  gc := default
  chuck := default
  safe := default
  port := default
  srt := default
  time := default
  net := default
  fyv := default
  dio := default
  nand := default
  evt := default
  perf := default
  cfg := default
  resp := .nothing
  freeN := 0
  pending := []

end Sys2Proof.Machine
end

