-- ==== Sys2Proof/Machine/Ops.lean ====
section
/-!
DEFINITION. The named operations that every block's meaning is written with: reading and writing registers and their
fields, memories, device time, events, counters, power domains and the answers on the register bus.
-/
namespace Sys2Proof.Machine
open Sys2Proof

/-! ### Registers -/

/-- Bits `hi:lo` of a word, as a number. -/
def bitsOf (v : Word) (hi lo : Nat) : Nat := v.toNat / 2 ^ lo % 2 ^ (hi + 1 - lo)

/-- A word with bits `hi:lo` replaced by `n` (modulo their width). -/
def putBits (v : Word) (hi lo n : Nat) : Word :=
  w32 (v.toNat - bitsOf v hi lo * 2 ^ lo + n % 2 ^ (hi + 1 - lo) * 2 ^ lo)

/-- The value of a register after a reset that reaches its domain: the Reset column, and the resets that depend on the
instance (EVT_EN[5], EVT_ROUTE[160..175], GC_PC, the strap of CHIP_ID.VARIANT; log entry 4). -/
def regReset (a : Nat) : Word :=
  if a = EVT.EVT_EN 5 then 0x0000FFFF
  else if EVT.EVT_ROUTE 160 ≤ a ∧ a ≤ EVT.EVT_ROUTE 175 then w32 (0x20000 + (a - EVT.EVT_ROUTE 160) / 4 * 0x100)
  else if a = SYS.CHIP_ID then 0x64081110
  else match rowAt a with
    | some (r, _) =>
      if r.off = 0x8 ∧ a / 0x10000 = 0xA0 then 0x00004000 else w32 r.word
    | none => 0

/-- The stored word of the register at byte offset `a` of BAR0. -/
def State.rd (s : State) (a : Nat) : Word := s.regs.getD a (regReset a)

/-- The state with the register at `a` holding `v`. -/
def State.wr (s : State) (a : Nat) (v : Word) : State := { s with regs := s.regs.put a v (regReset a) }

/-- A register as an unsigned number. -/
def State.rdN (s : State) (a : Nat) : Nat := (s.rd a).toNat

/-- A register as a signed number. -/
def State.rdI (s : State) (a : Nat) : Int := (s.rd a).toInt

/-- A register set to a number modulo 2^32. -/
def State.wrN (s : State) (a n : Nat) : State := s.wr a (w32 n)

/-- A register set to a signed number modulo 2^32. -/
def State.wrI (s : State) (a : Nat) (n : Int) : State := s.wr a (BitVec.ofInt 32 n)

/-- A field of a register. -/
def State.f (s : State) (l : Loc) : Nat := bitsOf (s.rd l.addr) l.hi l.lo

/-- A one-bit field (or: a field that is not 0). -/
def State.b (s : State) (l : Loc) : Bool := s.f l != 0

/-- The state with one field replaced, modulo its width. -/
def State.set (s : State) (l : Loc) (n : Nat) : State := s.wr l.addr (putBits (s.rd l.addr) l.hi l.lo n)

/-- The state with a one-bit field set or cleared. -/
def State.setB (s : State) (l : Loc) (b : Bool) : State := s.set l b.toNat

/-- The largest value of a field. -/
def Loc.max (l : Loc) : Nat := 2 ^ (l.hi + 1 - l.lo) - 1

/-- A counter field advanced by `k`, modulo its width. -/
def State.inc (s : State) (l : Loc) (k : Nat := 1) : State := s.set l (s.f l + k)

/-- A counter field advanced by `k`, saturating. -/
def State.sat (s : State) (l : Loc) (k : Nat := 1) : State := s.set l (min (s.f l + k) l.max)

/-- Bit `i` of a number. -/
def bit (n i : Nat) : Bool := n / 2 ^ i % 2 == 1

/-- A number with bit `i` set to `b`. -/
def setBit (n i : Nat) (b : Bool) : Nat :=
  if b then (if bit n i then n else n + 2 ^ i) else (if bit n i then n - 2 ^ i else n)

/-- Bit `i` of a field. -/
def State.fbit (s : State) (l : Loc) (i : Nat) : Bool := bit (s.f l) i

/-- The state with bit `i` of a field set to `b`. -/
def State.setBitF (s : State) (l : Loc) (i : Nat) (b : Bool) : State := s.set l (setBit (s.f l) i b)

/-- `f` applied to the state only if `c`. -/
def State.iff (s : State) (c : Bool) (f : State → State) : State := if c then f s else s

/-- The state after `f` has been applied for every number of a list, in order. -/
def State.each {α : Type} (s : State) (l : List α) (f : α → State → State) : State := l.foldl (fun t x => f x t) s

/-- A two's complement number of `w` bits read from its unsigned value. -/
def sxN (w n : Nat) : Int := if n % 2 ^ w < 2 ^ (w - 1) then (n % 2 ^ w : Nat) else (n % 2 ^ w : Nat) - (2 ^ w : Nat)

/-- The unsigned value of a signed number modulo 2^w. -/
def uN (w : Nat) (i : Int) : Nat := (i % (2 ^ w : Nat)).toNat

/-- A signed number limited to `lo ≤ x ≤ hi`. -/
def clampI (lo hi x : Int) : Int := if x < lo then lo else if hi < x then hi else x

/-- A signed number limited to the range of `w`-bit two's complement. -/
def satI (w : Nat) (x : Int) : Int := clampI (-(2 ^ (w - 1) : Nat)) ((2 ^ (w - 1) : Nat) - 1) x

/-- Division by a positive number, rounded to nearest, ties to even. -/
def rdiv (x : Int) (d : Nat) : Int :=
  have q := x / (d : Int)
  have r := x % (d : Int)
  if 2 * r < d then q else if (d : Int) < 2 * r then q + 1 else if q % 2 = 0 then q else q + 1

/-- Division by 2^k, rounded to nearest, ties to even (convergent rounding). -/
def rshr (x : Int) (k : Nat) : Int := rdiv x (2 ^ k)

/-! ### Free values (log entry 2) -/

/-- A fresh free value of `w` bits, and the state with the counter advanced. -/
def State.fresh (s : State) (w : Nat) : Nat × State :=
  ((Config.freeValue s.freeN).toNat % 2 ^ w, { s with freeN := s.freeN + 1 })

/-! ### Memories -/

/-- One byte of a memory: BAR0 windows at their own offsets, the shared memory window at 2^32, the upper half of the
retained SRAM at 2^33, core boot ROMs at 2^34 (log entry 5). An unlisted byte reads 0 (log entry 5). -/
def State.ldb (s : State) (a : Nat) : Nat := (s.mem.getD a 0).toNat

/-- One byte of memory written. -/
def State.stb (s : State) (a v : Nat) : State := { s with mem := s.mem.put a (b8 v) 0 }

/-- `n` bytes from `a`, little-endian, as a number. -/
def State.ldn (s : State) (a : Nat) : Nat → Nat
  | 0 => 0
  | n + 1 => s.ldb a + 256 * s.ldn (a + 1) n

/-- A number written to `n` bytes from `a`, little-endian. -/
def State.stn (s : State) (a : Nat) : Nat → Nat → State
  | 0, _ => s
  | n + 1, v => (s.stb a (v % 256)).stn (a + 1) n (v / 256)

/-- `n` bytes from `a` as a list. -/
def State.bytes (s : State) (a : Nat) : Nat → List Byte
  | 0 => []
  | n + 1 => s.mem.getD a 0 :: s.bytes (a + 1) n

/-- A list of bytes written from `a` on. -/
def State.putBytes (s : State) (a : Nat) : List Byte → State
  | [] => s
  | x :: t => (s.stb a x.toNat).putBytes (a + 1) t

/-- A little-endian number of the first `n` bytes of a list from offset `o` (missing bytes count 0). -/
def leAt (l : List Byte) (o : Nat) : Nat → Nat
  | 0 => 0
  | n + 1 => (l.getD o 0).toNat + 256 * leAt l (o + 1) n

/-- The `n` bytes of a number, little-endian. -/
def toLE : Nat → Nat → List Byte
  | 0, _ => []
  | n + 1, v => b8 v :: toLE n (v / 256)

/-- CRC-32C (R34), reflected polynomial 0x82F63B78: one bit step. -/
def crcStep (c : Nat) : Nat := if c % 2 = 1 then (c / 2) ^^^ 0x82F63B78 else c / 2

/-- CRC-32C: one byte into the running value. -/
def crcByte (c : Nat) (x : Byte) : Nat :=
  crcStep (crcStep (crcStep (crcStep (crcStep (crcStep (crcStep (crcStep (c ^^^ x.toNat))))))))

/-- CRC-32C of a byte string: initial value and final XOR 0xFFFF_FFFF (R34). -/
def crc32c (l : List Byte) : Nat := l.foldl crcByte 0xFFFFFFFF ^^^ 0xFFFFFFFF

/-- First byte of buffer `b` of the shared memory window in `mem`. -/
def smwAt (b : Nat) : Nat := 0x100000000 + 4096 * b

/-! ### Device time (R432-R434) -/

/-- Whole nanoseconds of DT since 0 s 0 ns. -/
def State.ns (s : State) : Nat := s.time.dt / 2 ^ 32

/-- Microseconds and milliseconds in ns. -/
def us (n : Nat) : Nat := 1000 * n
def ms (n : Nat) : Nat := 1000000 * n

/-- NS32 (R434). -/
def State.ns32 (s : State) : Nat := s.ns % 2 ^ 32

/-- Signed 32-bit difference of two NS32 values (R434). -/
def ns32Diff (a b : Nat) : Int := sxN 32 (uN 32 ((a : Int) - (b : Int)))

/-! ### Domains (R558) and blocks (R511) -/

def pdAON : Nat := 0
def pdDEAD : Nat := 1
def pdLIVE : Nat := 2
def pdCTL : Nat := 3
def pdADC : Nat := 4
def pdFACE : Nat := 5
def pdROUGH : Nat := 6
def pdGC (c : Nat) : Nat := 7 + c
def pdMEM : Nat := 11
def pdTIME : Nat := 12
def pdHOST : Nat := 13
def pdLINK : Nat := 14
def pdFLASH : Nat := 15

/-- The block index of R511 of the block whose window starts at `0x10000 * w`. -/
def blkOfWin (w : Nat) : Nat := if w < 4 then w else w / 16 + 3

/-- The power domain that a register access at BAR0 offset `a` goes to (R558, and the cores' clusters). -/
def domOfAddr (a : Nat) : Nat :=
  have w := a / 0x10000
  have o := a % 0x10000
  if w < 4 then pdAON
  else match w / 16 with
    | 1 => pdADC | 2 => pdCTL | 3 => pdLINK | 4 => pdCTL | 5 => pdCTL | 6 => pdCTL | 7 => pdCTL
    | 8 => pdFACE | 9 => pdROUGH
    | 10 => if 0xF000 ≤ o then pdAON else pdGC (o / 0x2000 % 4)
    | 11 => pdMEM | 12 => pdDEAD | 13 => pdCTL | 14 => pdLINK | 15 => pdTIME | 16 => pdHOST | 17 => pdLINK
    | 18 => pdCTL | 19 => pdFLASH
    | 20 => if 0x8000 ≤ o then pdHOST else pdAON
    | 21 => if 0x3000 ≤ o ∧ o < 0x3200 then pdGC ((o - 0x3000) / 0x80) else pdMEM
    | 32 => pdMEM | 33 => pdMEM | 34 => pdMEM | 35 => pdMEM
    | 36 => pdCTL
    | n => if 40 ≤ n ∧ n < 48 then pdGC ((a - 0x2800000) / 0x200000 % 4) else if 64 ≤ n then pdMEM else pdAON

/-- PD[d] is released from reset (RST_STAT.RELEASED). -/
def State.released (s : State) (d : Nat) : Bool := s.fbit RST.RST_STAT'RELEASED d

/-- PD[d] answers requests: released and powered (R497, PWR_STAT.DOM_ON). -/
def State.domOn (s : State) (d : Nat) : Bool := s.released d && s.fbit PWR.PWR_STAT'DOM_ON d

/-! ### Counters (R511) and events (R504) -/

/-- PC[b][c] advanced by `k`, modulo 2^48. -/
def State.count (s : State) (b c : Nat) (k : Nat := 1) : State :=
  { s with perf := { s.perf with pc := s.perf.pc.set (8 * b + c) ((s.perf.pc.get (8 * b + c) + k) % 2 ^ 48) } }

/-- A unit of the block's work (counter 6). -/
def State.work (s : State) (b : Nat) (k : Nat := 1) : State := s.count b 6 k

/-- A refusal of the block (counter 7). -/
def State.refusal (s : State) (b : Nat) : State := s.count b 7

/-- The block that raises an event (R505). -/
def evtBlk (e : Nat) : Nat :=
  if e < 8 then 0 else if e = 8 then 1 else if e = 9 then 2 else if e < 16 then 3 else if e < 24 then 4
  else if e < 32 then 5 else if e < 40 then 6 else if e < 48 then 7 else if e < 56 then 8 else if e < 64 then 9
  else if e < 72 then 10 else if e < 80 then 11 else if e < 112 then 13 else if e < 176 then 14
  else if e < 184 then 15 else if e < 192 then 16 else if e < 200 then 17 else if e < 204 then 18
  else if e < 208 then 19 else if e < 216 then 20 else if e < 220 then 21 else if e < 224 then 22
  else if e < 232 then 24 else 23

/-- EVT[e] is pending. -/
def State.evtPending (s : State) (e : Nat) : Bool := bit (s.rdN (EVT.EVT_PEND (e / 32))) (e % 32)

/-- EVT[e] is enabled. -/
def State.evtEnabled (s : State) (e : Nat) : Bool := bit (s.rdN (EVT.EVT_EN (e / 32))) (e % 32)

/-- EVT[e] is the trigger that an armed ADC capture waits for (R81). -/
def State.capEvent (s : State) (e : Nat) : Bool :=
  s.f ADC.CAP_STAT'STATE == 2 && s.f ADC.CAP_CTRL'TRIG_SRC == 1 && s.f ADC.CAP_CTRL'TRIG_SEL == e

/-- EVT[e] is the trigger that an armed engine capture waits for (R179). -/
def State.ccEvent (s : State) (e : Nat) : Bool :=
  s.f CTL.CCAP_STAT'STATE == 2 && s.f CTL.CCAP_CTRL'TRIG_SRC == 2 && s.f CTL.CCAP_CTRL'TRIG_SEL == e

/-- In P1 the clock of the domain runs again from the request on (R561). -/
def State.wakeClock (s : State) (d : Nat) : State :=
  if s.f PWR.PWR_STAT'STATE = 1 ∧ (7 ≤ d ∧ d ≤ 10 ∨ d = pdFACE ∨ d = pdROUGH ∨ d = pdHOST) then
    { s with pwr := { s.pwr with restarted := setBit s.pwr.restarted d true, reqAt := s.pwr.reqAt.set d (s.ns + 1) } } else s

/-- An event that is enabled and routed to a core restarts the core's clock (R506, R561). -/
def State.wakeCore (s : State) (e : Nat) : State :=
  if s.evtEnabled e ∧ s.f (EVT.EVT_ROUTE'KIND e) = 2 then s.wakeClock (pdGC (s.f (EVT.EVT_ROUTE'CORE e) / 4)) else s

/-- Raise EVT[e]: its pending bit is set; raising a pending event changes nothing but the block's count (R504,
R511). A capture that waits for the event takes it as its trigger. -/
def State.raise (s : State) (e : Nat) : State :=
  have t := s.count (evtBlk e) 5
  if t.evtPending e then t
  else
    have t := (t.wrN (EVT.EVT_PEND (e / 32)) (setBit (t.rdN (EVT.EVT_PEND (e / 32))) (e % 32) true)).wakeCore e
    { t with evt := { t.evt with raisedAt := t.evt.raisedAt.set e (t.ns + 1), capTrig := t.evt.capTrig || s.capEvent e, ccTrig := t.evt.ccTrig || s.ccEvent e } }

/-- A histogram sample (R515): bin min(63, value / 2^SHIFT), saturating. -/
def State.hist (s : State) (h v : Nat) : State :=
  if s.b (PERF.HIST_CFG'EN h) then
    have k := min 63 (v / 2 ^ s.f (PERF.HIST_CFG'SHIFT h))
    s.wrN (PERF.HIST_BIN h k) (min (s.rdN (PERF.HIST_BIN h k) + 1) (2 ^ 32 - 1))
  else s

/-- The mode in force (R518). -/
def State.mode (s : State) : Nat := s.f SYS.MODE_STAT'MODE

/-- The generator of boundaries runs (R21). -/
def State.cycRun (s : State) : Bool := s.b SYS.CYCLE_CFG'CYC_RUN

/-- A grain image is in force (R41). -/
def State.imgValid (s : State) : Bool := s.b SYS.IMG_STAT'VALID

/-- T0 in ns (R18, R19). -/
def State.t0 (s : State) : Nat := 50000 / max 1 (s.f SYS.CYCLE_CFG'L0_DIV)

/-! ### Requesters and the register bus -/

/-- Requester codes of R310: 0x00-0x0F cores, 0x10 host, 0x13 live centre. -/
def reqCode : Req → Nat
  | .core n => n
  | .host => 0x10
  | .live => 0x13

/-- The requester is the supervisor core named in GC_SUPV (R519). -/
def State.isSupv (s : State) (w : Req) : Bool :=
  match w with
  | .core n => s.b GC.GC_SUPV'EN && s.f GC.GC_SUPV'CORE == n.val
  | _ => false

/-- The host, or the supervisor core named in GC_SUPV. -/
def State.hostOrSupv (s : State) (w : Req) : Bool := w == .host || s.isSupv w

/-- With HOST_PROXY = 1 the supervisor core counts as HOST for the requests of R510. -/
def State.actsAsHost (s : State) (w : Req) : Bool := w == .host || (s.isSupv w && s.b SYS.HOST_CFG'HOST_PROXY)

/-- The answer given to the last access (log entry 3). -/
def State.answer (s : State) (r : Answer) : State := { s with resp := r }

/-- The register access error event, recorded in ACC_ERR_ADDR and ACC_ERR_INFO if nothing is recorded (R497). -/
def State.accError (s : State) (w : Req) (a : Nat) (write : Bool) (kind : Nat) : State :=
  have t := if s.b SYS.ACC_ERR_INFO'VALID then s else
    (((((s.wrN SYS.ACC_ERR_ADDR a).set SYS.ACC_ERR_INFO'VALID 1).set SYS.ACC_ERR_INFO'REQUESTER (reqCode w)).setB
      SYS.ACC_ERR_INFO'WRITE write).set SYS.ACC_ERR_INFO'KIND kind)
  t.raise 0

/-- The error response that a requester gets: Completer Abort for the host, bus error for a core (R497). -/
def errAnswer (w : Req) : Answer := match w with | .host => .completerAbort | _ => .busError

/-- An access to a domain that is off or held in reset (R497). -/
def State.domainOff (s : State) (w : Req) (a : Nat) (write : Bool) : State :=
  ((s.accError w a write 2).count (blkOfWin (a / 0x10000)) 4).answer (errAnswer w)

/-- Host writes over PCIe are ignored while HOST_PROXY = 1 (R510). -/
def State.hostMuted (s : State) (w : Req) : Bool := w == .host && s.b SYS.HOST_CFG'HOST_PROXY

/-- A write command at register `a`: refused by the bus where the requester's access cannot reach the block (D3hot,
R496; host writes under HOST_PROXY, R510; domain off, R497), else counted and performed. -/
def State.regCmd (s : State) (w : Req) (a : Nat) (k : State → State) : State :=
  if w = .host ∧ s.evt.d3 then s.answer .unsupported
  else if s.hostMuted w then s.answer .nothing
  else if !s.domOn (domOfAddr a) then s.domainOff w a true
  else k (((s.wakeClock (domOfAddr a)).count (blkOfWin (a / 0x10000)) 3).answer .nothing)

/-- A read command at register `a`, answered by `k`. -/
def State.regRead (s : State) (w : Req) (a : Nat) (k : State → State) : State :=
  if w = .host ∧ s.evt.d3 then s.answer .unsupported
  else if !s.domOn (domOfAddr a) then s.domainOff w a false
  else k ((s.wakeClock (domOfAddr a)).count (blkOfWin (a / 0x10000)) 3)

/-- A per-requester latch (R8, R435): the value that requester `w` has latched for the register at `a`. -/
def State.latched (s : State) (w : Req) (a : Nat) : Nat := s.latches.get ((reqCode w) * 2 ^ 32 + a)

/-- Set a per-requester latch. -/
def State.latch (s : State) (w : Req) (a v : Nat) : State :=
  { s with latches := s.latches.set ((reqCode w) * 2 ^ 32 + a) v }

/-! ### SMW buffer flags (R310) -/

def ownHOST : Nat := 0x10
def ownDEVICE : Nat := 0x11

/-- The owner of buffer `b`. -/
def State.owner (s : State) (b : Nat) : Nat := s.f (CHUCK.SMW_FLAG'OWNER b)

/-- A buffer passes to `dst`: PREV takes the old owner and PASS_CNT advances (R312). -/
def State.passBuf (s : State) (b dst : Nat) : State :=
  have o := s.owner b
  ((s.set (CHUCK.SMW_FLAG'PREV b) o).set (CHUCK.SMW_FLAG'OWNER b) dst).inc (CHUCK.SMW_FLAG'PASS_CNT b)

/-- A buffer returns to its previous owner. -/
def State.returnBuf (s : State) (b : Nat) : State := s.passBuf b (s.f (CHUCK.SMW_FLAG'PREV b))

/-- Numbers 0 to n − 1. -/
def upto (n : Nat) : List Nat := List.range n

/-! ### Plain register writes (R6, R9) -/

/-- The value that a write of `n` leaves in an RW field that held `old` (R9, and the ranges and clamps that the
descriptions state). -/
def Valid.apply (c : Valid) (old n : Nat) : Nat :=
  match c with
  | .any => n
  | .range lo hi => if lo ≤ n ∧ n ≤ hi then n else old
  | .among vs => if vs.contains n then n else old
  | .clampTo hi => min n hi

/-- One field of a plain write of `v` to a register that held `old`, into the word `acc` (R6). -/
def FieldRow.write (f : FieldRow) (old v acc : Word) : Word :=
  have o := bitsOf old f.hi f.lo
  have n := bitsOf v f.hi f.lo
  match f.acc with
  | .rw => putBits acc f.hi f.lo (f.valid.apply o n)
  | .w1c => putBits acc f.hi f.lo (o &&& (2 ^ (f.hi + 1 - f.lo) - 1 - n))
  | .rwl lock => if bit old.toNat lock then acc else putBits acc f.hi f.lo (f.valid.apply o n)
  | .ro => acc
  | .wo => acc

/-- The word that a plain write of `v` leaves in a register of row `r` that held `old`. -/
def RegRow.write (r : RegRow) (old v : Word) : Word := r.fields.foldl (fun acc f => f.write old v acc) old

/-- A plain write: by the access codes of the register's row; ignored where no register stands (R7). -/
def State.plainWrite (s : State) (a : Nat) (v : Word) : State :=
  match rowAt a with
  | some (r, _) => s.wr a (r.write (s.rd a) v)
  | none => s

end Sys2Proof.Machine
end

