-- ==== Sys2Proof/Machine/Ledger.lean ====
section
/-!
DEFINITION. The power ledger (R563-R566): requests, grants and releases of tokens.
-/
namespace Sys2Proof.Machine
open Sys2Proof

/-- The effective budget (R564). -/
def State.budget (s : State) : Nat :=
  have b := min (s.f PWR.LEDGER_CFG'BUDGET) (s.f PWR.LEDGER_CFG'HOST_CAP)
  if s.b PWR.THERM_STAT'THROTTLE then min b (s.f PWR.THROT_TOK'THROT_TOK) else b

/-- Tokens granted. -/
def State.ledgerUsed (s : State) : Nat := (s.pwr.holding.map (·.tok)).sum

/-- The ledger registers show the ledger. -/
def State.ledgerSync (s : State) : State :=
  have t := ((s.set PWR.LEDGER_STAT'EFFECTIVE s.budget).set PWR.LEDGER_STAT'USED s.ledgerUsed).set
    PWR.LEDGER_STAT'WAITING (min s.pwr.waiting.length 1023)
  t.each (upto 7) fun c t =>
    (t.set (PWR.LEDGER_CLASS'HELD c) ((t.pwr.holding.filter (·.cls == c)).map (·.tok)).sum).set
      (PWR.LEDGER_CLASS'WAITING c) (min (t.pwr.waiting.filter (·.cls == c)).length 255)

/-- The first waiting request in class order, first-come within a class (R565). -/
def firstWaiting : List LedReq → Option LedReq
  | [] => none
  | r :: t => match firstWaiting t with
    | none => some r
    | some q => if q.cls < r.cls then some q else some r

/-- The waiting requests that the tokens now free admit, in order, beside `used`: LEDGER_GRANT grants them one by one, and
their tokens are theirs from the release on (R565). -/
def ledgerDue (budget : Nat) : Nat → Nat → List LedReq → List LedReq
  | 0, _, _ => []
  | n + 1, used, l => match firstWaiting l with
    | none => []
    | some r => if used + r.tok ≤ budget then r :: ledgerDue budget n (used + r.tok) (l.erase r) else []

/-- A request (R565): granted at once when it fits and no request of the same or a higher class waits, those apart whose
grant is due; otherwise it waits, DEFER_CNT advances and EVT[11] is raised. The answer says whether it was granted. -/
def State.ledgerRequest (s : State) (cls id tok : Nat) : Bool × State :=
  have due := ledgerDue s.budget s.pwr.waiting.length s.ledgerUsed s.pwr.waiting
  if s.ledgerUsed + (due.map (·.tok)).sum + tok ≤ s.budget ∧ s.pwr.waiting.all (fun r => cls < r.cls || due.contains r) then
    have t := { s with pwr := { s.pwr with holding := s.pwr.holding ++ [LedHold.mk cls id tok] } }
    (true, (t.inc PWR.LEDGER_CNT'GRANT_CNT).ledgerSync)
  else
    have t := { s with pwr := { s.pwr with waiting := s.pwr.waiting ++ [LedReq.mk cls id tok s.ns] } }
    have t := ((t.sat PWR.LEDGER_CNT'DEFER_CNT).iff (decide (s.budget < tok)) (·.set PWR.LEDGER_ERR'OVERSIZE 1))
    (false, (t.raise 11).ledgerSync)

/-- The tokens of an operation are released (R563). -/
def State.ledgerRelease (s : State) (cls id : Nat) : State :=
  { s with pwr := { s.pwr with holding := s.pwr.holding.filter (fun h => !(h.cls == cls && h.id == id)) } }.ledgerSync

/-- A waiting request is withdrawn. -/
def State.ledgerCancel (s : State) (cls id : Nat) : State :=
  { s with pwr := { s.pwr with waiting := s.pwr.waiting.filter (fun h => !(h.cls == cls && h.id == id)) } }.ledgerSync

/-- The operation holds its tokens. -/
def State.ledgerHolds (s : State) (cls id : Nat) : Bool := s.pwr.holding.any (fun h => h.cls == cls && h.id == id)

/-- The first waiting request is granted if it fits; it stops every other grant if it does not (R565). Histogram 14
takes its waiting time. -/
def State.ledgerGrant (s : State) : Option LedReq × State :=
  match firstWaiting s.pwr.waiting with
  | none => (none, s)
  | some r =>
    if s.ledgerUsed + r.tok ≤ s.budget then
      have t := { s with pwr := { s.pwr with
        waiting := s.pwr.waiting.erase r, holding := s.pwr.holding ++ [LedHold.mk r.cls r.id r.tok] } }
      (some r, ((t.inc PWR.LEDGER_CNT'GRANT_CNT).hist 14 ((s.ns - r.atNs) / 1000)).ledgerSync)
    else (none, s.iff (decide (s.budget < r.tok)) (·.set PWR.LEDGER_ERR'OVERSIZE 1))

end Sys2Proof.Machine
end

