-- ==== Sys2Proof/Machine/Adc.lean ====
section
/-!
DEFINITION. Current and voltage sampling (spec/03_analog_sampling.md): freezes and burst results, channel
configuration, reference buffer, converter rotation, system calibration, comparators, capture.
-/
namespace Sys2Proof.Machine
open Sys2Proof

/-- State of channel `c`. -/
def State.ach (s : State) (c : Nat) : AdcCh := s.adc.ch.get c

def State.setAch (s : State) (c : Nat) (x : AdcCh) : State := { s with adc := { s.adc with ch := s.adc.ch.set c x } }

/-- CH_CFG in force for conversions: the word taken at the last L0 boundary (R58). -/
def State.effCfg (s : State) (c : Nat) : Word :=
  if (s.ach c).loaded then w32 (s.ach c).cfg else regReset (ADC.CH_CFG c)

/-- CH_COEF in force. -/
def State.effCoef (s : State) (c : Nat) : Word := if (s.ach c).loaded then w32 (s.ach c).coef else 0

/-- The channel is a phase-current input of an axis (R62). -/
def State.ainAssigned (s : State) (c : Nat) : Bool :=
  s.cfg.axes.any (fun a => a.used && (a.ainA == c || a.ainB == c))

/-- A converter is out of service: out for a rotation step, or failed (R67, R71, R72). -/
def State.convOut (s : State) : Bool := s.b ADC.ADC_STAT'ROT_ACTIVE || s.b ADC.ADC_STAT'CONV_FAILED

/-- The converters in service, in ascending number (R50). -/
def State.serving (s : State) : List Nat :=
  if s.convOut then (upto 8).filter (fun i => i != s.f ADC.ADC_STAT'OUT_CONV) else upto 8

/-- The correction (offset, gain) of converter `i`. -/
def State.convCorr (s : State) (i : Nat) : Int × Int :=
  (sxN 16 (s.f (ADC.CONV_CORR'OFS_CORR i)), sxN 16 (s.f (ADC.CONV_CORR'GAIN_CORR i)))

/-- A raw code after converter correction (R55; log entry 8). -/
def convCorrected (raw : Int) (k : Int × Int) : Int := if k.1 = 0 ∧ k.2 = 0 then raw else Config.convCorr raw k.1 k.2

/-- VALUE before saturation: round((4 × raw′ − O) × (65 536 + G) / 65 536), convergent (R55). -/
def chanValue (raw4 g o : Int) : Int := rdiv ((raw4 - o) * (65536 + g)) 65536

/-- One channel of a freeze (R54, R55, R59, R60). -/
def State.freezeCh (s : State) (c : Nat) (raw : Int) (k : Int × Int) : FrzCh :=
  have x := s.ach c
  have coef := s.effCoef c
  have r4 := 4 * convCorrected raw k
  have v := chanValue r4 (sxN 16 (bitsOf coef 31 16)) (sxN 16 (bitsOf coef 15 0))
  { raw4 := r4, val := satI 16 v, clip := satI 16 v != v || raw == -8192 || raw == 8191
    use := x.disc == 0, settling := decide (0 < x.settle) }

/-- DT moves to the first CTL edge at or after an instant (R433); set by Time.lean's arithmetic. -/
def dtIncr (rate : Int) : Nat :=
  have num := 10737418240 * (2 ^ 40 + rate)
  have q := (num / 2 ^ 40).toNat
  if num % 2 ^ 40 = 0 then q else q + (Config.dtIncrUp rate).toNat

/-- The rate that a slew in progress adds, in 2^-40 (R438): what RATE holds beyond RATE_ADJ, in the ramp of R421 too. -/
def State.slewRate (s : State) : Int :=
  if s.time.slewLeft = 0 ∨ s.time.slewing = 0 then 0 else s.time.rate - s.rdI TIME.RATE_ADJ

/-- `n` CTL edges pass (R432): DT advances and a slew in progress is consumed, never beyond its end. -/
def State.edges (s : State) (n : Nat) : State :=
  have s := { s with time := { s.time with ticks := s.time.ticks + n } }
  if !s.domOn pdTIME then s else
  have used := (n : Int) * 10737418240 * s.slewRate / 2 ^ 40
  have left := if 0 < s.time.slewLeft then max 0 (s.time.slewLeft - used) else if s.time.slewLeft < 0 then min 0 (s.time.slewLeft - used) else 0
  have t := { s with time := { s.time with dt := s.time.dt + n * dtIncr s.time.rate, slewLeft := left } }
  if s.time.slewLeft = 0 then t else t.wrI TIME.SLEW_LEFT (rdiv left (2 ^ 32))

/-- DT advances to the first CTL edge at which it is at or past `d`, in 2^-32 ns (R433). -/
def State.advanceDt (s : State) (d : Nat) : State :=
  have inc := max 1 (dtIncr s.time.rate)
  if d ≤ s.time.dt then s else s.edges ((d - s.time.dt + inc - 1) / inc)

/-- DT advances to the first CTL edge at which it is at or past `x` ns (R433). -/
def State.advanceTo (s : State) (x : Nat) : State := s.advanceDt (x * 2 ^ 32)

/-! ### Capture (R80, R81) -/

def captureRam : Nat := 0x2000000

/-- First byte and length of the capture ring. -/
def State.capBase (s : State) : Nat := 4096 * s.f ADC.CAP_BASE'BASE
def State.capLen (s : State) : Nat := max 4096 (4096 * s.f ADC.CAP_LEN'LEN)

/-- First byte and length of the control-engine capture buffer: 16 384 records of 16 bytes (R179). -/
def State.ccapBase (s : State) : Nat := 4096 * s.f CTL.CCAP_BASE'BASE
def ccapLen : Nat := 262144

/-- The two capture areas overlap. -/
def State.capOverlap (s : State) : Bool :=
  decide (s.capBase < s.ccapBase + ccapLen ∧ s.ccapBase < s.capBase + s.capLen)

/-- The channels selected by CAP_MASK, in channel order. -/
def State.capChans (s : State) : List Nat := (upto 144).filter (fun c => bit (s.rdN (ADC.CAP_MASK (c / 32))) (c % 32))

/-- Bytes written into the ring from offset `o` on. Where R80 is silent the model chooses (log entry 8): a record that
meets the ring's end is split there and goes on at its start, and a ring that reaches past the end of the capture RAM goes
on at the start of the RAM. -/
def State.ringPut (s : State) (o : Nat) : List Byte → State
  | [] => s
  | b :: t => (s.stb (captureRam + (s.capBase + o % s.capLen) % 0x400000) b.toNat).ringPut (o + 1) t

/-- A per-freeze result word in the layout of R56, with one freeze (R80). Its VALUE is the converted value also where it is
not valid: R57 speaks of results, and R80 says no more of the words (the model's choice, log entry 8). -/
def State.freezeWord (s : State) (c : Nat) (z : Freeze) : Nat :=
  have x := z.ch.getD c default
  have valid := z.ref && !z.fault && x.use
  valid.toNat * 2 ^ 31 + x.settling.toNat * 2 ^ 30 + (!z.ref).toNat * 2 ^ 29 + x.clip.toNat * 2 ^ 28
    + (s.ach c).calDef.toNat * 2 ^ 27 + s.f ADC.ADC_STAT'BSEQ % 256 * 2 ^ 16 + uN 16 x.val

/-- The trigger: POST records follow, the first at CAP_TRIG_PTR (R81). -/
def State.capTrigger (s : State) : State :=
  if s.f ADC.CAP_STAT'STATE = 2 then
    have t := (s.set ADC.CAP_STAT'STATE 3).set ADC.CAP_TRIG_PTR'PTR (s.f ADC.CAP_STAT'WPTR)
    { t with adc := { t.adc with postLeft := t.f ADC.CAP_CTRL'POST } }
  else s

/-- The event or comparator that TRIG_SRC and TRIG_SEL name has occurred since arming: the capture is triggered (R81). -/
def State.capHit (s : State) : State := if s.evt.capTrig then s.capTrigger else s

/-- The record of one freeze is written (R80), and one record of POST is used after the trigger (R81). -/
def State.capRecord (s : State) (j : Nat) (z : Freeze) : State :=
  have s := s.capHit
  have st := s.f ADC.CAP_STAT'STATE
  if st = 2 ∨ st = 3 ∧ 0 < s.adc.postLeft then
    have cs := s.capChans
    have hdr := toLE 4 s.ns32 ++ toLE 4 (s.f ADC.ADC_STAT'BSEQ + j % 8 * 2 ^ 16 + cs.length % 256 * 2 ^ 24)
    have rec_ := hdr ++ cs.flatMap (fun c => toLE 4 (s.freezeWord c z))
    have w := s.f ADC.CAP_STAT'WPTR
    have t := (s.ringPut w rec_).set ADC.CAP_STAT'WPTR ((w + rec_.length) % s.capLen)
    if st = 3 then { t with adc := { t.adc with postLeft := t.adc.postLeft - 1 } } else t
  else s

/-- The token is there: the capture is armed, and triggers at once under TRIG_SRC = 0 (R80). -/
def State.capArmed (s : State) : State :=
  have t := { (s.set ADC.CAP_STAT'STATE 2) with evt := { s.evt with capTrig := false } }
  if t.f ADC.CAP_CTRL'TRIG_SRC = 0 then t.capTrigger else t

/-- ARM and STOP of CAP_CTRL after the RW fields have been written (R80, R81). ARM while a capture is armed or triggered
starts it anew with WPTR 0, on the token that it holds: R80 does not say (the model's choice, log entry 8). -/
def State.capCtrlWrite (s : State) (v : Word) : State :=
  have s := s.plainWrite ADC.CAP_CTRL v
  have st := s.f ADC.CAP_STAT'STATE
  have s := if bit v.toNat 30 ∧ (st = 1 ∨ st = 2 ∨ st = 3) then
      ((s.ledgerCancel 6 0).ledgerRelease 6 0).set ADC.CAP_STAT'STATE 0 else s
  if bit v.toNat 31 then
    have c := s.f CTL.CCAP_STAT'STATE
    if s.capOverlap ∧ 1 ≤ c ∧ c ≤ 3 then (s.set ADC.CAP_STAT'STATE 5).refusal 4
    else
      have s := (s.set ADC.CAP_STAT'WPTR 0).set ADC.CAP_TRIG_PTR'PTR 0
      if s.ledgerHolds 6 0 then s.capArmed
      else if s.pwr.waiting.any (fun r => r.cls == 6 && r.id == 0) then s
      else
        let (ok, t) := s.ledgerRequest 6 0 1
        if ok then t.capArmed else t.set ADC.CAP_STAT'STATE 1
  else s

/-- CAP_CTRL.ARM arms an ADC capture (R80). -/
def execCapArm (w : Req) (v : Word) (s : State) : Host.Outcome State Fault Refusal :=
  .next (s.regCmd w ADC.CAP_CTRL (·.capCtrlWrite (putBits v 31 31 1)))

/-- CAP_CTRL.STOP stops the capture without a trigger (R81). -/
def execCapStop (w : Req) (v : Word) (s : State) : Host.Outcome State Fault Refusal :=
  .next (s.regCmd w ADC.CAP_CTRL (·.capCtrlWrite (putBits (putBits v 30 30 1) 31 31 0)))

/-- The capture trigger occurs (R81): GO from software under TRIG_SRC = 3, else the event or comparator that TRIG_SRC and
TRIG_SEL name, where it has occurred. -/
def State.capTriggerCmd (s : State) : State := if s.f ADC.CAP_CTRL'TRIG_SRC = 3 then s.capTrigger else s.capHit

def execCapTrigger (s : State) : Host.Outcome State Fault Refusal := .next s.capTriggerCmd

/-- POST records have been written after the trigger: the capture stops and its token is released (R81). -/
def execCapDone (s : State) : Host.Outcome State Fault Refusal :=
  .next (if s.f ADC.CAP_STAT'STATE = 3 ∧ s.adc.postLeft = 0 then (s.set ADC.CAP_STAT'STATE 4).ledgerRelease 6 0 else s)

/-! ### Freezes and bursts (R49-R61) -/

/-- The freezes of one burst: BURST_N of the TIMING section (R36, R49); while no image is in force 1, the model's choice
where R36 is silent (log entry 8). -/
def State.burstN (s : State) : Nat := max 1 s.cfg.burstN

/-- The trim of the timebase, in counts of 2.5 ns (R105). -/
def State.trim (s : State) : Int := sxN 5 (s.f PWM.PWM_STAT'TRIM)

/-- An instant of DT in ns as the trimmed timebase has it, in 2^-32 ns (R49, R105). -/
def State.trimmed (s : State) (x : Int) : Nat := (x * 2 ^ 32 + s.trim * 10737418240).toNat

/-- The carrier midpoint of the present period, T0/2 before the next reload (R18, R105). -/
def State.midDt (s : State) : Nat := s.trimmed ((s.time.l0next : Int) - (s.t0 / 2 : Nat))

/-- The instant of freeze `j` of the burst of this period, in 2^-32 ns: t0 + (j − (N − 1)/2) × 400 ns on the trimmed
timebase, t0 the carrier midpoint (R49, R105). -/
def State.freezeDt (s : State) (j : Nat) : Nat :=
  ((s.midDt : Int) + 200 * (2 * (j : Int) - (s.burstN - 1 : Nat)) * 2 ^ 32).toNat

/-- All 144 holds freeze at the burst's next freeze instant and their codes are converted (R49, R50, R55): the converter
list and corrections are those of the burst's first freeze (R68). Discarded and settling freezes are counted down. -/
def State.burstFreeze (s : State) (raw : List (BitVec 14)) : State :=
  if s.cycRun ∧ s.domOn pdADC ∧ s.adc.burst.length < s.burstN then
    have j := s.adc.burst.length
    have s := s.advanceDt (s.freezeDt j)
    have s := if s.adc.burst.isEmpty then { s with adc := { s.adc with serving := s.serving, corr := (upto 8).map s.convCorr } } else s
    have n := max 1 s.adc.serving.length
    have one := fun c => s.freezeCh c (raw.getD c 0).toInt (s.adc.corr.getD (s.adc.serving.getD (c % n) 0) (0, 0))
    have z : Freeze := { ref := s.b ADC.ADC_CTRL'REF_EN && s.b ADC.ADC_STAT'REF_SETTLED,
                         fault := s.b ADC.ADC_STAT'ADC_FAULT, ch := (upto 144).map one }
    have t := s.each ((upto 144).filter (fun c => decide (0 < (s.ach c).disc ∨ 0 < (s.ach c).settle))) fun c t =>
      t.setAch c { t.ach c with disc := (t.ach c).disc - 1, settle := (t.ach c).settle - 1 }
    have t := { t with adc := { t.adc with burst := t.adc.burst ++ [z] } }
    (t.capRecord j z).work 4
  else s

/-- All 144 holds freeze at a burst instant and conversion starts (R49). -/
def execBurstFreeze (raw muxed : List (BitVec 14)) (s : State) : Host.Outcome State Fault Refusal :=
  .next (s.burstFreeze (raw ++ muxed))

/-- The word of R56. -/
def resWord (valid settling unset clip calDef : Bool) (nfrz bseq : Nat) (val : Int) : Nat :=
  valid.toNat * 2 ^ 31 + settling.toNat * 2 ^ 30 + unset.toNat * 2 ^ 29 + clip.toNat * 2 ^ 28 + calDef.toNat * 2 ^ 27
    + nfrz % 8 * 2 ^ 24 + bseq % 256 * 2 ^ 16 + uN 16 val

/-- The burst result of a channel from its freezes (R52, R56, R57), and the mean of 4 × raw′ for calibration. -/
def burstOf (zs : List Freeze) (c : Nat) (last : Int) : WinRes × Nat × Int :=
  have us := (zs.filter (fun z => (z.ch.getD c default).use))
  have xs := us.map (fun z => z.ch.getD c default)
  have n := xs.length
  have unset := us.any (fun z => !z.ref)
  have valid := decide (0 < n) && !unset && !us.any (·.fault)
  have mean := if n = 0 then 0 else rdiv (xs.map (·.val)).sum n
  ({ val := if valid then mean else last, valid := valid, settling := xs.any (·.settling),
     unset := if n = 0 then zs.any (fun z => !z.ref) else unset, clip := xs.any (·.clip)
     mux := zs.any (fun z => !(z.ch.getD c default).use) },
   n - 1, if n = 0 then 0 else rdiv (xs.map (·.raw4)).sum n)

/-- The decimating filter's output over the window (R61): triangular weights, convergent rounding; a window that holds
fewer than 2L results settles, and so does one with a burst result from an interval of R59 or R60 (R56). -/
def filterOut (l : Nat) (win : List WinRes) : WinRes :=
  have ws := win.take (2 * l)
  have wt := (upto ws.length).map (fun i => if i < l then i + 1 else 2 * l - i)
  have num := ((ws.zip wt).map (fun p => p.1.val * (p.2 : Int))).sum
  { val := rdiv num (max 1 wt.sum), valid := ws.all (·.valid)
    settling := ws.any (fun w => w.settling || w.mux) || decide (ws.length < 2 * l), mux := ws.any (·.mux), unset := ws.any (·.unset), clip := ws.any (·.clip) }

/-- One channel takes its burst result (R52, R61): window, result register or filter output, slot word and
calibration sums. NFRZ of a filter output is that of the burst that completed it (R61 combines the tags and does not name
NFRZ; log entry 8). The outputs of the first 2L burst results after a change of DEC settle (R60). -/
def State.chResult (s : State) (c : Nat) (zs : List Freeze) : State :=
  have x := s.ach c
  have bseq := s.f ADC.ADC_STAT'BSEQ
  let (r, nf, raw4) := burstOf zs c (sxN 16 (x.slot % 65536))
  have word := resWord r.valid r.settling r.unset r.clip x.calDef nf bseq r.val
  have dec := bitsOf (s.effCfg c) 10 8
  have late := decide (0 < x.decAge)
  have x := { x with slot := word, win := (r :: x.win).take 256, decAge := x.decAge - 1, phase := x.phase + 1 }
  have cal := decide ((s.adc.calStep = 1 ∨ s.adc.calStep = 2) ∧ s.adc.calN < 4096 ∧ s.adc.calFirst ≤ c ∧
    c < s.adc.calFirst + s.adc.calCount)
  have x := if cal then { x with calSum := x.calSum + raw4, calSq := x.calSq + raw4 * raw4 } else x
  have kept := sxN 16 (bitsOf (s.rd (ADC.RES c)) 15 0)
  if dec = 0 then
    (s.setAch c x).wrN (ADC.RES c) (resWord r.valid r.settling r.unset r.clip x.calDef nf bseq (if r.valid then r.val else kept))
  else
    have l := 2 ^ dec
    if l ≤ x.phase then
      have o := filterOut l x.win
      have val := if o.valid then o.val else kept
      have ow := resWord o.valid (o.settling || late) o.unset o.clip x.calDef nf bseq val
      (s.setAch c { x with phase := 0 }).wrN (ADC.RES c) ow
    else s.setAch c x

/-- The burst is complete: every channel's result is written (R52). -/
def State.burstResult (s : State) : State :=
  if s.domOn pdADC ∧ s.adc.burst.length = s.burstN then
    have zs := s.adc.burst
    have t := s.each (upto 144) fun c t => t.chResult c zs
    { t with adc := { t.adc with burst := [], lastBurst := zs, calN := if t.adc.calStep = 1 ∨ t.adc.calStep = 2 then t.adc.calN + 1 else t.adc.calN } }
  else s

/-- The last freeze of a burst completes and the results are written (R52). -/
def execBurstResult (s : State) : Host.Outcome State Fault Refusal := .next s.burstResult

/-- The result word of channel `c` as the axis slots and the engine take it: the word of the latest burst (R52). -/
def State.slotWord (s : State) (c : Nat) : Nat := (s.ach c).slot

/-- A result word is usable (R57). -/
def usable (word : Nat) : Bool := bit word 31 && !bit word 30

/-- VALUE of a result word. -/
def valueOf (word : Nat) : Int := sxN 16 (word % 65536)

/-! ### Channel configuration (R58-R63, R76) -/

/-- A configuration word or coefficient word waits for the next L0 boundary (R58). -/
def State.chPend (s : State) (c : Nat) : State := s.setAch c { s.ach c with pend := true }

/-- A CH_CFG write (R62, R63). -/
def State.chCfgWrite (s : State) (c : Nat) (v : Word) : State :=
  have asg := s.ainAssigned c
  if asg ∧ (s.mode ≠ 3 ∨ bitsOf v 10 8 ≠ 0) then (s.set ADC.ADC_ERR'CFG_REFUSED 1).refusal 4
  else
    have v := if c < 128 then putBits v 1 0 0 else v
    (s.plainWrite (ADC.CH_CFG c) v).chPend c

/-- A write of a channel configuration (R62). -/
def execChCfgWrite (w : Req) (c : Fin 144) (v : Word) (s : State) : Host.Outcome State Fault Refusal :=
  .next (s.regCmd w (ADC.CH_CFG c) (·.chCfgWrite c v))

/-- A CH_COEF write takes effect only in M3 and clears CAL_DEFAULT (R76). -/
def State.chCoefWrite (s : State) (c : Nat) (v : Word) : State :=
  if s.mode = 3 then
    have t := (s.wr (ADC.CH_COEF c) v).chPend c
    t.setAch c { t.ach c with calDef := false }
  else s

/-- A write of channel coefficients (R76). -/
def execChCoefWrite (w : Req) (c : Fin 144) (v : Word) (s : State) : Host.Outcome State Fault Refusal :=
  .next (s.regCmd w (ADC.CH_COEF c) (·.chCoefWrite c v))

/-! ### Comparators (R77-R79) -/

/-- The trip output of channel `c`: the OR of its enabled directions (R77). -/
def State.cmpOut (s : State) (c : Nat) : Bool :=
  (s.ach c).above && bit (s.effCfg c).toNat 16 || (s.ach c).below && bit (s.effCfg c).toNat 17

/-- The trip output as it now is: a change of it shows in CMP_LIVE, sets its CMP_LATCH bit and may raise EVT[18] (R79); an
armed capture that waits for it is triggered as it becomes active (R81). -/
def State.cmpShow (s : State) (c : Nat) : State :=
  have out := s.cmpOut c
  have live := s.rdN (ADC.CMP_LIVE (c / 32))
  if bit live (c % 32) == out then s
  else
    have hit := out && s.f ADC.CAP_STAT'STATE == 2 && s.f ADC.CAP_CTRL'TRIG_SRC == 2 && s.f ADC.CAP_CTRL'TRIG_SEL == c
    have t := { s with evt := { s.evt with capTrig := s.evt.capTrig || hit } }
    have t := t.wrN (ADC.CMP_LIVE (c / 32)) (setBit live (c % 32) out)
    have t := t.wrN (ADC.CMP_LATCH (c / 32)) (setBit (t.rdN (ADC.CMP_LATCH (c / 32))) (c % 32) true)
    if bit (s.effCfg c).toNat 24 then t.raise 18 else t

/-- The voltage of a threshold code, in µV (R77). -/
def thUv (code : Nat) : Int := ((code : Int) - 128) * 16000

/-- The voltage that the comparator of `c` watches, in µV (R63, R77): the selected pins' `uv`, 0 V, or CAL_FS. -/
def State.cmpInput (s : State) (c : Nat) (uv : Int) : Int :=
  if c < 128 then uv
  else match bitsOf (s.effCfg c) 1 0 with
    | 2 => 0
    | 3 => s.f ADC.CAL_FS_UV'CAL_FS_UV
    | _ => uv

/-- A chopper's winding with a negative target uses the comparator of `c`: ABOVE marks σ × i > UPPER, an input below HI_TH, and
BELOW one above LO_TH (R192). -/
def State.cmpRev (s : State) (c : Nat) : Bool :=
  (upto 8).any fun n =>
    have l := s.cfg.locals.getD n default
    s.f (PWM.GRP_CFG'MODE (64 + n)) == 2 && s.b (PRF.ST_CFG'EN n) &&
      ((l.ainA == c && decide ((s.prf.wind.get (2 * n)).tgt < 0)) || (l.ainB == c && decide ((s.prf.wind.get (2 * n + 1)).tgt < 0)))

/-- The hysteresis of a comparator in µV (R77). -/
def hysOf (cfg : Word) : Int := match bitsOf cfg 19 18 with | 0 => 0 | 1 => 4000 | 2 => 8000 | _ => 16000

/-- The input of a comparator has stood at `uv` for `n` CTL clocks: each direction follows its threshold, returns past its
hysteresis, and changes once it has held for QUAL clocks (R77, R78). -/
def State.comparatorChange (s : State) (c : Nat) (uv : Int) (n : Nat) : State :=
  if !s.domOn pdADC then s else
  have cfg := s.effCfg c
  have x := s.ach c
  have neg := s.cmpRev c
  have v := if neg then -s.cmpInput c uv else s.cmpInput c uv
  have hi := if neg then -thUv (s.f (ADC.CMP_TH'HI_TH c)) else thUv (s.f (ADC.CMP_TH'HI_TH c))
  have lo := if neg then -thUv (s.f (ADC.CMP_TH'LO_TH c)) else thUv (s.f (ADC.CMP_TH'LO_TH c))
  have above := decide ((if x.above then hi - hysOf cfg else hi) < v)
  have below := decide (v < (if x.below then lo + hysOf cfg else lo))
  if n < bitsOf cfg 22 20 then s else (s.setAch c { x with above := above, below := below }).cmpShow c

/-! ### Configurations come into force -/

/-- At an L0 boundary the written words of a channel come into force: discards, settling and filter restart follow
from what changed (R58-R61). -/
def State.chApply (s : State) (c : Nat) : State :=
  have x := s.ach c
  have old := s.effCfg c
  have new := s.rd (ADC.CH_CFG c)
  have x := { x with loaded := true, cfg := new.toNat, coef := (s.rd (ADC.CH_COEF c)).toNat, pend := false }
  have x := if bitsOf old 1 0 ≠ bitsOf new 1 0 then { x with disc := s.f ADC.ADC_CTRL'MUX_DISCARD } else x
  have x := if bitsOf old 5 4 ≠ bitsOf new 5 4 then { x with settle := 4 } else x
  have d := bitsOf new 10 8
  have x := if bitsOf old 10 8 ≠ d then { x with phase := 0, decAge := if d = 0 then 0 else 2 * 2 ^ d } else x
  (s.setAch c x).cmpShow c

/-- The sampling block's part of an L0 boundary (R53, R58): BSEQ advances, except at the boundary that starts the
generator, and waiting configurations come into force. -/
def State.adcL0 (s : State) (first : Bool) : State :=
  if !s.domOn pdADC then s else
  have t := if first then s.set ADC.ADC_STAT'BSEQ 0 else s.inc ADC.ADC_STAT'BSEQ
  have t := { t with adc := { t.adc with burst := [] } }
  t.each ((upto 144).filter (fun c => (s.ach c).pend)) fun c t => t.chApply c

/-! ### Reference buffer (R64, R65) and rotation (R67-R72) -/

/-- The trim of a converter (R71): the factory trim from the option area. -/
def State.convTrim (s : State) (i : Nat) : Int × Int :=
  have t := (if s.f RST.RST_STAT'OPT_COPY = 2 then s.optB else s.optA).trims.getD i 0
  (sxN 16 (t % 65536), sxN 16 (t / 65536 % 65536))

/-- A measured correction lies beyond the limits of R71: offset by more than 64 raw LSB, gain by more than 1 %. -/
def convBad (trim meas : Int × Int) : Bool :=
  decide (64 * 16 < (meas.1 - trim.1).natAbs) ||
  decide (65536 + trim.2 < 100 * ((meas.2 - trim.2).natAbs : Int))

/-- Converter `i` is to leave service: it does once its token is granted (R69). -/
def State.rotStart (s : State) (i : Nat) : State :=
  have s := { s with adc := { s.adc with rotNext := i } }
  let (ok, t) := s.ledgerRequest 5 0 1
  if ok then ((t.set ADC.ADC_STAT'ROT_ACTIVE 1).set ADC.ADC_STAT'OUT_CONV i)
  else { t.set ADC.ADC_STAT'ROT_DEFERRED 1 with adc := { t.adc with rotWant := true } }

/-- The token of a deferred rotation step is granted (R69). -/
def State.rotGranted (s : State) : State :=
  have t := ((s.set ADC.ADC_STAT'ROT_DEFERRED 0).set ADC.ADC_STAT'ROT_ACTIVE 1).set ADC.ADC_STAT'OUT_CONV s.adc.rotNext
  { t with adc := { t.adc with rotWant := false } }

/-- The first converter in service at or after `i`, for the check of R71. -/
def State.nextServing (s : State) (i : Nat) : Nat := (s.serving.find? (fun k => decide (i ≤ k))).getD (s.serving.getD 0 0)

/-- A write of ADC_CTRL: REF_EN starts or ends the reference (R64, R65), ROT_EN starts or ends rotation (R67, R70). -/
def State.adcCtrlWrite (s : State) (v : Word) : State :=
  have ref0 := s.b ADC.ADC_CTRL'REF_EN
  have rot0 := s.b ADC.ADC_CTRL'ROT_EN
  have s := s.plainWrite ADC.ADC_CTRL v
  have s := match ref0, s.b ADC.ADC_CTRL'REF_EN with
    | false, true => { s with adc := { s.adc with refNs := s.ns + 1 } }
    | true, false => { s.set ADC.ADC_STAT'REF_SETTLED 0 with adc := { s.adc with refNs := 0 } }
    | _, _ => s
  match rot0, s.b ADC.ADC_CTRL'ROT_EN with
  | false, true =>
    if s.b ADC.ADC_STAT'CONV_FAILED then { s with adc := { s.adc with chkConv := if s.adc.chkRun then s.adc.chkConv else s.nextServing 0, chkRun := true } }
    else if s.b ADC.ADC_STAT'ROT_ACTIVE then s else s.rotStart s.adc.rotNext
  | true, false =>
    if s.adc.rotWant then
      { (s.ledgerCancel 5 0).set ADC.ADC_STAT'ROT_DEFERRED 0 with adc := { s.adc with rotWant := false } } else s
  | _, _ => s

/-- Setting REF_EN starts the 2 ms settling interval (R64). -/
def execRefEnSet (w : Req) (s : State) : Host.Outcome State Fault Refusal :=
  .next (s.regCmd w ADC.ADC_CTRL (fun s => s.adcCtrlWrite (putBits (s.rd ADC.ADC_CTRL) 0 0 1)))

/-- Clearing REF_EN makes results unsettled from the next freeze (R65). -/
def execRefEnClear (w : Req) (s : State) : Host.Outcome State Fault Refusal :=
  .next (s.regCmd w ADC.ADC_CTRL (fun s => s.adcCtrlWrite (putBits (s.rd ADC.ADC_CTRL) 0 0 0)))

/-- Setting ROT_EN starts rotation (R67). -/
def execRotEnSet (w : Req) (s : State) : Host.Outcome State Fault Refusal :=
  .next (s.regCmd w ADC.ADC_CTRL (fun s => s.adcCtrlWrite (putBits (s.rd ADC.ADC_CTRL) 8 8 1)))

/-- Clearing ROT_EN ends rotation at the end of the current step (R70). -/
def execRotEnClear (w : Req) (s : State) : Host.Outcome State Fault Refusal :=
  .next (s.regCmd w ADC.ADC_CTRL (fun s => s.adcCtrlWrite (putBits (s.rd ADC.ADC_CTRL) 8 8 0)))

/-- 2 ms after the write that set REF_EN the reference has settled (R64). -/
def State.refSettled (s : State) : State :=
  if !s.domOn pdADC ∨ s.adc.refNs = 0 then s
  else
    have t := s.advanceTo (s.adc.refNs - 1 + ms 2)
    ({ t with adc := { t.adc with refNs := 0 } }.set ADC.ADC_STAT'REF_SETTLED 1).raise 16

def execRefSettled (s : State) : Host.Outcome State Fault Refusal := .next s.refSettled

/-- A converter completes its conversions: it takes its new correction and rejoins, or is marked FAILED and stays out
(R67, R70, R71). -/
def State.rotStepEnd (s : State) (ofs gain : Int) : State :=
  if !(s.domOn pdADC && s.b ADC.ADC_STAT'ROT_ACTIVE) then s else
  have i := s.f ADC.ADC_STAT'OUT_CONV
  have t := (s.set ADC.ADC_STAT'ROT_ACTIVE 0).ledgerRelease 5 0
  if convBad (s.convTrim i) (ofs, gain) then
    have t := (t.setBitF ADC.ADC_STAT'CONV_FAILED i true).raise 16
    { t with adc := { t.adc with chkConv := t.nextServing 0, chkRun := t.b ADC.ADC_CTRL'ROT_EN } }
  else
    have t := ((t.set (ADC.CONV_CORR'OFS_CORR i) (uN 16 ofs)).set (ADC.CONV_CORR'GAIN_CORR i) (uN 16 gain)).wrN
      (ADC.CONV_AGE i) 0
    have t := { t with adc := { t.adc with rotNext := (i + 1) % 8 } }
    if t.b ADC.ADC_CTRL'ROT_EN then t.rotStart ((i + 1) % 8) else t

/-- A rotation step ends (R67). -/
def execRotationStepEnd (ofs gain : Int) (s : State) : Host.Outcome State Fault Refusal := .next (s.rotStepEnd ofs gain)

/-- The check of a converter in service ends; a second failure sets ADC_FAULT (R71, R72). -/
def State.convCheckEnd (s : State) (ofs gain : Int) : State :=
  if !(s.domOn pdADC && s.b ADC.ADC_STAT'CONV_FAILED && s.adc.chkRun) then s else
  have i := s.adc.chkConv
  have t := if convBad (s.convTrim i) (ofs, gain) then
      ((s.setBitF ADC.ADC_STAT'CONV_FAILED i true).set ADC.ADC_STAT'ADC_FAULT 1).raise 16
    else s
  { t with adc := { t.adc with chkConv := t.nextServing (i + 1), chkRun := t.b ADC.ADC_CTRL'ROT_EN } }

/-- A converter checked after a failure ends its check (R71). -/
def execConverterCheckEnd (ofs gain : Int) (s : State) : Host.Outcome State Fault Refusal :=
  .next (s.convCheckEnd ofs gain)

/-- CONV_AGE counts L3 boundaries, saturating. -/
def State.adcL3 (s : State) : State :=
  if !s.domOn pdADC then s else
  s.each (upto 8) fun i t => t.wrN (ADC.CONV_AGE i) (min (t.rdN (ADC.CONV_AGE i) + 1) (2 ^ 32 - 1))

/-! ### System calibration (R73-R76) -/

/-- The channels of the calibration range. -/
def State.calChans (s : State) : List Nat := (upto s.adc.calCount).map (· + s.adc.calFirst)

/-- A calibration step ends with a status and the calibration event (R75). -/
def State.calEnd (s : State) (status : Nat) : State :=
  ({ s with adc := { s.adc with calStep := 0 } }.set ADC.SYSCAL_STAT'STATUS status).raise 17

/-- The coefficients in force before step 1 return, with the CAL_DEFAULT state (R74, R76). -/
def State.calAbort (s : State) : State :=
  have t := s.each (upto 144) fun c t =>
    have x := t.ach c
    ((t.wrN (ADC.CH_COEF c) x.saveCoef).setAch c { x with calDef := x.saveDef }).chPend c
  have t := if s.adc.calBegun then t else s
  { t with adc := { t.adc with calBegun := false, calZeroed := false } }.calEnd 0x46

/-- A calibration step that runs ends with CAL_ABORTED (R74, R533). -/
def State.calModeLeft (s : State) : State := if s.adc.calStep = 0 then s else s.calAbort

/-- GO of a calibration step (R73, R74). `step`: 0 ZERO, 1 FS, 2 SAVE, 3 ABORT. -/
def State.syscalGo (s : State) (v : Word) (step : Nat) : State :=
  have s := s.plainWrite ADC.SYSCAL_CTRL (putBits v 17 16 step)
  have first := s.f ADC.SYSCAL_CTRL'CH_FIRST
  have count := s.f ADC.SYSCAL_CTRL'CH_COUNT
  have refuse := fun (st : Nat) => (s.set ADC.SYSCAL_STAT'STATUS st).refusal 4
  if s.mode ≠ 3 then refuse 0x40
  else if step = 3 then (if s.adc.calStep ≠ 0 ∨ s.adc.calBegun then s.calAbort else s)
  else if s.adc.calStep ≠ 0 then refuse 0x47
  else if 144 < first + count then refuse 0x43
  else if !s.b ADC.ADC_STAT'REF_SETTLED ∨ (upto count).any (fun i => bit (s.rdN (ADC.RES (first + i))) 30) then refuse 0x41
  else if step = 1 ∧ !(s.adc.calZeroed && s.adc.calFirst == first && s.adc.calCount == count) then refuse 0x42
  else
    have s := if step = 0 then
      have t := s.each (upto 144) fun c t =>
        t.setAch c { t.ach c with saveCoef := (t.rd (ADC.CH_COEF c)).toNat, saveDef := (t.ach c).calDef }
      { t with adc := { t.adc with calBegun := true, calZeroed := false } } else s
    have s := s.each (upto 144) fun c t => t.setAch c { t.ach c with calSum := 0, calSq := 0 }
    have s := if step ≤ 1 then { s with adc := { s.adc with calFirst := first, calCount := count } } else s
    { s with adc := { s.adc with calStep := step + 1, calN := 0 } }.set ADC.SYSCAL_STAT'STATUS 1

/-- System calibration command ZERO (R73). -/
def execSyscalZero (w : Req) (v : Word) (s : State) : Host.Outcome State Fault Refusal :=
  .next (s.regCmd w ADC.SYSCAL_CTRL (·.syscalGo v 0))

/-- System calibration command FS (R73). -/
def execSyscalFs (w : Req) (v : Word) (s : State) : Host.Outcome State Fault Refusal :=
  .next (s.regCmd w ADC.SYSCAL_CTRL (·.syscalGo v 1))

/-- System calibration command ABORT (R74). -/
def execSyscalAbort (w : Req) (v : Word) (s : State) : Host.Outcome State Fault Refusal :=
  .next (s.regCmd w ADC.SYSCAL_CTRL (·.syscalGo v 3))

/-- The standard deviation of the 4 096 results of a channel is above 64 VALUE LSB (R74). -/
def calUnstable (x : AdcCh) : Bool := decide (64 * 64 * 4096 * 4096 < 4096 * x.calSq - x.calSum * x.calSum)

/-- G of an FS step from its mean and O (R73): `none` where the sign differs from TARGET's (R74). -/
def calGain (sum o target : Int) : Option Int :=
  have d := sum - 4096 * o
  if d = 0 ∨ target = 0 ∨ (decide (0 < d) ≠ decide (0 < target)) then none
  else
    have num := 65536 * (4096 * target - d)
    some (if 0 < d then rdiv num d.toNat else rdiv (-num) (-d).toNat)

/-- A step of 4 096 L0 periods ends (R73-R75). -/
def State.syscalStepEnd (s : State) : State :=
  if !(s.domOn pdADC) ∨ s.adc.calN < 4096 ∨ s.adc.calStep = 0 ∨ 2 < s.adc.calStep then s
  else
    have cs := s.calChans
    if s.adc.calStep = 1 then
      if cs.any (fun c => decide (2048 < (rdiv (s.ach c).calSum 4096).natAbs)) then s.calEnd 0x43
      else if cs.any (fun c => calUnstable (s.ach c)) then s.calEnd 0x44
      else
        have t := s.each cs fun c t => t.setAch c { t.ach c with zero := rdiv (t.ach c).calSum 4096 }
        { t with adc := { t.adc with calZeroed := true } }.calEnd 2
    else
      have target := sxN 16 (s.f ADC.SYSCAL_TARGET'TARGET)
      have gs := cs.map (fun c => calGain (s.ach c).calSum (s.ach c).zero target)
      if gs.any (fun g => match g with | none => true | some g => decide (6554 < g.natAbs)) then s.calEnd 0x43
      else if cs.any (fun c => calUnstable (s.ach c)) then s.calEnd 0x44
      else
        have t := s.each cs fun c t =>
          have x := t.ach c
          have g := (calGain x.calSum x.zero target).getD 0
          ((t.wrN (ADC.CH_COEF c) (uN 16 g * 65536 + uN 16 x.zero)).setAch c { x with calDef := false }).chPend c
        t.calEnd 3

/-- A calibration step ends after 4 096 L0 periods (R75). -/
def execSyscalStepEnd (s : State) : Host.Outcome State Fault Refusal := .next s.syscalStepEnd

/-- The input of a window comparator changes and has stood so for `n` clocks (R77-R79). -/
def execComparatorChange (c : Fin 144) (uv : Int) (n : Nat) (s : State) : Host.Outcome State Fault Refusal :=
  .next (s.comparatorChange c uv n)

/-- At an image load, CH_CFG of assigned inputs comes from TOPOLOGY (R62, R63) and CH_COEF from the calibration record
(R76). -/
def State.adcLoad (s : State) (rec_ : Option (List Nat)) : State :=
  have s := s.each (s.cfg.axes.filter (·.used)) fun a s =>
    ((s.set (ADC.CH_CFG'MUX a.ainA) (if a.ainA < 128 then 0 else a.cfgA % 4)).set (ADC.CH_CFG'GAIN a.ainA) (a.cfgA / 16 % 4) |>.set
      (ADC.CH_CFG'DEC a.ainA) 0 |>.set (ADC.CH_CFG'MUX a.ainB) (if a.ainB < 128 then 0 else a.cfgB % 4)).set (ADC.CH_CFG'GAIN a.ainB) (a.cfgB / 16 % 4)
      |>.set (ADC.CH_CFG'DEC a.ainB) 0
  s.each (upto 144) fun c s =>
    have coef := match rec_ with | some l => l.getD c 0 | none => 0
    have t := (s.wrN (ADC.CH_COEF c) coef).chPend c
    t.setAch c { t.ach c with calDef := rec_.isNone }

end Sys2Proof.Machine
end

