-- ==== Sys2Proof/Machine/Pwm.lean ====
section
/-!
DEFINITION. Pulse generation, dead time and trips (spec/04_pwm_generator.md), with the trip commands that a group's
latch sends to its brick (R109, R120).
-/
namespace Sys2Proof.Machine
open Sys2Proof

/-! ### Groups, axes and ports -/

def State.grp (s : State) (g : Nat) : PwmGrp := s.pwm.grp.get g

def State.setGrp (s : State) (g : Nat) (x : PwmGrp) : State := { s with pwm := { s.pwm with grp := s.pwm.grp.set g x } }

/-- Pair `p` of a group. -/
def PwmGrp.pair (x : PwmGrp) (p : Nat) : PwmPair := match p with | 0 => x.p0 | 1 => x.p1 | 2 => x.p2 | _ => x.p3

def PwmGrp.setPair (x : PwmGrp) (p : Nat) (y : PwmPair) : PwmGrp :=
  match p with | 0 => { x with p0 := y } | 1 => { x with p1 := y } | 2 => { x with p2 := y } | _ => { x with p3 := y }

def modeINVERTER : Nat := 1
def modeSTEPPER : Nat := 2
def modeREMOTE : Nat := 3

def State.grpMode (s : State) (g : Nat) : Nat := s.f (PWM.GRP_CFG'MODE g)

/-- Axis `a` in TOPOLOGY. -/
def State.axTopo (s : State) (a : Nat) : AxisTopo := s.cfg.axes.getD a default

def State.axUsed (s : State) (a : Nat) : Bool := (s.axTopo a).used

/-- The group of axis `a`. -/
def State.axGroup (s : State) (a : Nat) : Nat := if (s.axTopo a).isLocal then 64 + (s.axTopo a).lpg else a

/-- The axis slot that group `g` carries, if any. -/
def State.grpAxis (s : State) (g : Nat) : Option Nat :=
  (upto 64).find? (fun a => s.axUsed a && s.axGroup a == g)

/-- The port and the position of remote group `g` in the BRICK section (R35). -/
def State.grpPort (s : State) (g : Nat) : Option (Nat × Nat) :=
  ((upto 16).flatMap (fun n => (upto 4).map (fun a => (n, a)))).find? (fun q =>
    (s.cfg.bricks.getD q.1 default).used && (s.cfg.bricks.getD q.1 default).axes.getD q.2 64 == g)

def State.bport (s : State) (n : Nat) : BlkPort := s.blk.port.get n

def State.setBport (s : State) (n : Nat) (x : BlkPort) : State := { s with blk := { s.blk with port := s.blk.port.set n x } }

def portUP : Nat := 3

/-- Port `n` is in state UP. -/
def State.portIsUp (s : State) (n : Nat) : Bool := s.f (BLK.PORT_STAT'STATE n) == portUP

/-- The pairs that switch in a group (R86, R87). -/
def State.grpPairs (s : State) (g : Nat) : List Nat :=
  match s.grpMode g with | 1 => [0, 1, 2, 3] | 2 => [0, 1, 2, 3] | 3 => [0, 1, 2] | _ => []

/-! ### Counts (R82, R83) -/

/-- DT of one count in 2^-32 ns at the rate in force. -/
def State.ctlInc (s : State) : Nat := max 1 (dtIncr s.time.rate)

/-- The timebase count now: CTL edges since the reload (R83). -/
def State.count0 (s : State) : Nat := s.time.ticks - s.pwm.reloadTick

/-- The present count lies in the guard window (R83, R90). -/
def State.inGuard (s : State) : Bool := decide (s.pwm.per ≤ s.count0 + 8 ∧ s.count0 < s.pwm.per)

/-- First count at which DT reaches `at2` (2^-32 ns) when count 0 stands at `dt0`. -/
def countAt (dt0 at2 inc : Nat) : Nat := (at2 - dt0 + inc - 1) / inc

/-- Counts M and P of the period that begins at the L0 boundary `x` ns, where count 0 stands at DT `dt0` (R83). -/
def State.periodCounts (s : State) (x dt0 : Nat) : Nat × Nat :=
  (countAt dt0 (s.trimmed (x + s.t0 / 2 : Nat)) s.ctlInc, countAt dt0 (s.trimmed (x + s.t0 : Nat)) s.ctlInc)

/-- HALF in force. -/
def State.half (s : State) : Nat := s.f PWM.PWM_STAT'HALF

/-- Count at which S rises and count at which it falls in a period (R83): `none` for no edge of S within it. -/
def sWindow (hon half m p : Nat) : Option (Nat × Nat) :=
  if hon = 0 ∨ half ≤ hon then none else some (m - hon, min p (m + hon))

/-- S at count 0 of a period (R83). -/
def sAt0 (hon half m : Nat) : Bool := decide (half ≤ hon ∨ (0 < hon ∧ m ≤ hon))

/-! ### Edges of a pair (R85) -/

/-- S rises at count `t`: the low side goes off, the high side on after DT_RISE; a low-side turn-on still waiting at
`t` is not made. -/
def PwmPair.rise (x : PwmPair) (t dtr : Nat) : PwmPair :=
  { x with lvl := true, due := x.due.filter (fun e => e.2.1 || decide (e.1 < t)) ++ [(t, false, false), (t + dtr, true, true)] }

/-- S falls at count `t`: the high side goes off, the low side on after DT_FALL; a high-side turn-on still waiting at
`t` is not made. -/
def PwmPair.fall (x : PwmPair) (t dtf : Nat) : PwmPair :=
  { x with lvl := false, due := x.due.filter (fun e => !e.2.1 || decide (e.1 < t)) ++ [(t, true, false), (t + dtf, false, true)] }

/-- One gate edge is made. -/
def PwmPair.gate (x : PwmPair) (count : Nat) (high on : Bool) : PwmPair :=
  if high then { x with hi := on, hiOff := if x.hi && !on then (count : Int) else x.hiOff } else { x with low := on }

/-- The edges that were due before the reload at count `per` have been made; the others run on (R83). -/
def PwmPair.carry (x : PwmPair) (per : Nat) : PwmPair :=
  have y := (x.due.filter (fun e => decide (e.1 < per))).foldl (fun y e => y.gate e.1 e.2.1 e.2.2) x
  { y with due := (x.due.filter (fun e => decide (per ≤ e.1))).map (fun e => (e.1 - per, e.2))
           hiOff := max (-1100) (y.hiOff - per) }

/-- The edges of a period of pair `x` with active duty and dead times (R83, R85). -/
def PwmPair.period (x : PwmPair) (hon half m p dtr dtf : Nat) : PwmPair :=
  have l0 := sAt0 hon half m
  have x := match x.lvl, l0 with
    | false, true => x.rise 0 dtr
    | true, false => x.fall 0 dtf
    | _, _ => x
  match sWindow hon half m p with
  | none => x
  | some (r, f) =>
    have x := if 0 < r then x.rise r dtr else x
    if f < p then x.fall f dtf else x

/-- All gates off and no edge waiting. -/
def PwmPair.allOff (x : PwmPair) : PwmPair := { x with lvl := false, hi := false, low := false, due := [] }

/-- The count of the edge of S that a waiting gate edge comes from (R85). -/
def edgeOrigin (dtr dtf : Nat) (e : Nat × Bool × Bool) : Nat := if e.2.2 then e.1 - (if e.2.1 then dtr else dtf) else e.1

/-- The waiting edges of a pair after M has moved by `d` at count `now`: edges of S still to come move with it, and one that
would then fall at count `per` or later is not made (R83). -/
def PwmPair.retime (x : PwmPair) (now per dtr dtf : Nat) (d : Int) : PwmPair :=
  { x with due := x.due.filterMap (fun e =>
      if edgeOrigin dtr dtf e ≤ now then some e
      else if (per : Int) ≤ edgeOrigin dtr dtf e + d then none else some ((e.1 + d).toNat, e.2)) }

/-- RATE has changed: M and P are the first CTL edges at which DT now reaches their instants, and the edges of S that depend
on M follow (R83). -/
def State.carrierRetime (s : State) : State :=
  have c := s.count0
  have at_ := fun (old d : Nat) => if old ≤ c ∨ d ≤ s.time.dt then old else c + countAt s.time.dt d s.ctlInc
  have m := at_ s.pwm.mid s.pwm.midDt
  have p := at_ s.pwm.per s.pwm.perDt
  have d : Int := (m : Int) - s.pwm.mid
  if m = s.pwm.mid ∧ p = s.pwm.per then s
  else
    have t := { s with pwm := { s.pwm with mid := m, per := p } }
    t.each ((upto 72).filter (fun g => !(t.b (PWM.GRP_STAT'TRIPPED g)))) fun g u =>
      have x := u.grp g
      have one := fun (k : Nat) (y : PwmPair) => y.retime c p (u.f (PWM.DT_ACT'DT_RISE g k)) (u.f (PWM.DT_ACT'DT_FALL g k)) d
      u.setGrp g { x with p0 := one 0 x.p0, p1 := one 1 x.p1, p2 := one 2 x.p2, p3 := one 3 x.p3 }

/-! ### Trips -/

/-- A trip source is active (R93, R122). -/
def State.srcActive (s : State) (src : Nat) : Bool :=
  if src < 16 then s.fbit PWM.TRIP_PIN_LIVE'LIVE src
  else if src < 160 then bit (s.rdN (ADC.CMP_LIVE ((src - 16) / 32))) ((src - 16) % 32)
  else if src < 224 then
    match s.grpPort (src - 160) with
    | some (n, a) => bit (s.bport n).faults a
    | none => false
  else false

/-- A window that a group's trip has opened at this very instant: it masks nothing that trips another group at the same
count (R97, R99). -/
def State.latchOpened (s : State) (b : Nat) : Bool := s.pwm.latchDt == s.time.dt && s.pwm.latchOpen.contains b

/-- A source is masked: an enabled blanking channel that names it has its window open (R97). -/
def State.srcMasked (s : State) (src : Nat) : Bool :=
  (upto 32).any (fun b => s.b (PWM.BLANK_CFG'EN b) && s.f (PWM.BLANK_CFG'SRC b) == src && s.b (PWM.BLANK_STAT'OPEN b)
    && !s.latchOpened b)

/-- The sources that can trip group `g` (R94). -/
def State.grpSources (s : State) (g : Nat) : List Nat :=
  have sel := fun i => if i < 4 then s.rdN (PWM.TRIP_SEL_A g) / 2 ^ (8 * i) % 256
    else s.rdN (PWM.TRIP_SEL_B g) / 2 ^ (8 * (i - 4)) % 256
  ((upto 8).filter (fun i => s.fbit (PWM.TRIP_EN'EN g) i && decide (sel i < 224))).map sel
    ++ (if g < 64 then [160 + g] else [])

/-- The enabled blanking channels of group `g`. -/
def State.grpWindows (s : State) (g : Nat) : List Nat :=
  (upto 32).filter (fun b => s.b (PWM.BLANK_CFG'EN b) && s.f (PWM.BLANK_CFG'GROUP b) == g)

/-- Every enabled blanking channel of group `g` opens or restarts its window (R96). -/
def State.openWindows (s : State) (g : Nat) : State :=
  s.each (s.grpWindows g) fun b t =>
    { t with pwm := { t.pwm with edgeTick := t.pwm.edgeTick.set b (t.time.ticks + 1) } }.set (PWM.BLANK_STAT'OPEN b) 1

/-- A trip of group `g` counts as an edge (R96); the windows that it opens are noted with the instant. -/
def State.latchWindows (s : State) (g : Nat) : State :=
  have l := (s.grpWindows g).filter (fun b => !s.b (PWM.BLANK_STAT'OPEN b))
  have t := s.openWindows g
  { t with pwm := { t.pwm with latchDt := t.time.dt, latchOpen := (if s.pwm.latchDt = s.time.dt then s.pwm.latchOpen else []) ++ l } }

/-- A frame that has left the port by `now` goes from the list, and the trip commands that waited behind its EOF are sent, two
sets each, before the next frame (R109). -/
def BlkPort.frameLeft (p : BlkPort) (now : Nat) : BlkPort :=
  match p.tx with
  | [] => p
  | (e, _) :: r =>
    if now < e then p
    else { p with tx := r.map (fun f => (f.1 + 50 * p.tripQ.length, f.2)), tripQ := [], lastTd := p.tripQ.getLastD p.lastTd, tripSets := p.tripSets + 2 * p.tripQ.length }

/-- Every frame that has left the port by `now` goes from the list. -/
def BlkPort.framesLeft (p : BlkPort) (now : Nat) : BlkPort := p.tx.foldl (fun q _ => q.frameLeft now) p

/-- A trip command at `now`: its two sets go into the frame in transmission while that frame carries none yet, which puts its
end and the later frames off by 50 ns; else they wait for the frame's EOF; between frames they leave at once (R109). -/
def BlkPort.trip (p : BlkPort) (now td : Nat) : BlkPort :=
  have p := p.framesLeft now
  match p.tx with
  | [] => { p with lastTd := td, tripSets := p.tripSets + 2 }
  | (e, k) :: r =>
    if 2 ≤ k then { p with tripQ := p.tripQ ++ [td] }
    else { p with tx := (e + 50, 2) :: r.map (fun f => (f.1 + 50, f.2)), lastTd := td, tripSets := p.tripSets + 2 }

/-- A trip command to port `n` (R109, R120), nothing on a port that is not UP (R125). -/
def State.tripSend (s : State) (n td : Nat) : State :=
  if !s.portIsUp n then s else s.setBport n ((s.bport n).trip s.ns td)

/-- The trip state that group `g` drives (R100): a STEPPER group uses ALL_OFF. -/
def State.tripLow (s : State) (g : Nat) : Bool := s.b (PWM.GRP_CFG'TRIP_STATE g) && s.grpMode g != modeSTEPPER

/-- Pair 0-2 under LOW_SHORT at count `now` (R100, R101): the high side goes off. A low side that is on stays on; one whose
DT_FALL runs turns on as originally timed; else DT_FALL after the high side last turned off, or at once. -/
def PwmPair.lowShort (x : PwmPair) (now dtf : Nat) : PwmPair :=
  have y := { x.gate now true false with lvl := false, due := [] }
  have wait := x.due.filter (fun e => !e.2.1 && e.2.2 && decide (e.1 ≤ now + dtf))
  if x.low then y
  else if !x.hi && !wait.isEmpty then { y with due := wait }
  else if y.hiOff + dtf ≤ (now : Int) then { y with low := true }
  else { y with due := [((y.hiOff + dtf).toNat, false, true)] }

/-- A group latches a trip (R99, R100): cause, event, trip state, trip command; the latch instant counts as an edge for
blanking (R96). -/
def State.groupTripLatch (s : State) (g cause : Nat) : State :=
  if s.b (PWM.GRP_STAT'TRIPPED g) then s else
  have s := ((s.set (PWM.GRP_STAT'TRIPPED g) 1).set (PWM.GRP_STAT'TRIP_CAUSE g) cause).raise 24
  have low := s.tripLow g
  have x := { s.grp g with held := false }
  have one := fun (p : Nat) (y : PwmPair) =>
    if low ∧ p < 3 ∧ s.grpPairs g ≠ [] then y.lowShort s.count0 (s.f (PWM.DT_ACT'DT_FALL g p)) else y.allOff
  have s := (s.setGrp g { x with p0 := one 0 x.p0, p1 := one 1 x.p1, p2 := one 2 x.p2, p3 := one 3 x.p3 }).latchWindows g
  match s.grpPort g with
  | some (n, a) => if g < 64 then s.tripSend n (2 ^ a + (if low then 2 ^ (4 + a) else 0)) else s
  | none => s

/-- An enabled and unmasked source trips the group, the lowest number first (R94, R97, R99). -/
def State.groupTripCheck (s : State) (g : Nat) : State :=
  match ((s.grpSources g).filter (fun c => s.srcActive c && !s.srcMasked c)).min? with
  | some c => s.groupTripLatch g c
  | none => s

/-- An enabled, unblanked trip source reaches a group latch (R99). -/
def execGroupTrip (g : Fin 72) (s : State) : Host.Outcome State Fault Refusal :=
  .next (if s.domOn pdCTL then s.groupTripCheck g else s)

/-- A blanking window closes WIDTH counts after the latest edge that opened it; a source that is active then trips (R96,
R98). -/
def State.blankClose (s : State) (b : Nat) : State :=
  if s.domOn pdCTL ∧ s.b (PWM.BLANK_STAT'OPEN b) then
    have t := (s.edges (s.pwm.edgeTick.get b - 1 + s.f (PWM.BLANK_CFG'WIDTH b) - s.time.ticks)).set (PWM.BLANK_STAT'OPEN b) 0
    have src := t.f (PWM.BLANK_CFG'SRC b)
    t.each ((upto 72).filter (fun g => t.srcActive src && (t.grpSources g).contains src)) fun g t => t.groupTripCheck g
  else s

/-- A blanking window closes (R98). -/
def execBlankWindowClose (b : Fin 32) (s : State) : Host.Outcome State Fault Refusal := .next (s.blankClose b)

/-- A BLANK_CFG write; a channel that is no longer enabled has no open window (R96, R97). -/
def State.blankCfgWrite (s : State) (b : Nat) (v : Word) : State :=
  have t := s.plainWrite (PWM.BLANK_CFG b) v
  if t.b (PWM.BLANK_CFG'EN b) then t else t.set (PWM.BLANK_STAT'OPEN b) 0

/-- TRIP_CLR (R103). -/
def State.groupTripClr (s : State) (g : Nat) : State :=
  if !s.b (PWM.GRP_STAT'TRIPPED g) then s
  else if (s.grpSources g).any s.srcActive then (s.set (PWM.GRP_STAT'CLEAR_REJECTED g) 1).refusal 5
  else (s.set (PWM.GRP_STAT'TRIPPED g) 0).setGrp g { s.grp g with held := true }

/-! ### Shadow sets (R88-R92) -/

/-- The group has a spare shadow set (R88). -/
def State.hasSpare (s : State) (g : Nat) : Bool := s.grpMode g == modeINVERTER

/-- The pairs of the main shadow set (R88). -/
def State.mainPairs (s : State) (g : Nat) : List Nat := if s.grpMode g = modeSTEPPER then [0, 1, 2, 3] else [0, 1, 2]

def State.wrRefused (s : State) (g : Nat) : State := (s.set (PWM.GRP_STAT'WR_REFUSED g) 1).refusal 5

/-- A ready mark of either set falls in the guard window (R90). -/
def State.lateMark (s : State) (g : Nat) : State := (s.set (PWM.GRP_STAT'LATE g) 1).sat (PWM.LATE_CNT'CNT g)

/-- The main shadow set is marked ready. -/
def State.readyMain (s : State) (g : Nat) : State :=
  have t := s.set (PWM.GRP_STAT'SHADOW_READY g) 1
  if t.inGuard ∧ !s.b (PWM.GRP_STAT'SHADOW_READY g) then (t.lateMark g).setGrp g { t.grp g with lateMain := true } else t

/-- The dead times of the main shadow set of a remote group differ from the active ones (R115). -/
def State.dtChanged (s : State) (g : Nat) : Bool :=
  (upto 3).any (fun p => s.rd (PWM.DT_CFG g p) != s.rd (PWM.DT_ACT g p))

/-- CFG_PEND of port `n`: a group of the brick waits for an acknowledgement (R115). -/
def State.cfgPend (s : State) (n : Nat) : State :=
  s.setB (BLK.PORT_STAT'CFG_PEND n) ((upto 4).any (fun a =>
    have g := (s.cfg.bricks.getD n default).axes.getD a 64
    decide (g < 64) && (s.grp g).ackWait))

/-- A ready mark of the main set (R89): with changed dead times a remote group's set first waits for the brick's
acknowledgement of a configuration frame (R115). -/
def State.markMain (s : State) (g : Nat) : State :=
  match s.grpPort g with
  | some (n, _) =>
    if g < 64 ∧ !s.b (PWM.GRP_STAT'SHADOW_READY g) then
      have w := s.dtChanged g
      have t := (s.setGrp g { s.grp g with ackWait := w }).cfgPend n
      if w then t else t.readyMain g
    else s.readyMain g
  | none => s.readyMain g

/-- The spare shadow set is marked ready. -/
def State.markSpare (s : State) (g : Nat) : State :=
  have t := s.set (PWM.GRP_STAT'SPARE_READY g) 1
  if t.inGuard ∧ !s.b (PWM.GRP_STAT'SPARE_READY g) then (t.lateMark g).setGrp g { t.grp g with lateSpare := true } else t

/-- A complete main shadow set written in one transaction by the engine or the portal block (R89). -/
def State.shadowWrite (s : State) (g : Nat) (hon : List Nat) : State :=
  have t := s.each (upto hon.length) fun p t => t.wrN (PWM.DUTY_SH g p) (min (hon.getD p 0) t.half)
  t.markMain g

/-- The COMMIT bit of GRP_CMD (R89). -/
def State.grpCommit (s : State) (g : Nat) : State :=
  if s.f (PWM.GRP_CFG'SRC g) = 1 then s.markMain g else s.wrRefused g

/-- The SPARE_COMMIT bit of GRP_CMD (R89). -/
def State.grpSpareCommit (s : State) (g : Nat) : State :=
  if s.hasSpare g ∧ s.f (PWM.GRP_CFG'SPARE_SRC g) = 1 then s.markSpare g else s.wrRefused g

/-- A write of GRP_CMD: the clear is applied before the forced trip (R103). -/
def State.grpCmdWrite (s : State) (g : Nat) (v : Word) : State :=
  have s := s.iff (bit v.toNat 0) (·.grpCommit g)
  have s := s.iff (bit v.toNat 3) (·.grpSpareCommit g)
  have s := s.iff (bit v.toNat 1) (·.groupTripClr g)
  s.iff (bit v.toNat 2) (·.groupTripLatch g 0xF0)

/-- GRP_CMD.COMMIT marks the main shadow set ready (R89). -/
def execGrpCommit (w : Req) (g : Fin 72) (s : State) : Host.Outcome State Fault Refusal :=
  .next (s.regCmd w (PWM.GRP_CMD g) (·.grpCmdWrite g 1))

/-- GRP_CMD.SPARE_COMMIT marks the spare shadow set ready (R89). -/
def execGrpSpareCommit (w : Req) (g : Fin 72) (s : State) : Host.Outcome State Fault Refusal :=
  .next (s.regCmd w (PWM.GRP_CMD g) (·.grpCmdWrite g 8))

/-- GRP_CMD.FORCE_TRIP trips a group with cause 0xF0 (R94). -/
def execGrpForceTrip (w : Req) (g : Fin 72) (s : State) : Host.Outcome State Fault Refusal :=
  .next (s.regCmd w (PWM.GRP_CMD g) (·.grpCmdWrite g 4))

/-- GRP_CMD.TRIP_CLR clears a group trip unless a source is active (R103). -/
def execGrpTripClr (w : Req) (g : Fin 72) (s : State) : Host.Outcome State Fault Refusal :=
  .next (s.regCmd w (PWM.GRP_CMD g) (·.grpCmdWrite g 2))

/-- The shadow set that pair `p` of group `g` belongs to is marked ready. -/
def State.setReady (s : State) (g p : Nat) : Bool :=
  if p = 3 ∧ s.hasSpare g then s.b (PWM.GRP_STAT'SPARE_READY g) else s.b (PWM.GRP_STAT'SHADOW_READY g)

/-- Pair 3 of a remote group does not exist (R86). -/
def noPair (g p : Nat) : Bool := decide (g < 64 ∧ p = 3)

/-- A write of a shadow duty (R84, R89, R91). -/
def State.dutyWrite (s : State) (g p : Nat) (v : Word) : State :=
  if noPair g p then s
  else if !(s.f (PWM.GRP_CFG'SRC g) == 1 || (p == 3 && s.hasSpare g && s.f (PWM.GRP_CFG'SPARE_SRC g) == 1)) then s.wrRefused g
  else if s.setReady g p then s.wrRefused g
  else s.wrN (PWM.DUTY_SH g p) (min (bitsOf v 15 0) s.half)

/-- A write of a shadow duty by the host or a core (R91). -/
def execDutyShWrite (w : Req) (g : Fin 72) (p : Fin 4) (v : Word) (s : State) : Host.Outcome State Fault Refusal :=
  .next (s.regCmd w (PWM.DUTY_SH g p) (·.dutyWrite g p v))

/-- A write of shadow dead times, accepted only in M3 with the set not ready (R89, R91). -/
def State.dtWrite (s : State) (g p : Nat) (v : Word) : State :=
  if noPair g p then s
  else if s.mode ≠ 3 ∨ s.setReady g p then s.wrRefused g
  else s.plainWrite (PWM.DT_CFG g p) v

/-- A write of shadow dead times (R91). -/
def execDtCfgWrite (w : Req) (g : Fin 72) (p : Fin 4) (v : Word) (s : State) : Host.Outcome State Fault Refusal :=
  .next (s.regCmd w (PWM.DT_CFG g p) (·.dtWrite g p v))

/-- A write of GRP_CFG (R91): SRC and TRIP_STATE change only in M3; elsewhere a write that would change one of them
leaves it and sets WR_REFUSED. SPARE_SRC takes 0 to 2. -/
def State.grpCfgWrite (s : State) (g : Nat) (v : Word) : State :=
  have src := bitsOf v 5 4
  have ts := bitsOf v 3 3
  have t := if bitsOf v 9 8 ≤ 2 then s.set (PWM.GRP_CFG'SPARE_SRC g) (bitsOf v 9 8) else s
  if s.mode = 3 then (if src ≤ 1 then t.set (PWM.GRP_CFG'SRC g) src else t).set (PWM.GRP_CFG'TRIP_STATE g) ts
  else if src ≠ s.f (PWM.GRP_CFG'SRC g) ∨ ts ≠ s.f (PWM.GRP_CFG'TRIP_STATE g) then t.wrRefused g
  else t

/-- A write of SRC, SPARE_SRC or TRIP_STATE of a group (R91). -/
def execGrpCfgWrite (w : Req) (g : Fin 72) (v : Word) (s : State) : Host.Outcome State Fault Refusal :=
  .next (s.regCmd w (PWM.GRP_CFG g) (·.grpCfgWrite g v))

/-! ### TRIP pins (R95) -/

/-- TRIP_PIN_LIVE follows the qualified levels and the polarity bits. -/
def State.pinSync (s : State) : State :=
  s.set PWM.TRIP_PIN_LIVE'LIVE (s.pwm.pinLow % 65536 ^^^ s.f PWM.TRIP_PIN_CFG'POL)

/-- A write of TRIP_PIN_CFG: a new polarity acts on the qualified level (R95). -/
def State.tripPinCfg (s : State) (v : Word) : State := (s.plainWrite PWM.TRIP_PIN_CFG v).pinSync

/-- A write of TRIP pin polarity or qualification (R95). -/
def execTripPinCfgWrite (w : Req) (v : Word) (s : State) : Host.Outcome State Fault Refusal :=
  .next (s.regCmd w PWM.TRIP_PIN_CFG (·.tripPinCfg v))

/-- A TRIP pin has held a level for `n` counts: it changes its qualified level once it has held for QUAL counts (R95). -/
def State.tripPinChange (s : State) (i : Nat) (level : Bool) (n : Nat) : State :=
  if !s.domOn pdCTL ∨ n < s.f PWM.TRIP_PIN_CFG'QUAL then s
  else { s with pwm := { s.pwm with pinLow := setBit s.pwm.pinLow i (!level) } }.pinSync

def execTripPinChange (i : Fin 16) (level : Held Bool) (s : State) : Host.Outcome State Fault Refusal :=
  .next (s.tripPinChange i level.v level.held)

/-! ### Timed edges and the reload -/

/-- A timed gate edge of a pair is made at its count, and opens or restarts the windows of its group if it changes the gate
(R85, R96). -/
def State.gateEdge (s : State) (g p count : Nat) (high on : Bool) : State :=
  have x := s.grp g
  if s.domOn pdCTL ∧ (s.grpPairs g).contains p ∧ (x.pair p).due.contains (count, high, on) ∧ count < s.pwm.per then
    have s := s.edges (count - s.count0)
    have y := { (x.pair p).gate count high on with due := (x.pair p).due.erase (count, high, on) }
    have t := s.setGrp g (x.setPair p y)
    if y.hi = (x.pair p).hi ∧ y.low = (x.pair p).low then t else t.openWindows g
  else s

/-- A timed gate edge of a pair (R85). -/
def execGateEdge (g : Fin 72) (p : Fin 4) (count : Nat) (high on : Bool) (s : State) :
    Host.Outcome State Fault Refusal := .next (s.gateEdge g p count high on)

/-- The module is the standby of a pair (R450). -/
def State.standby (s : State) : Bool := !s.b FYV.PAIR_STAT'ACTIVE

/-- The gates of pair `p` may switch (R87, R91, R165, R452): an axis that is not DISABLED, under SRC = HOST one in RUN, the portal block's own release, a chopper
that is on, or the host's duties on a group without an axis; on local groups in the active module only. -/
def State.pairDriven (s : State) (g p : Nat) : Bool :=
  if 64 ≤ g ∧ s.standby then false
  else if p = 3 ∧ s.hasSpare g then
    s.f (PWM.GRP_CFG'SPARE_SRC g) == 1 || (s.f (PWM.GRP_CFG'SPARE_SRC g) == 2 && (s.grp g).drive)
  else match s.grpAxis g with
    | some a => if s.f (PWM.GRP_CFG'SRC g) = 1 then s.f (CTL.AX_STAT'STATE a) == 1 else s.f (CTL.AX_STAT'STATE a) != 0
    | none =>
      if p = 2 ∧ s.cfg.portals.any (fun q => q.used && q.kind == 1 && q.lpg + 64 == g) then false
      else (s.grp g).drive || (s.grpMode g == modeINVERTER && s.f (PWM.GRP_CFG'SRC g) == 1)

/-- A shadow set is copied to its part of the active set (R88). -/
def State.copySet (s : State) (g : Nat) (ps : List Nat) : State :=
  s.each ps fun p t => (t.wr (PWM.DUTY_ACT g p) (t.rd (PWM.DUTY_SH g p))).wr (PWM.DT_ACT g p) (t.rd (PWM.DT_CFG g p))

/-- The shadow sets of a group at a reload (R88, R90, R115). -/
def State.reloadSets (s : State) (g : Nat) : State :=
  have x := s.grp g
  have s := if x.ackWait then s.lateMark g else s
  have s := if !s.b (PWM.GRP_STAT'SHADOW_READY g) then s
    else if x.lateMain then s
    else (s.copySet g (s.mainPairs g)).set (PWM.GRP_STAT'SHADOW_READY g) 0
  have s := if !s.b (PWM.GRP_STAT'SPARE_READY g) then s
    else if x.lateSpare then s
    else (s.copySet g [3]).set (PWM.GRP_STAT'SPARE_READY g) 0
  s.setGrp g { s.grp g with lateMain := false, lateSpare := false }

/-- The pairs of a group start a new period (R83, R85, R102, R103). -/
def State.reloadPairs (s : State) (g : Nat) : State :=
  have x := s.grp g
  have half := s.half
  have one := fun (p : Nat) (y : PwmPair) =>
    if s.b (PWM.GRP_STAT'TRIPPED g) then y
    else if !(s.grpPairs g).contains p ∨ !s.pairDriven g p then y.allOff
    else if s.grpMode g = modeSTEPPER then y
    else
      have hon := s.f (PWM.DUTY_ACT'HON g p)
      have dtr := s.f (PWM.DT_ACT'DT_RISE g p)
      have dtf := s.f (PWM.DT_ACT'DT_FALL g p)
      have m := s.pwm.mid
      have fresh := x.held || (!y.hi && !y.low && y.due.isEmpty)
      if fresh then
        if sAt0 hon half m then ({ y with lvl := false, due := [] }).period hon half m s.pwm.per dtr dtf
        else if y.low then ({ y with lvl := false, due := [] }).period hon half m s.pwm.per dtr dtf
        else ({ y with lvl := true, due := [] }).period hon half m s.pwm.per dtr dtf
      else y.period hon half m s.pwm.per dtr dtf
  s.setGrp g { x with p0 := one 0 x.p0, p1 := one 1 x.p1, p2 := one 2 x.p2, p3 := one 3 x.p3, held := false }

/-- Cascade synchronisation at a reload (R105, R106). -/
def State.syncReload (s : State) : State :=
  if !s.b PWM.PWM_CTRL'SYNC_IN_EN then
    { s with pwm := { s.pwm with gotPulse := false, errRun := 0, missRun := 0 } }.set PWM.PWM_STAT'SYNC_LOCK 0
  else
    have e := s.pwm.syncErr
    have got := s.pwm.gotPulse
    have bad := got && decide ((s.f PWM.SYNC_CFG'TOL : Int) < e.natAbs)
    have er := if bad then min 3 (s.pwm.errRun + 1) else 0
    have mr := if got then 0 else min 3 (s.pwm.missRun + 1)
    have s := { s with pwm := { s.pwm with gotPulse := false, errRun := er, missRun := mr } }
    have s := s.setB PWM.PWM_STAT'SYNC_LOCK (got && decide (e.natAbs ≤ 1))
    have s := if (er = 3 ∨ mr = 3) ∧ !s.b PWM.PWM_STAT'SYNC_FAULT then (s.set PWM.PWM_STAT'SYNC_FAULT 1).raise 25 else s
    if s.b PWM.PWM_STAT'SYNC_FAULT ∨ !got ∨ e = 0 then s
    else s.set PWM.PWM_STAT'TRIM (uN 5 (clampI (-10) 10 (s.trim + (if 0 < e then 1 else -1))))

/-- A write of PWM_STAT: SYNC_FAULT is cleared only while SYNC_LOCK = 1 (R106). -/
def State.pwmStatWrite (s : State) (v : Word) : State :=
  if bit v.toNat 30 ∧ s.b PWM.PWM_STAT'SYNC_LOCK then s.set PWM.PWM_STAT'SYNC_FAULT 0 else s

/-- The rising edge of SYNC_IN comes at timebase count `c` of the period: it is measured against the nearest of the module's
own reloads, after subtracting DELAY (R105). -/
def State.syncInPulse (s : State) (c : Nat) : State :=
  if !s.domOn pdCTL ∨ !s.b PWM.PWM_CTRL'SYNC_IN_EN then s
  else
    have t := s.edges (c - s.count0)
    have n := t.count0
    have err : Int := (if 2 * n < t.pwm.per then (n : Int) else (n : Int) - t.pwm.per) - t.f PWM.SYNC_CFG'DELAY
    { t with pwm := { t.pwm with gotPulse := true, syncErr := err } }

def execSyncInPulse (c : Nat) (s : State) : Host.Outcome State Fault Refusal := .next (s.syncInPulse c)

/-- The bank that the edge frames of a brick port select changes at the reload that takes the acknowledged dead times (R114,
R115). -/
def State.bankFlips (s : State) (n : Nat) : Bool :=
  have b := s.cfg.bricks.getD n default
  b.used && (upto 4).any (fun a =>
    have g := b.axes.getD a 64
    decide (g < 64) && s.b (PWM.GRP_STAT'SHADOW_READY g) && !(s.grp g).lateMain && s.dtChanged g)

/-- The chopper's transaction of the period that ends: the main set of a STEPPER group whose chopper runs is complete and
ready, with the dead times of DT_CFG (R89). Its place before the guard window is the model's choice (log entry 55). -/
def State.chopperSets (s : State) : State :=
  s.each ((upto 8).filter (fun n => s.grpMode (64 + n) == modeSTEPPER && s.b (PRF.ST_CFG'EN n))) fun n t =>
    t.set (PWM.GRP_STAT'SHADOW_READY (64 + n)) 1

/-- The reload of every group at the L0 boundary of nominal DT `x` ns, at the instant that the trim in force gives it; the
new trim takes hold from it on (R83, R88, R104, R105). Nothing where it has been made. -/
def State.pwmReload (s : State) (x : Nat) : State :=
  if !s.domOn pdCTL ∨ s.pwm.relNs = x + 1 then s else
  have s := (s.advanceDt (s.trimmed x)).chopperSets.syncReload
  have flips := (upto 16).filter s.bankFlips
  have s := s.each (upto 72) fun g t => t.reloadSets g
  have s := s.each flips fun n t => t.setBport n { t.bport n with bankWant := 1 - (t.bport n).bankWant, cfgDt := [] }
  have s := s.each (upto 16) fun n t => match (t.bport n).frBank with
    | some b => t.setBport n { t.bport n with bank := b, frBank := none }
    | none => t
  let (m, p) := s.periodCounts x s.time.dt
  have ended := s.count0
  have s := s.each (upto 72) fun g t =>
    have x := t.grp g
    t.setGrp g { x with p0 := x.p0.carry ended, p1 := x.p1.carry ended, p2 := x.p2.carry ended, p3 := x.p3.carry ended }
  have s := { s with pwm := { s.pwm with mid := m, per := p, midDt := s.trimmed (x + s.t0 / 2 : Nat), perDt := s.trimmed (x + s.t0 : Nat), reloadTick := s.time.ticks, relNs := x + 1, reloads := s.pwm.reloads + 1 } }
  have s := s.each (upto 72) fun g t => t.reloadPairs g
  have s := s.iff (s.b PWM.PWM_CTRL'SYNC_OUT_EN && decide (s.f PWM.PWM_CTRL'SYNC_GRP < 72)) fun s =>
    { s with pwm := { s.pwm with syncOuts := s.pwm.syncOuts + 1 } }
  s.work 5 72

/-- SRC of every group returns to "assigned by image" at the first L1 boundary after the mode has left M3 (R91). -/
def State.srcReturn (s : State) : State :=
  if s.mode = 3 then s else
  s.each ((upto 72).filter (fun g => s.f (PWM.GRP_CFG'SRC g) != 0)) fun g t => t.set (PWM.GRP_CFG'SRC g) 0

end Sys2Proof.Machine
end

