-- ==== Sys2Proof/Machine/Blk.lean ====
section
/-!
DEFINITION. Brick links (spec/05_brick_links.md): link states, edge frames, configuration frames and status frames.
-/
namespace Sys2Proof.Machine
open Sys2Proof

/-- CRC-16 of R110: polynomial 0x1021, most significant bit first, one bit step. -/
def crc16Step (c : Nat) : Nat := if 0x8000 ≤ c then (c * 2 % 65536) ^^^ 0x1021 else c * 2

/-- CRC-16: one byte into the running value. -/
def crc16Byte (c : Nat) (x : Byte) : Nat :=
  crc16Step (crc16Step (crc16Step (crc16Step (crc16Step (crc16Step (crc16Step (crc16Step (c ^^^ (x.toNat * 256)))))))))

/-- CRC-16 of a byte string (R110). -/
def crc16 (l : List Byte) : Nat := l.foldl crc16Byte 0xFFFF

/-- A frame with its CRC-16 stored low byte first (R110). -/
def withCrc16 (l : List Byte) : List Byte := l ++ toLE 2 (crc16 l)

/-- SRC of downstream frames (R111): port, SLOT_ID, PAIR_ROLE. -/
def State.frameSrc (s : State) (n : Nat) : Nat :=
  n + 16 * s.f RST.RST_STRAP'SLOT_ID + 128 * s.f RST.RST_STRAP'PAIR_ROLE

def State.brick (s : State) (n : Nat) : BrickTopo := s.cfg.bricks.getD n default

/-- The group at position `a` of port `n`, 64 = none. -/
def State.posGroup (s : State) (n a : Nat) : Nat := (s.brick n).axes.getD a 64

/-- HON and dead times that the coming reload puts in force for pair `p` of group `g` (R88, R90). -/
def State.nextHon (s : State) (g p : Nat) : Nat :=
  if s.b (PWM.GRP_STAT'SHADOW_READY g) ∧ !(s.grp g).lateMain then s.f (PWM.DUTY_SH'HON g p) else s.f (PWM.DUTY_ACT'HON g p)

/-- RISE and FALL words of a pair (R111). An S that falls at or after the following reload makes no edge there (R83):
with S high from count 0 it is high for the whole period, else FALL is the last count of the period (log entry 9). -/
def edgeWords (hon half m p : Nat) : Nat × Nat :=
  match sWindow hon half m p with
  | none => if hon = 0 then (0x7FFF, 0x7FFF) else (0, 0x7FFF)
  | some (r, f) => if f < p then (r, f) else if r = 0 then (0, 0x7FFF) else (r, p - 1)

/-- The edge frame of port `n` for the coming reload (R111-R113). -/
def State.edgeFrame (s : State) (n : Nat) : List Byte :=
  have tgtNs := s.time.l0next
  have k := countAt s.time.dt (s.trimmed tgtNs) s.ctlInc
  let (m, p) := s.periodCounts tgtNs (s.time.dt + k * s.ctlInc)
  have zone := (s.brick n).zone
  have echo := (s.fbit SAFE.ZONE_STAT'VOTE_A zone).toNat + 2 * (s.fbit SAFE.ZONE_STAT'VOTE_B_L zone).toNat
    + 4 * (s.bport n).stoFb.toNat
  have bank := if s.bankFlips n then 1 - (s.bport n).bankWant else (s.bport n).bankWant
  have words := (upto 4).flatMap fun a =>
    have g := s.posGroup n a
    if g < 64 then (upto 3).flatMap fun p' =>
      let (r, f) := edgeWords (s.nextHon g p') s.half m p
      toLE 2 r ++ toLE 2 f
    else toLE 12 0
  have ctl := (upto 4).map fun a =>
    have g := s.posGroup n a
    if g < 64 then b8 ((s.pairDriven g 0).toNat + 2 * (s.b (PWM.GRP_STAT'TRIPPED g)).toNat
      + 4 * (s.b (PWM.GRP_CFG'TRIP_STATE g)).toNat) else 0
  withCrc16 ([0xE1, b8 (s.frameSrc n)] ++ toLE 2 (tgtNs / s.t0 % 65536)
    ++ toLE 2 (uN 16 ((k : Int) - s.f (BLK.PORT_STAT'LINK_DELAY n)))
    ++ [b8 echo, b8 (bank + 2 * (s.b (BLK.PORT_STAT'RESTART_PEND n)).toNat)] ++ words ++ ctl)

/-- The dead times that group `g` waits for, or that are active in it, as the words of a configuration frame give them. -/
def State.dtWords (s : State) (g : Nat) : List Nat :=
  (upto 3).map fun p =>
    have w := if (s.grp g).ackWait then s.rd (PWM.DT_CFG g p) else s.rd (PWM.DT_ACT g p)
    bitsOf w 9 0 + bitsOf w 25 16 * 65536

/-- The dead-time words of a configuration frame (R114): of a set that waits for its acknowledgement, else active. -/
def State.cfgWords (s : State) (n : Nat) : List Nat :=
  (upto 4).flatMap fun a =>
    have g := s.posGroup n a
    if 64 ≤ g then [0, 0, 0] else s.dtWords g

/-- The bank that a configuration frame would load is not free: the brick still uses it, or it holds acknowledged dead times
that the coming reload puts in force (R115). -/
def State.bankBusy (s : State) (n : Nat) : Bool :=
  (s.bport n).bank != (s.bport n).bankWant || (upto 4).any (fun a =>
    have g := s.posGroup n a
    decide (g < 64) && s.b (PWM.GRP_STAT'SHADOW_READY g) && s.dtChanged g)

/-- A frame of `len` ns starts to leave the port, once the frames before it have left (R116). -/
def BlkPort.send (p : BlkPort) (now len : Nat) : BlkPort :=
  have q := p.framesLeft now
  { q with tx := q.tx ++ [(max now ((q.tx.getLastD (now, 0)).1 + 50 * q.tripQ.length) + len, 0)] }

/-- The configuration frame, 56 characters, is sent after the edge frame of a period until it is acknowledged (R115).
Content that has changed takes a new CFG_ID. -/
def State.cfgFrameSend (s : State) (n : Nat) : State :=
  if !s.b (BLK.PORT_STAT'CFG_PEND n) ∨ s.bankBusy n then s else
  have ws := s.cfgWords n
  have p := (s.bport n).send s.ns 350
  have p := if p.cfgDt = ws then p else { p with cfgDt := ws, cfgId := (p.cfgId + 1) % 256 }
  have fr := withCrc16 ([0xC1, b8 (s.frameSrc n), b8 (1 - p.bank), b8 p.cfgId] ++ ws.flatMap (toLE 4 ·))
  s.setBport n { p with lastCfgFrame := fr }

/-- An edge frame of 64 characters leaves the port (R116). -/
def State.frameOut (s : State) (n : Nat) (fr : List Byte) : State :=
  have p := (s.bport n).send s.ns 400
  (s.setBport n { p with lastFrame := fr, frames := p.frames + 1, frBank := some (leAt fr 7 1 % 2) }).work 6

/-- The edge frame of a port whose last axis has been updated (R111, R448): sent at once by the active module, held for
PAIR_OFS counts by the standby, not sent at all on a STRUCT_HASH mismatch (R446) or on a port that is not UP (R125). -/
def State.edgeFrameSend (s : State) (n : Nat) : State :=
  if !s.portIsUp n ∨ (s.standby ∧ s.fyv.hashDiff) then s
  else if s.standby then s.setBport n { s.bport n with standbyFrame := s.edgeFrame n, readyTick := s.time.ticks }
  else (s.frameOut n (s.edgeFrame n)).cfgFrameSend n

/-- An edge frame that leaves `k` counts after it was built: RELOAD_OFS runs from its transmit instant (R113). -/
def laterFrame (fr : List Byte) (k : Nat) : List Byte :=
  withCrc16 (fr.take 4 ++ toLE 2 (uN 16 ((leAt fr 4 2 : Int) - k)) ++ (fr.take 60).drop 6)

/-- In the standby module an edge frame leaves PAIR_OFS counts after it is ready (R448). -/
def State.standbyFrameSend (s : State) (n : Nat) : State :=
  have p := s.bport n
  if s.domOn pdLINK ∧ s.portIsUp n ∧ !p.standbyFrame.isEmpty then
    have t := s.edges (p.readyTick + s.f FYV.PAIR_CFG'PAIR_OFS - s.time.ticks)
    ((t.setBport n { t.bport n with standbyFrame := [] }).frameOut n (laterFrame p.standbyFrame (t.time.ticks - p.readyTick))).cfgFrameSend n
  else s

def execStandbyEdgeFrameSend (n : Fin 16) (s : State) : Host.Outcome State Fault Refusal := .next (s.standbyFrameSend n)

/-- The trip commands that wait behind a frame with two TRIP sets are sent when its EOF has left (R109). -/
def State.tripSetAfterEof (s : State) (n : Nat) : State :=
  have p := s.bport n
  if s.portIsUp n ∧ !p.tripQ.isEmpty then
    have t := s.advanceTo (p.tx.headD (0, 0)).1
    t.setBport n (p.frameLeft t.ns)
  else s

def execTripSetAfterEof (n : Fin 16) (s : State) : Host.Outcome State Fault Refusal := .next (s.tripSetAfterEof n)

/-! ### STO feedback (R123) -/

/-- The module is one of a redundant pair: its SERTIK section names two members (R406, R446; log entry 31). -/
def State.paired (s : State) : Bool := s.cfg.srt.used && decide (2 ≤ s.cfg.srt.node.length)

/-- The command of a vote output: outputs 0-7 are STO_A, 8-15 STO_B. -/
def State.outSto (s : State) (o : Nat) : Bool :=
  if o < 8 then s.fbit SAFE.ZONE_STAT'VOTE_A o else s.fbit SAFE.ZONE_STAT'VOTE_B_L (o - 8)

/-- STO as STO_FB is compared with it (R350): the module's votes, or in a pair the 2-out-of-3 result, none while a vote is
unknown (R456). -/
def State.stoVoted (s : State) (z : Nat) : Option Bool :=
  if !s.paired then some (s.outSto z || s.outSto (z + 8))
  else match s.fyv.pVotes, s.fyv.rVotes with
    | some (pa, pb), some (ra, rb) =>
      have two := fun (a b c : Bool) => (a && b) || (a && c) || (b && c)
      some (two (s.outSto z) (bit pa z) (bit ra z) || two (s.outSto (z + 8)) (bit pb z) (bit rb z))
    | _, _ => none

/-- The latest STO_FB of port `n` differs from the votes of its zone (R123). -/
def State.stoDiffers (s : State) (n : Nat) : Bool :=
  s.portIsUp n && (s.bport n).okStat && (match s.stoVoted (s.brick n).zone with | some v => (s.bport n).stoFb != v | none => false)

/-- Since when STO_FB of each brick differs from the votes (R123). -/
def State.stoTrack (s : State) : State :=
  s.each ((upto 16).filter (fun n => (s.brick n).used)) fun n t =>
    have p := t.bport n
    have v := if !t.stoDiffers n then 0 else if p.stoNs = 0 then t.ns + 1 else p.stoNs
    if v = p.stoNs then t else t.setBport n { p with stoNs := v }

/-! ### Status frames (R121-R123) -/

/-- The brick has acknowledged the configuration frame of the port: the sets whose dead times it carried wait no longer
(R115). A set whose dead times have been written again since goes on waiting, and nothing is taken while the frame holds words
that are neither a waiting set's nor active (log entry 55). -/
def State.cfgAck (s : State) (n : Nat) : State :=
  have p := s.bport n
  have same := fun a => p.cfgDt.drop (3 * a) |>.take 3 |> (· == s.dtWords (s.posGroup n a))
  have act := fun a => p.cfgDt.drop (3 * a) |>.take 3 |> (· == (upto 3).map (fun q =>
    have w := s.rd (PWM.DT_ACT (s.posGroup n a) q)
    bitsOf w 9 0 + bitsOf w 25 16 * 65536))
  have used := (upto 4).filter (fun a => decide (s.posGroup n a < 64))
  if !used.all (fun a => same a || act a) then s
  else
    (s.each (used.filter (fun a => same a && (s.grp (s.posGroup n a)).ackWait)) fun a t =>
      have g := t.posGroup n a
      (t.setGrp g { t.grp g with ackWait := false }).readyMain g).cfgPend n

/-- A status frame on an UP port (R121, R122). -/
def State.statusFrame (s : State) (n : Nat) (fr : List Byte) : State :=
  if !(s.domOn pdLINK && s.portIsUp n) then s
  else if fr.length ≠ 28 ∨ leAt fr 0 1 ≠ 0xA1 ∨ leAt fr 0x1A 2 ≠ crc16 (fr.take 26) then s.sat (BLK.ERR_CNT'UP_CRC n)
  else
    have p := s.bport n
    have stat := leAt fr 4 1
    have byte := fun a => leAt fr (8 + 4 * a) 1
    have ot := ((upto 4).map (fun a => if bit (byte a) 3 then 2 ^ a else 0)).sum + (if bit stat 7 then 16 else 0)
    have flt := ((upto 4).map (fun a => if byte a % 8 ≠ 0 then 2 ^ a else 0)).sum
    have old := if p.okStat then p.otFlags else 0
    have rises := (upto 5).any (fun i => bit ot i && !bit old i)
    have s := s.setBport n { p with okStat := true, otFlags := ot, faults := flt, stoFb := bit stat 1,
                                     offState := bit stat 0, lastStat := s.ns }
    have s := s.wrN (BLK.UP_HDR n) (leAt fr 4 4)
    have s := s.each (upto 4) fun a t => t.wrN (BLK.UP_AXIS n a) (leAt fr (8 + 4 * a) 4)
    have s := (s.set (BLK.UP_MISC'T_BOARD n) (leAt fr 0x18 1)).set (BLK.UP_MISC'SEQ_APPLIED n) (leAt fr 2 2)
    have s := if bit stat 0 then s else s.set (BLK.PORT_STAT'RESTART_PEND n) 0
    have s := if rises then s.raise 32 else s
    have s := s.stoTrack
    if s.b (BLK.PORT_STAT'CFG_PEND n) ∧ bit stat 2 ∧ (bit stat 3).toNat = 1 - p.bank ∧ leAt fr 5 1 = p.cfgId
        ∧ !p.cfgDt.isEmpty ∧ !s.bankBusy n then s.cfgAck n else s

/-- A brick status frame is taken on an UP port (R122). -/
def execStatusFrameReceive (n : Fin 16) (frame : List Byte) (s : State) : Host.Outcome State Fault Refusal :=
  .next (s.statusFrame n frame)

/-- No valid status frame for 2 T0 (R122). -/
def execStatusFrameTimeout (n : Fin 16) (s : State) : Host.Outcome State Fault Refusal :=
  .next (if s.domOn pdLINK ∧ s.portIsUp n then
    ((s.advanceTo ((s.bport n).lastStat + 2 * s.t0)).set (BLK.PORT_STAT'UP_LOST n) 1).raise 32 else s)

/-! ### Link states (R119, R124) -/

def State.portState (s : State) (n st : Nat) : State :=
  (s.set (BLK.PORT_STAT'STATE n) st).setBitF BLK.BLK_UP'UP n (st == portUP)

/-- The port goes DOWN; a transition from UP is counted. -/
def State.portDown (s : State) (n : Nat) : State :=
  have t := if s.portIsUp n then s.sat (BLK.ERR_CNT'LOS_CNT n) else s
  ((t.portState n 0).setBport n { t.bport n with standbyFrame := [], tripQ := [], tx := [], frBank := none, stoNs := 0 })

/-- PORT_CMD (R119, R124). -/
def State.portCmdWrite (s : State) (n : Nat) (v : Word) : State :=
  have s := if bit v.toNat 0 then s.set (BLK.PORT_STAT'RESTART_PEND n) 1 else s
  if bit v.toNat 1 then s.portDown n else s

/-- PORT_CMD.RESTART requests RESTART in the edge frames (R119). -/
def execPortRestart (w : Req) (n : Fin 16) (s : State) : Host.Outcome State Fault Refusal :=
  .next (s.regCmd w (BLK.PORT_CMD n) (·.portCmdWrite n 1))

/-- PORT_CMD.RETRAIN forces the port DOWN (R124). -/
def execPortRetrain (w : Req) (n : Fin 16) (s : State) : Host.Outcome State Fault Refusal :=
  .next (s.regCmd w (BLK.PORT_CMD n) (·.portCmdWrite n 2))

/-- PORT_CFG: EN = 0 takes the port DOWN (R124). -/
def State.portCfgWrite (s : State) (n : Nat) (v : Word) : State :=
  have t := s.plainWrite (BLK.PORT_CFG n) v
  if t.b (BLK.PORT_CFG'EN n) ∨ t.f (BLK.PORT_STAT'STATE n) = 0 then t else t.portDown n

/-- Signal on an enabled DOWN port starts training (R124). -/
def execLinkSignalDetect (n : Fin 16) (s : State) : Host.Outcome State Fault Refusal :=
  .next (if s.domOn pdLINK ∧ s.b (BLK.PORT_CFG'EN n) ∧ s.f (BLK.PORT_STAT'STATE n) = 0 then
    (s.portState n 1).setBport n { s.bport n with trainNs := s.ns } else s)

/-- 64 error-free TRAIN sets (R124). -/
def execTrainDone (n : Fin 16) (s : State) : Host.Outcome State Fault Refusal :=
  .next (if s.domOn pdLINK ∧ s.f (BLK.PORT_STAT'STATE n) = 1 then s.portState n 2 else s)

/-- 150 µs in TRAIN without success (R124). -/
def execTrainTimeout (n : Fin 16) (s : State) : Host.Outcome State Fault Refusal :=
  .next (if s.domOn pdLINK ∧ s.f (BLK.PORT_STAT'STATE n) = 1 then
    ((s.advanceTo ((s.bport n).trainNs + us 150)).portState n 0).sat (BLK.ERR_CNT'TRAIN_FAIL n) else s)

/-- Eight exchanges `(round trip, TURN)` whose delay spreads by at most 1 count (R124). -/
def exchangesOk (l : List (Nat × Nat)) : Bool :=
  l.length == 8 && l.all (fun x => l.all (fun y => decide (x.1 + y.2 ≤ y.1 + x.2 + 1)))

/-- Eight PING/PONG exchanges are complete: the port turns UP (R119, R124). LINK_DELAY is that of the last exchange, `x` (log
entry 55). -/
def State.portTurnsUp (s : State) (n : Nat) (x : Nat × Nat) : State :=
  have t := (s.portState n portUP).set (BLK.PORT_STAT'LINK_DELAY n) (uN 16 (rdiv ((x.1 : Int) - x.2) 2))
  have t := t.setBport n { t.bport n with okStat := false, lastStat := t.ns }
  if t.b (BLK.PORT_CFG'AUTO_RESUME n) then t.set (BLK.PORT_STAT'RESTART_PEND n) 1 else t

/-- Eight PING/PONG exchanges set LINK_DELAY and the port turns UP; with a greater spread the port stays in DELAY (R124). -/
def execDelayDone (n : Fin 16) (l : List (Nat × Nat)) (x : Nat × Nat) (s : State) : Host.Outcome State Fault Refusal :=
  .next (if s.domOn pdLINK ∧ s.f (BLK.PORT_STAT'STATE n) = 2 ∧ exchangesOk (l ++ [x]) then s.portTurnsUp n x else s)

/-- Loss of signal or a violation burst takes an UP port DOWN (R124). -/
def execLinkLoss (n : Fin 16) (s : State) : Host.Outcome State Fault Refusal :=
  .next (if s.domOn pdLINK ∧ s.portIsUp n then s.portDown n else s)

end Sys2Proof.Machine
end

