-- ==== Sys2Proof/Machine/Evt.lean ====
section
/-!
DEFINITION. The event array, its routes, MSI-X and the PCIe link (spec/22_host_and_events.md, R495-R510; log entry 40).
-/
namespace Sys2Proof.Machine
open Sys2Proof

/-- W1C of pending bits (R504). -/
def State.pendClear (s : State) (i : Nat) (v : Word) : State := s.wr (EVT.EVT_PEND i) (s.rd (EVT.EVT_PEND i) &&& ~~~v)

def execEvtPendClear (w : Req) (i : Fin 8) (v : BitVec 32) (s : State) : Host.Outcome State Fault Refusal :=
  .next (s.regCmd w (EVT.EVT_PEND i) (·.pendClear i v))

/-- EVT_VEC_ACK re-arms a vector (R506). -/
def State.vecAck (s : State) (v : Word) : State :=
  if bit v.toNat 31 then { s with evt := { s.evt with disarmed := setBit s.evt.disarmed (bitsOf v 4 0) false } } else s

def execEvtVecAck (w : Req) (v : BitVec 32) (s : State) : Host.Outcome State Fault Refusal :=
  .next (s.regCmd w EVT.EVT_VEC_ACK (·.vecAck v))

/-- EVT_SET raises a doorbell (R508). -/
def State.doorbell (s : State) (v : Word) : State :=
  if bit v.toNat 31 ∧ bitsOf v 4 0 < 24 then s.raise (232 + bitsOf v 4 0) else s

def execEvtSet (w : Req) (v : BitVec 32) (s : State) : Host.Outcome State Fault Refusal :=
  .next (s.regCmd w EVT.EVT_SET (·.doorbell v))

/-- A write that R507 turns away. -/
def State.routeRefused (s : State) : State := (s.set EVT.EVT_ERR'ROUTE_REFUSED 1).refusal 23

/-- A write of EVT_ROUTE (R507). -/
def State.routeWrite (s : State) (w : Req) (e : Nat) (v : Word) : State :=
  if !s.hostOrSupv w ∨ bitsOf v 17 16 = 3 then s.routeRefused
  else if s.b EVT.EVT_LOCK'LOCK then s
  else s.wr (EVT.EVT_ROUTE e) (v &&& 0x0003FF1F)

def execEvtRouteWrite (w : Req) (e : Fin 256) (v : BitVec 32) (s : State) : Host.Outcome State Fault Refusal :=
  .next (s.regCmd w (EVT.EVT_ROUTE e) (·.routeWrite w e v))

/-- A write of EVT_HOLDOFF or EVT_LOCK (R507). -/
def State.evtGuarded (s : State) (w : Req) (a : Nat) (v : Word) : State :=
  if s.hostOrSupv w then s.plainWrite a v else s.routeRefused

/-! ### MSI-X (R506, R510) -/

/-- The enabled, pending events routed to vector `k`. -/
def State.vecEvents (s : State) (k : Nat) : List Nat :=
  (upto 256).filter fun e => s.evtPending e && s.evtEnabled e && s.f (EVT.EVT_ROUTE'KIND e) == 1
    && s.f (EVT.EVT_ROUTE'VECTOR e) == k

/-- The vector is armed and has an event to send. -/
def State.vecReady (s : State) (k : Nat) : Bool := !bit s.evt.disarmed k && !(s.vecEvents k).isEmpty

/-- Every condition of R506 for a message of vector `k` but the holdoff; in D3hot messages are held (R496). -/
def State.vecOpen (s : State) (k : Nat) : Bool :=
  s.domOn pdHOST && s.b SYS.HOST_CFG'PCIE_UP && !s.b SYS.HOST_CFG'HOST_PROXY && !s.b (EVT.MSIX_CTRL'MASK k)
    && s.evt.bme && !s.evt.d3

/-- PBA bit of a vector: its message waits while it is masked or Bus Master Enable is clear (R506). -/
def State.pba (s : State) : Nat :=
  (upto 32).foldl (fun m k => setBit m k (s.vecReady k && (s.b (EVT.MSIX_CTRL'MASK k) || !s.evt.bme))) 0

/-- The instant at which the holdoff of vector `k` has passed. -/
def State.vecDue (s : State) (k : Nat) : Nat :=
  if s.evt.lastMsg.get k = 0 then 0 else s.evt.lastMsg.get k - 1 + us (s.f (EVT.EVT_HOLDOFF'US k))

/-- A vector sends its message, at the earliest at the end of its holdoff (R506). -/
def State.msix (s : State) (k : Nat) : State :=
  if !s.vecReady k ∨ !s.vecOpen k then s
  else
    have t := s.advanceTo (s.vecDue k)
    have oldest := ((s.vecEvents k).map (fun e => s.evt.raisedAt.get e - 1)).foldl min t.ns
    have t := { t with evt := { t.evt with disarmed := setBit t.evt.disarmed k true, lastMsg := t.evt.lastMsg.set k (t.ns + 1), sent := t.evt.sent.set k (t.evt.sent.get k + 1) } }
    (t.hist 8 (t.ns - oldest)).work 23

def execMsixMessage (k : Fin 32) (s : State) : Host.Outcome State Fault Refusal := .next (s.msix k)

/-! ### The PCIe link (R495, R496) -/

/-- The link trains up, or goes down. -/
def State.pcieLink (s : State) (up : Bool) (width speed : Nat) : State :=
  if up ∧ !s.domOn pdHOST then s
  else ((s.setB SYS.HOST_CFG'PCIE_UP up).set SYS.HOST_CFG'WIDTH (if up then 2 ^ width else 0)).set SYS.HOST_CFG'SPEED
    (if up then speed + 1 else 0)

def execPcieLinkChange (up : Bool) (width speed : Fin 3) (s : State) : Host.Outcome State Fault Refusal :=
  .next (s.pcieLink up width speed)

/-- A configuration write changes Bus Master Enable and the power state (D0 or D3hot). -/
def State.pcieConfig (s : State) (bme d3 : Bool) : State :=
  if s.domOn pdHOST ∧ s.b SYS.HOST_CFG'PCIE_UP then { s with evt := { s.evt with bme := bme, d3 := d3 } } else s

def execPcieConfigWrite (bme d3 : Bool) (s : State) : Host.Outcome State Fault Refusal := .next (s.pcieConfig bme d3)

end Sys2Proof.Machine
end

