-- ==== Sys2Proof/Machine/Fb.lean ====
section
/-!
DEFINITION. Tooth-track feedback and compare (spec/06_position_feedback.md), with the axis fault reaction that a
feedback fault starts (R168).
-/
namespace Sys2Proof.Machine
open Sys2Proof

def axDISABLED : Nat := 0
def axRUN : Nat := 1
def axTRIPPED : Nat := 2
def axFAULT : Nat := 3

/-- The axis fault reaction (R168): the group trips through the path of FORCE_TRIP, the first cause is recorded, the
axis enters FAULT and EVT[48] is raised. On an axis that is DISABLED and not enabled nothing starts (log entry 12). -/
def State.axFault (s : State) (a cause : Nat) : State :=
  have st := s.f (CTL.AX_STAT'STATE a)
  if (st = axDISABLED ∧ !s.b (CTL.AX_CTRL'EN a)) ∨ st = axFAULT then s
  else
    (((((s.groupTripLatch (s.axGroup a) 0xF0).set (CTL.AX_STAT'FAULT_CAUSE a) cause).set (CTL.AX_STAT'STATE a) axFAULT).sat
      (CTL.AX_CNT'FAULT_CNT a)).raise 48)

def State.fbc (s : State) (c : Nat) : FbCh := s.fb.ch.get c

def State.setFbc (s : State) (c : Nat) (x : FbCh) : State := { s with fb := { s.fb with ch := s.fb.ch.set c x } }

/-- The axis slot whose feedback channel is `c`, if any. -/
def State.fbAxis (s : State) (c : Nat) : Option Nat := (upto 64).find? (fun a => s.axUsed a && (s.axTopo a).fb == c)

/-- INC_REV (R128). -/
def State.incRev (s : State) (c : Nat) : Nat := 4 * (s.f (FB.FB_CFG'TPR_M1 c) + 1)

/-- A feedback fault (R134, R141, R143, R147): the first cause is recorded, the axis fault reaction starts,
and a portal that the channel serves is no longer HOMED (R385). -/
def State.fbFault (s : State) (c cause : Nat) : State :=
  have t := if s.b (FB.FB_STAT'FB_FAULT c) then s
    else (s.set (FB.FB_STAT'FB_FAULT c) 1).set (FB.FB_STAT'FAULT_CAUSE c) cause
  have t := t.each ((upto 8).filter (fun p =>
    have q := t.cfg.portals.getD p default
    q.used && !q.posLs && q.fb == c)) fun p u => u.set (PORT.PORT_STAT'HOMED p) 0
  match t.fbAxis c with
  | some a => t.axFault a 1
  | none => t

/-! ### Position word (R135-R138) -/

/-- A number reduced to a signed 32-bit integer. -/
def wrap32 (x : Int) : Int := sxN 32 (uN 32 x)

/-- Present direction: +1 or −1. -/
def State.fbDir (s : State) (c : Nat) : Int := if s.b (FB.FB_STAT'DIR c) then -1 else 1

/-- The interpolated fraction now, 0-255 (R136). -/
def State.fbFrac (s : State) (c : Nat) : Nat :=
  have x := s.fbc c
  if x.still then x.fracHold
  else if x.edgesSince < 2 then 0
  else match x.times with
    | t0 :: t1 :: _ => min 255 ((s.time.ticks - t0) * 256 / max 1 (t0 - t1))
    | _ => 0

/-- The position word, in 1/256 increment (R135, R136). -/
def State.posWord (s : State) (c : Nat) : Int := (s.fbc c).pos * 256 + s.fbDir c * s.fbFrac c

/-- A 40-bit word written to a LO and HI register pair, HI sign-extended. -/
def State.wr40 (s : State) (lo hi : Nat) (v : Int) : State :=
  have n := uN 40 v
  (s.wrN lo (n % 2 ^ 32)).wrI hi (sxN 8 (n / 2 ^ 32))

/-- A 40-bit signed word read from a LO and HI register pair. -/
def State.rd40 (s : State) (lo hi : Nat) : Int := sxN 40 (s.rdN lo + s.rdN hi % 256 * 2 ^ 32)

def State.posBnd (s : State) (c : Nat) : Int := s.rd40 (FB.POS_BND_LO c) (FB.POS_BND_HI c)
def State.posMid (s : State) (c : Nat) : Int := s.rd40 (FB.POS_MID_LO c) (FB.POS_MID_HI c)

/-- Every channel latches POS_MID at the carrier midpoint (R137). -/
def State.fbMid (s : State) : State :=
  s.each (upto 72) fun c t => t.wr40 (FB.POS_MID_LO c) (FB.POS_MID_HI c) (s.posWord c)

/-! ### Speed (R139, R140) -/

/-- W takes its step from the SPEED formed at the previous boundary (R140). -/
def State.fbWeight (s : State) (c : Nat) : State :=
  have x := s.fbc c
  have n := max 1 (s.f (FB.SPD_CFG2'BLEND_N c))
  have sp := (s.rdI (FB.SPEED c)).natAbs
  have w := if s.b (FB.FB_STAT'STILL c) then 0
    else if s.f (FB.SPD_CFG'SPD_HI c) * 256 < sp then min n (x.wSteps + 1)
    else if sp < s.f (FB.SPD_CFG'SPD_LO c) * 256 then min n (x.wSteps - 1)
    else min n x.wSteps
  (s.setFbc c { x with wSteps := w }).set (FB.FB_STAT'W_Q8 c) (uN 9 (rdiv (256 * w) n))

/-- The period estimate Vp as numerator and denominator in 2^-16 increments per µs (R139); `none` before five edges
have been counted, where the spec states no value (log entry 2). -/
def State.fbVp (s : State) (c : Nat) : Option (Int × Nat) :=
  match (s.fbc c).times with
  | [t0, _, _, _, t4] =>
    have d := s.fbDir c
    have span := max 1 (t0 - t4)
    have e := s.time.ticks - t0
    if span < 4 * e then some (d * 26214400, e) else some (d * 104857600, span)
  | _ => none

/-- SPEED at an L0 boundary (R139, R140), from the two POS_BND words. -/
def State.fbSpeed (s : State) (c : Nat) (old new : Int) : State :=
  if s.b (FB.FB_STAT'STILL c) then s.wrN (FB.SPEED c) 0
  else match s.fbVp c with
    | none => let (v, t) := s.fresh 32; t.wrN (FB.SPEED c) v
    | some (a, b) =>
      have n := max 1 (s.f (FB.SPD_CFG2'BLEND_N c))
      have w : Int := (s.fbc c).wSteps
      have t0 := max 1 s.t0
      have d := sxN 40 (uN 40 (new - old)) * 256000
      s.wrI (FB.SPEED c) (satI 32 (rdiv (a * n * t0 + w * (d * b - a * t0)) (b * t0 * n)))

/-- One channel at an L0 boundary: POS_BND, then W, then SPEED (R137, R140). -/
def State.fbBnd (s : State) (c : Nat) : State :=
  have old := s.posBnd c
  have new := s.posWord c
  ((s.wr40 (FB.POS_BND_LO c) (FB.POS_BND_HI c) new).fbWeight c).fbSpeed c (sxN 40 (uN 40 old)) new

/-- All channels at an L0 boundary. -/
def State.fbL0 (s : State) : State := if !s.domOn pdCTL then s else s.each (upto 72) fun c t => t.fbBnd c

/-! ### Reference (R129-R134) -/

/-- A mismatch (R132-R134). -/
def State.fbMismatch (s : State) (c : Nat) (delta : Int) : State :=
  have x := s.fbc c
  have s := ((s.set (FB.FB_STAT'REF_MISMATCH c) 1).sat (FB.REF_CNT'MISMATCH_CNT c)).set (FB.REF_CNT'MISMATCH_DELTA c)
    (uN 16 delta)
  have s := (s.setFbc c { x with run := min 2 (x.run + 1) }).raise 40
  if 1 ≤ x.run then s.fbFault c 1 else s

/-- A reference anomaly is detected at the present edge (R131, R132). -/
def State.fbDetect (s : State) (c : Nat) : State :=
  have x := s.fbc c
  have d := s.fbDir c
  have rp := if s.f (FB.FB_CFG'REF_KIND c) = 0 then wrap32 (x.pos - 4 * d) else x.pos
  have s := (s.wrI (FB.REF_POS c) rp).inc (FB.REF_CNT'DETECT_CNT c)
  have s := s.setFbc c { x with refPt := rp }
  if !s.b (FB.FB_STAT'REF_SEEN c) then (s.wrI (FB.REF_ORIGIN c) rp).set (FB.FB_STAT'REF_SEEN c) 1
  else
    have m : Int := s.incRev c
    have r := wrap32 (rp - s.rdI (FB.REF_ORIGIN c)) % m
    have delta := if m / 2 ≤ r then r - m else r
    if delta.natAbs ≤ 1 then s.setFbc c { s.fbc c with run := 0 } else s.fbMismatch c delta

/-- The missed-reference test after a counted edge (R133). -/
def State.fbMissed (s : State) (c : Nat) : State :=
  have x := s.fbc c
  have m : Int := s.incRev c
  have d := wrap32 (x.pos - x.refPt)
  if s.b (FB.FB_STAT'REF_SEEN c) ∧ m + 4 < d.natAbs then
    have s := s.setFbc c { x with refPt := wrap32 (x.refPt + (if 0 < d then m else -m)) }
    (s.set (FB.FB_STAT'REF_MISSED c) 1).fbMismatch c 0
  else s

/-- A rising TRACK edge ends a period: the test of R129. -/
def State.fbPeriodEnd (s : State) (c : Nat) : State :=
  have x := s.fbc c
  have now := s.time.ticks
  have per := now + 1 - x.lastRise
  have dirs := (x.curDir :: x.dirs).take 3
  have y := { x with lastRise := now + 1, curDir := 0, dirs := dirs }
  if x.lastRise = 0 then s.setFbc c { y with dirs := [] }
  else if x.skipTest then s.setFbc c { y with skipTest := false }
  else if x.regular = 0 then s.setFbc c { y with regular := per }
  else
    have kind := s.f (FB.FB_CFG'REF_KIND c)
    have odd := (kind == 0 && decide (3 * x.regular < 2 * per)) || (kind == 1 && decide (10 * per < 6 * x.regular))
    if !odd then s.setFbc c { y with regular := per }
    else
      have t := s.setFbc c { y with skipTest := true }
      if dirs = [1, 1, 1] ∨ dirs = [2, 2, 2] then t.fbDetect c else t

/-! ### Compare (R144-R146) -/

/-- Outputs whose source is the compare line of channel `c` (R474). -/
def State.cmpOutputs (s : State) (c : Nat) : List Nat :=
  (upto 16).filter (fun i => s.f DIO.DIO_OUT_SRC'SRC / 4 ^ i % 4 == 1
    && s.rdN (DIO.DIO_CMP_SEL (i / 4)) / 256 ^ (i % 4) % 256 == c)

/-- Output `i` may be on: its group has no latch and it has no overload latch (R475, R476). -/
def State.foFree (s : State) (i : Nat) : Bool :=
  !bit s.dio.silent (i / 8) && !bit s.dio.uv (i / 8) && !s.fbit DIO.DIO_OVLD'OVLD i

/-- Output `i` is joined to the even output before it (R475). -/
def State.foJoined (s : State) (i : Nat) : Bool := i % 2 == 1 && s.fbit DIO.DIO_PAR'PAR (i / 2)

/-- Output `i` is switched at the field side; the readback follows (R471). -/
def State.foPut (s : State) (i : Nat) (on : Bool) : State :=
  { s with dio := { s.dio with foOn := setBit s.dio.foOn i on } }.iff (s.domOn pdCTL) (·.setBitF DIO.DIO_OUT_ACT'ACT i on)

/-- A pulse on the compare line of channel `c` (R144); field outputs that select the line turn on (R474). -/
def State.cmpPulse (s : State) (c : Nat) : State :=
  have s := s.setFbc c { s.fbc c with pulse := true, pulseNs := s.ns }
  have s := if s.b (FB.CMP_CTRL'CMP_EVT_EN c) then s.raise 41 else s
  s.each (s.cmpOutputs c) fun i t =>
    have t := { t with dio := { t.dio with cmpOn := setBit t.dio.cmpOn i true, cmpNs := t.dio.cmpNs.set i t.ns } }
    if t.foFree i ∧ !t.foJoined i then t.foPut i true else t

/-- A hit: pulse, HITS, event (R144). -/
def State.cmpHit (s : State) (c : Nat) : State := (s.inc (FB.CMP_STAT'HITS c)).cmpPulse c

/-- The direction of CMP_CTRL.DIR. -/
def State.cmpDir (s : State) (c : Nat) : Int := if s.b (FB.CMP_CTRL'DIR c) then -1 else 1

/-- A counted edge in direction `d` reaches or passes CMP_VAL (R144). -/
def State.cmpEdge (s : State) (c : Nat) (d : Int) : State :=
  have v := s.rdI (FB.CMP_VAL c)
  have dir := s.cmpDir c
  if s.b (FB.CMP_CTRL'EN c) ∧ d = dir ∧ wrap32 (v - (s.fbc c).pos) * dir ≤ 0 then
    have sp := s.rdN (FB.CMP_SPACING c)
    have s := s.cmpHit c
    if sp = 0 then s.set (FB.CMP_CTRL'EN c) 0 else s.wrI (FB.CMP_VAL c) (wrap32 (v + dir * sp))
  else s

/-- A write of CMP_VAL with the behind test (R145). -/
def State.cmpValWrite (s : State) (c : Nat) (v : Word) : State :=
  have s := (s.wr (FB.CMP_VAL c) v).setFbc c { s.fbc c with busyTick := s.time.ticks + 1 }
  have dir := s.cmpDir c
  have lag := -(wrap32 (v.toInt - (s.fbc c).pos) * dir)
  if lag ≤ 0 then s
  else
    have sp := s.rdN (FB.CMP_SPACING c)
    have once := s.b (FB.CMP_CTRL'MODE c)
    have n := if sp = 0 then 1 else (lag.toNat + sp - 1) / sp
    have s := if once then s.cmpHit c else s
    have s := s.sat (FB.CMP_STAT'SKIPPED c) (if once then n - 1 else n)
    if sp = 0 then s.set (FB.CMP_CTRL'EN c) 0 else s.wrI (FB.CMP_VAL c) (wrap32 (v.toInt + dir * (n * sp : Nat)))

/-- A write of CMP_VAL (R145). -/
def execCmpValWrite (w : Req) (c : Fin 72) (v : Word) (s : State) : Host.Outcome State Fault Refusal :=
  .next (s.regCmd w (FB.CMP_VAL c) (·.cmpValWrite c v))

/-- The compare pulse ends after (PW + 1) × 10 ns (R144). -/
def execComparePulseEnd (c : Fin 72) (s : State) : Host.Outcome State Fault Refusal :=
  .next (if s.domOn pdCTL ∧ (s.fbc c).pulse then
    have t := s.advanceTo ((s.fbc c).pulseNs + 10 * (s.f (FB.CMP_CTRL'PW c) + 1))
    t.setFbc c { t.fbc c with pulse := false } else s)

/-! ### Counting (R126-R130) -/

/-- `k` increments are counted in direction `d` at the present instant (R130, R135, R136, R138). -/
def State.fbCount (s : State) (c : Nat) (d : Int) (k : Nat) : State :=
  have x := s.fbc c
  have code := if 0 < d then 1 else 2
  have y := { x with pos := wrap32 (x.pos + d * k), times := (s.time.ticks :: x.times).take 5, lastEdge := s.time.ticks, still := false,
                     edgesSince := min 2 (x.edgesSince + 1), curDir := if x.curDir = 0 ∨ x.curDir = code then code else 3 }
  have t := (s.setFbc c y).setB (FB.FB_STAT'DIR c) (decide (d < 0))
  have t := (t.set (FB.FB_STAT'STILL c) 0).setB (FB.FB_STAT'INTERP_VALID c) (y.edgesSince == 2)
  (t.work 7).cmpEdge c d

/-- The direction of a step of the filtered levels: TRACK leading PHASE is forward (R126), DIR_INV reverses it. -/
def State.fbStepDir (s : State) (c : Nat) (isTrack : Bool) (track phase : Bool) : Int :=
  have fwd := if isTrack then track != phase else track == phase
  if fwd == s.b (FB.FB_CFG'DIR_INV c) then -1 else 1

/-- The channel is watched and counts: enabled, and no pair of legs is bad (R141). -/
def State.fbCounts (s : State) (c : Nat) : Bool :=
  s.b (FB.FB_CFG'EN c) && !s.b (FB.WIRE_STAT'TRACK_BAD c) && !s.b (FB.WIRE_STAT'PHASE_BAD c)

/-- A TRACK edge (R129, R130). "The previous rising edge" of an extra tooth is the last one that R130 does not leave out: measured
from the extra tooth itself the next regular edge would be left out too, against the increments of the pitch (log entry 10). -/
def State.fbTrackEdge (s : State) (c : Nat) (level : Bool) : State :=
  have x := s.fbc c
  have s := s.setFbc c { x with lastWasPhase := false, gapProv := false }
  have d := s.fbStepDir c true level x.phase
  have soon := s.f (FB.FB_CFG'REF_KIND c) == 1 && x.regular != 0 && x.lastReg != 0
    && decide (10 * (s.time.ticks + 1 - x.lastReg) < 6 * x.regular)
  if level then
    if soon then (s.setFbc c { s.fbc c with skipTrack := true, track := x.track }).fbPeriodEnd c
    else ((s.setFbc c { s.fbc c with track := true, lastReg := s.time.ticks + 1 }).fbCount c d 1).fbPeriodEnd c
  else if x.skipTrack then s.setFbc c { s.fbc c with skipTrack := false }
  else (s.setFbc c { s.fbc c with track := false }).fbCount c d 1

/-- A PHASE edge. Within the gap of a missing tooth an edge with no TRACK edge before it counts two increments in the
present direction (R130); an edge before the gap was recognised, counted as a quadrature step against the motion, is
then recounted so that the counter advances by the increments of the pitches it spans (log entry 10). -/
def State.fbPhaseEdge (s : State) (c : Nat) (level : Bool) : State :=
  have x := s.fbc c
  have d := s.fbStepDir c false x.track level
  have gap := s.f (FB.FB_CFG'REF_KIND c) == 0 && x.regular != 0 && x.lastRise != 0 && x.lastWasPhase
    && decide (3 * x.regular < 2 * (s.time.ticks + 1 - x.lastRise))
  have s := s.setFbc c { x with phase := level, lastWasPhase := true, gapProv := false }
  if gap then
    if x.gapProv then
      have was := -(s.fbDir c)
      (s.setFbc c { s.fbc c with curDir := x.provDir }).fbCount c was 5
    else s.fbCount c (s.fbDir c) 2
  else
    have t := s.fbCount c d 1
    if x.lastWasPhase ∧ d ≠ s.fbDir c then t.setFbc c { t.fbc c with gapProv := true, provDir := x.curDir } else t

/-- The live leg levels as the filtered levels show them; the legs of a bad pair stand as they were seen (R141, R149). -/
def State.fbLegs (s : State) (c : Nat) (track phase : Bool) : State :=
  have two := fun (b : Bool) => if b then 1 else 2
  have old := s.f (FB.WIRE_STAT'LEGS c)
  s.set (FB.WIRE_STAT'LEGS c) ((if s.b (FB.WIRE_STAT'TRACK_BAD c) then old % 4 else two track)
    + 4 * (if s.b (FB.WIRE_STAT'PHASE_BAD c) then old / 4 else two phase))

/-- New filtered levels: one signal changed is a count, both at once an illegal transition (R127), whose rising TRACK edge
still ends a period (R129). A channel that does not count follows the levels only. A reference that the edge itself detects
comes before the test for a missed one (R133). -/
def State.fbEdge (s : State) (c : Nat) (track phase : Bool) : State :=
  have s := s.setFbc c { s.fbc c with busyTick := s.time.ticks + 1 }
  have x := s.fbc c
  if !s.fbCounts c then s.setFbc c { x with track := track, phase := phase, skipTrack := false }
  else
    have tr := x.track != track && !(x.skipTrack && track)
    match tr || (x.skipTrack && !track), x.phase != phase with
    | true, true =>
      have t := (s.setFbc c { x with track := track, phase := phase, skipTrack := false, lastWasPhase := false, gapProv := false }).sat
        (FB.FB_STAT'QERR_CNT c)
      if track && !x.track then (t.setFbc c { t.fbc c with lastReg := t.time.ticks + 1 }).fbPeriodEnd c else t
    | true, false => (s.fbTrackEdge c track).fbMissed c
    | false, true => (s.fbPhaseEdge c phase).fbMissed c
    | false, false => s

/-- The legs of a channel show `track` and `phase` from `n` CTL counts on, and have held there for `hold` counts: only levels
that hold for FILT counts reach the filtered legs (R127). The edge comes at a count after the channel's latest edge or write of
CMP_VAL: both signals at one count are one command (log entry 10). -/
def State.fbSignal (s : State) (c n : Nat) (track phase : Bool) (hold : Nat) : State :=
  if !s.domOn pdCTL then s
  else
    have t := (s.edges (if n = 0 ∧ (s.fbc c).busyTick = s.time.ticks + 1 then 1 else n)).fbLegs c track phase
    if hold < t.f (FB.FB_CFG'FILT c) then t else t.fbEdge c track phase

/-- A TRACK or PHASE edge (R127). -/
def execFbEdge (c : Fin 72) (track phase : Bool) (n : Held Nat) (s : State) : Host.Outcome State Fault Refusal :=
  .next (s.fbSignal c n.v track phase n.held)

/-! ### Standstill, wire check, faults -/

/-- No counted edge for STILL_T µs (R138). -/
def State.stillTimeout (s : State) (c : Nat) : State :=
  if s.domOn pdCTL ∧ !s.b (FB.FB_STAT'STILL c) then
    have s := s.edges ((s.fbc c).lastEdge + 400 * s.f (FB.SPD_CFG2'STILL_T c) - s.time.ticks)
    have s := s.setFbc c { s.fbc c with still := true, fracHold := s.fbFrac c, edgesSince := 0 }
    (s.set (FB.FB_STAT'STILL c) 1).set (FB.FB_STAT'INTERP_VALID c) 0
  else s

def execStillTimeout (c : Fin 72) (s : State) : Host.Outcome State Fault Refusal := .next (s.stillTimeout c)

/-- Leg levels that have held for `held` counts of 2.5 ns: a pair whose legs have been equal for over 200 ns is bad while they
are equal; its turning bad sets the wire fault, and counting stops while it lasts (R141). -/
def State.wireFault (s : State) (c legs held : Nat) : State :=
  if !s.domOn pdCTL then s else
  have bad := fun (was eq : Bool) => eq && (was || decide (80 < held))
  have tb := bad (s.b (FB.WIRE_STAT'TRACK_BAD c)) (bit legs 0 == bit legs 1)
  have pb := bad (s.b (FB.WIRE_STAT'PHASE_BAD c)) (bit legs 2 == bit legs 3)
  have new := (tb && !s.b (FB.WIRE_STAT'TRACK_BAD c)) || (pb && !s.b (FB.WIRE_STAT'PHASE_BAD c))
  have counts := s.fbCounts c
  have x := s.fbc c
  have hold := s.fbFrac c
  have s := ((s.set (FB.WIRE_STAT'LEGS c) legs).setB (FB.WIRE_STAT'TRACK_BAD c) tb).setB (FB.WIRE_STAT'PHASE_BAD c) pb
  if new then
    have s := s.setFbc c { x with still := true, fracHold := hold, edgesSince := 0, lastRise := 0, lastReg := 0, lastWasPhase := false, gapProv := false }
    have s := ((s.set (FB.FB_STAT'WIRE c) 1).set (FB.FB_STAT'INTERP_VALID c) 0)
    (s.raise 40).fbFault c 2
  else if counts ∨ tb ∨ pb then s
  else s.setFbc c { x with track := bit legs 0, phase := bit legs 2 }

/-- Both legs of a pair equal for over 200 ns (R141), or sound again. -/
def execWireFault (c : Fin 72) (legs : Held (Fin 16)) (s : State) : Host.Outcome State Fault Refusal :=
  .next (s.wireFault c legs.v legs.held)

/-- The cause of a standing feedback fault persists (R142): a bad pair of legs, or the last difference above TOL. -/
def State.fbCausePersists (s : State) (c : Nat) : Bool :=
  s.b (FB.WIRE_STAT'TRACK_BAD c) || s.b (FB.WIRE_STAT'PHASE_BAD c) ||
  (s.f (FB.FB_STAT'FAULT_CAUSE c) == 3 && decide (s.f (FB.XCHK_CFG'TOL c) < (s.fbc c).xDiff.natAbs))

/-- FB_CMD (R142, R148). -/
def State.fbCmdWrite (s : State) (c : Nat) (v : Word) : State :=
  have s := if bit v.toNat 0 ∧ s.b (FB.FB_STAT'FB_FAULT c) then
      if s.fbCausePersists c then (s.set (FB.FB_STAT'CLR_REJECTED c) 1).refusal 7
      else
        have t := ((s.set (FB.FB_STAT'FB_FAULT c) 0).set (FB.FB_STAT'REF_SEEN c) 0).setFbc c { s.fbc c with run := 0 }
        t.set (FB.FB_STAT'FAULT_CAUSE c) 0
    else s
  if bit v.toNat 1 then
    if s.b (FB.FB_STAT'STILL c) then s.setFbc c { s.fbc c with alignPend := true }
    else (s.set (FB.FB_STAT'ALIGN_REFUSED c) 1).refusal 7
  else s

/-- FB_CMD.FAULT_CLR clears a feedback fault unless its cause persists (R142). -/
def execFbFaultClr (w : Req) (c : Fin 72) (s : State) : Host.Outcome State Fault Refusal :=
  .next (s.regCmd w (FB.FB_CMD c) (·.fbCmdWrite c 1))

/-- FB_CMD.ALIGN sets XCHK_OFS at standstill or is refused (R148). -/
def execFbAlign (w : Req) (c : Fin 72) (s : State) : Host.Outcome State Fault Refusal :=
  .next (s.regCmd w (FB.FB_CMD c) (·.fbCmdWrite c 2))

/-! ### Configuration (R149) -/

/-- EN passes from 0 to 1: the position word is 0 and the channel starts afresh (R131, R135, R148). -/
def State.fbEnabled (s : State) (c : Nat) : State :=
  have x := s.fbc c
  have s := s.setFbc c { (default : FbCh) with track := x.track, phase := x.phase, pulse := x.pulse, pulseNs := x.pulseNs, lastEdge := x.lastEdge, busyTick := x.busyTick, bndL2 := x.bndL2, xDiff := x.xDiff }
  ((s.set (FB.FB_STAT'REF_SEEN c) 0).set (FB.FB_STAT'INTERP_VALID c) 0).set (FB.FB_STAT'ALIGNED c) 0

/-- The register of a feedback configuration write. -/
def fbCfgReg (c r : Nat) : Nat :=
  match r with | 0 => FB.FB_CFG c | 1 => FB.SPD_CFG c | 2 => FB.SPD_CFG2 c | _ => FB.XCHK_CFG c

/-- A feedback configuration write (R149): in M3 only for the channel of an axis; SPD_LO must be below SPD_HI (R140). -/
def State.fbCfgWrite (s : State) (c r : Nat) (v : Word) : State :=
  if (s.fbAxis c).isSome ∧ s.mode ≠ 3 then (s.set FB.FB_ERR'CFG_REFUSED 1).refusal 7
  else if r = 1 ∧ bitsOf v 31 16 ≤ bitsOf v 15 0 then s
  else
    have en0 := s.b (FB.FB_CFG'EN c)
    have t := s.plainWrite (fbCfgReg c r) v
    if !en0 && t.b (FB.FB_CFG'EN c) then t.fbEnabled c else t

/-- A feedback configuration write (R149). -/
def execFbCfgWrite (w : Req) (c : Fin 72) (r : Fin 4) (v : Word) (s : State) : Host.Outcome State Fault Refusal :=
  .next (s.regCmd w (fbCfgReg c r) (·.fbCfgWrite c r v))

/-! ### Joint-side cross-check (R147, R148) -/

/-- One check at an L2 boundary: the hub value of AGE 1, or its age (R147, R148). `val`: `none` where the stored value
is of another age. -/
def State.xCheck (s : State) (c : Nat) (val : Option Int) : State :=
  if !s.b (FB.XCHK_CFG'EN c) then s
  else match val with
    | none => s.sat (FB.XCHK_DIFF'XCHK_SKIP c)
    | some v =>
      have x := s.fbc c
      have conv := wrap32 (rshr (v * s.rdI (FB.XCHK_RATIO c)) 16)
      have raw := wrap32 (conv - x.bndL2)
      have aligned := s.b (FB.FB_STAT'ALIGNED c)
      have auto := s.b (FB.XCHK_CFG'AUTO_ALIGN c) && !aligned && s.b (FB.FB_STAT'STILL c)
      if x.alignPend || auto then
        have s := ((s.wrI (FB.XCHK_OFS c) raw).set (FB.FB_STAT'ALIGNED c) 1).set (FB.XCHK_DIFF'DIFF c) 0
        s.setFbc c { x with alignPend := false, xRun := 0, xDiff := 0 }
      else if !aligned then s
      else
        have d := wrap32 (raw - s.rdI (FB.XCHK_OFS c))
        have s := s.set (FB.XCHK_DIFF'DIFF c) (uN 16 (clampI (-32767) 32767 d))
        have x := { x with xDiff := d }
        if s.f (FB.XCHK_CFG'TOL c) < d.natAbs then
          have s := (s.set (FB.FB_STAT'XCHK_WARN c) 1).setFbc c { x with xRun := min 15 (x.xRun + 1) }
          if s.f (FB.XCHK_CFG'N c) ≤ x.xRun + 1 then s.fbFault c 3 else s
        else s.setFbc c { x with xRun := 0 }

/-- The integer part of POS_BND is kept at each L2 boundary for the next check (R147). -/
def State.fbL2 (s : State) : State :=
  s.each (upto 72) fun c t => t.setFbc c { t.fbc c with bndL2 := s.posBnd c / 256 }

end Sys2Proof.Machine
end

