-- ==== Sys2Proof/Machine/Dio.lean ====
section
/-!
DEFINITION. 24 V field inputs and outputs (spec/20_field_io.md).
-/
namespace Sys2Proof.Machine
open Sys2Proof

/-- SRC of output `i` (R474). -/
def State.foSrc (s : State) (i : Nat) : Nat := s.f DIO.DIO_OUT_SRC'SRC / 4 ^ i % 4

/-- The state that the source of output `i` asks for (R474); the standby holds RUN_OPEN and RUN_CLOSE off (R452). -/
def State.foAsk (s : State) (i : Nat) : Bool :=
  match s.foSrc i with
  | 0 => s.fbit DIO.DIO_OUT'OUT i
  | 1 => bit s.dio.cmpOn i
  | 2 => bit s.dio.portOut i && s.b FYV.PAIR_STAT'ACTIVE
  | _ => false

/-- The outputs take their states at a refresh (R471, R474-R476). -/
def State.foRefresh (s : State) (g : Nat) : State :=
  s.each ((upto 8).map (· + 8 * g)) fun i t =>
    have k := if t.foJoined i then i - 1 else i
    t.foPut i (t.foAsk k && t.foFree k && t.foFree i)

/-- Every output of a group goes off. -/
def State.foOff (s : State) (g : Nat) : State :=
  s.each ((upto 8).map (· + 8 * g)) fun i t => t.foPut i false

/-- The latches of a group clear (R476). -/
def State.grpRestore (s : State) (g : Nat) : State :=
  have s := { s with dio := { s.dio with silent := setBit s.dio.silent g false, uv := setBit s.dio.uv g false } }
  ((s.set (DIO.DIO_GRP_STAT'UV_LATCH g) 0).set (DIO.DIO_GRP_STAT'SILENT g) 0).set (DIO.DIO_GRP_STAT'RESTORE_READY g) 0

/-- AUTO_RESTORE acts on a sag latch without SILENT once RESTORE_READY = 1 (R476). -/
def State.autoRestore (s : State) (g : Nat) : State :=
  if s.b (DIO.DIO_GRP_CTRL'AUTO_RESTORE g) ∧ s.b (DIO.DIO_GRP_STAT'RESTORE_READY g) ∧ bit s.dio.uv g ∧ !bit s.dio.silent g
  then s.grpRestore g else s

/-- The field side samples VF of a group (R476): from when on it lies below 16 V, and at or above 19.2 V. -/
def State.vfSample (s : State) (g v : Nat) : State :=
  have since := fun (on : Bool) (was : Nat) => if !on then 0 else if was = 0 then s.ns else was
  { s with dio := { s.dio with uvFrom := s.dio.uvFrom.set g (since (decide (v < 1600)) (s.dio.uvFrom.get g)), okFrom := s.dio.okFrom.set g (since (decide (1920 ≤ v)) (s.dio.okFrom.get g)) } }

/-- The refresh frame of one group (R471, R472, R476). -/
def State.grpRefresh (s : State) (g v : Nat) (err : Bool) : State :=
  if err then s.sat DIO.DIO_LINK'ERR_CNT
  else
    have s := { s with dio := { s.dio with lastRefresh := s.dio.lastRefresh.set g s.ns } }
    have s := (s.set (DIO.DIO_GRP_STAT'VF g) (min v 4095)).setBitF DIO.DIO_LINK'RUN g true
    have s := (s.setB (DIO.DIO_GRP_STAT'SILENT g) (bit s.dio.silent g)).setB (DIO.DIO_GRP_STAT'UV_LATCH g) (bit s.dio.uv g)
    have low := decide (v < 1920)
    have s := if low && !s.b (DIO.DIO_GRP_STAT'UV_WARN g) then (s.set (DIO.DIO_GRP_STAT'UV_SEEN g) 1).raise 216 else s
    have s := s.setB (DIO.DIO_GRP_STAT'UV_WARN g) low
    have s := if low then s.set (DIO.DIO_GRP_STAT'RESTORE_READY g) 0 else s
    s.foRefresh g

/-- The field side samples both groups, and the couplers exchange their refresh frames, 10 µs after the last time (R471);
nothing is exchanged while CTL is off or held in reset (R472). -/
def State.fieldRefresh (s : State) (v0 v1 : FieldFrame) : State :=
  have s := if s.dio.tickNs = 0 then s else s.advanceTo (s.dio.tickNs + us 10)
  have s := (({ s with dio := { s.dio with tickNs := s.ns } }).vfSample 0 v0.vf.toNat).vfSample 1 v1.vf.toNat
  if s.domOn pdCTL then (s.grpRefresh 0 v0.vf.toNat v0.err).grpRefresh 1 v1.vf.toNat v1.err else s

def execFieldRefresh (vf0 vf1 : FieldFrame) (s : State) : Host.Outcome State Fault Refusal :=
  .next (s.fieldRefresh vf0 vf1)

/-- The field side of a group latches SILENT and switches the group off (R472); the 100 ms of R476 count from the latch. -/
def State.fieldSilent (s : State) (g : Nat) : State :=
  have ok := if bit s.dio.silent g ∨ s.dio.okFrom.get g = 0 then s.dio.okFrom else s.dio.okFrom.set g s.ns
  ({ s with dio := { s.dio with silent := setBit s.dio.silent g true, okFrom := ok } }.foOff g).setBitF DIO.DIO_LINK'RUN g false

/-- 10 ms without a refresh frame: the field side switches its group off and latches SILENT, whatever the state of the
logic side (R472). -/
def execRefreshTimeout (g : Fin 2) (s : State) : Host.Outcome State Fault Refusal :=
  .next ((s.advanceTo (s.dio.lastRefresh.get g + ms 10)).fieldSilent g)

/-- The level of an input, and the 10 µs samples for which it has held: after FILT × 0.1 ms the filtered state follows
(R473). -/
def State.fieldInput (s : State) (i : Nat) (on : Bool) (held : Nat) : State :=
  if !s.domOn pdCTL ∨ s.fbit DIO.DIO_IN'IN i = on ∨ held < 10 * (s.f DIO.DIO_FILT'FILT / 256 ^ (i / 8) % 256) then s
  else
    have t := s.setBitF DIO.DIO_IN'IN i on
    have t := if on then t.setBitF DIO.DIO_IN_RISE'RISE i true else t.setBitF DIO.DIO_IN_FALL'FALL i true
    have t := t.work 21
    if t.fbit DIO.DIO_IN_EVT_EN'EN i then t.raise 216 else t

def execFieldInputChange (i : Fin 32) (on : Held Bool) (s : State) : Host.Outcome State Fault Refusal :=
  .next (s.fieldInput i on.v on.held)

/-- The outputs that an overload of output `i` switches off (R475). -/
def State.foPair (s : State) (i : Nat) : List Nat :=
  if s.fbit DIO.DIO_PAR'PAR (i / 2) then [2 * (i / 2), 2 * (i / 2) + 1] else [i]

/-- An output in current limit for `ns`, or in thermal shutdown: beyond 5 ms it switches off and latches OVLD (R475). -/
def State.outputOverload (s : State) (i ns : Nat) (thermal : Bool) : State :=
  if !thermal ∧ ns ≤ ms 5 then s
  else s.each (s.foPair i) fun k t => (t.foPut k false).iff (t.domOn pdCTL) (·.setBitF DIO.DIO_OVLD'OVLD k true)

def execOutputOverload (o : Overload) (s : State) : Host.Outcome State Fault Refusal :=
  .next (s.outputOverload o.i o.ns o.thermal)

/-- DIO_OVLD_CLR (R475). -/
def State.ovldClr (s : State) (v : Word) : State :=
  s.set DIO.DIO_OVLD'OVLD (s.f DIO.DIO_OVLD'OVLD &&& (65535 - bitsOf v 15 0))

/-- DIO_OVLD_CLR clears overload latches (R475). -/
def execOvldClr (w : Req) (v : Word) (s : State) : Host.Outcome State Fault Refusal :=
  .next (s.regCmd w DIO.DIO_OVLD_CLR (·.ovldClr v))

/-- A compare-driven output turns off 50 µs after its last pulse (R474). -/
def execCompareOutputEnd (i : Fin 16) (s : State) : Host.Outcome State Fault Refusal :=
  .next (if bit s.dio.cmpOn i then
    have t := s.advanceTo (s.dio.cmpNs.get i + us 50)
    have t := { t with dio := { t.dio with cmpOn := setBit t.dio.cmpOn i false } }
    if t.foSrc i = 1 ∧ !t.foJoined i then t.foPut i false else t
    else s)

/-- VF below 16 V at every sample for 1 ms (R476). -/
def State.undervoltage (s : State) (g : Nat) : State :=
  if s.dio.uvFrom.get g = 0 ∨ bit s.dio.uv g then s
  else
    have s := s.advanceTo (s.dio.uvFrom.get g + ms 1)
    have s := { s with dio := { s.dio with uv := setBit s.dio.uv g true } }.foOff g
    if s.domOn pdCTL then (s.set (DIO.DIO_GRP_STAT'UV_LATCH g) 1).raise 216 else s

def execUndervoltageLatch (g : Fin 2) (s : State) : Host.Outcome State Fault Refusal := .next (s.undervoltage g)

/-- VF at or above 19.2 V at every sample for 100 ms, while a latch is set; for SILENT alone only while refresh runs
(R476). -/
def State.restoreReady (s : State) (g : Nat) : State :=
  if !s.domOn pdCTL ∨ s.b (DIO.DIO_GRP_STAT'RESTORE_READY g) ∨ s.dio.okFrom.get g = 0
      ∨ !(bit s.dio.uv g || (bit s.dio.silent g && s.fbit DIO.DIO_LINK'RUN g)) then s
  else
    have s := s.advanceTo (s.dio.okFrom.get g + ms 100)
    ((s.set (DIO.DIO_GRP_STAT'RESTORE_READY g) 1).raise 216).autoRestore g

def execRestoreReady (g : Fin 2) (s : State) : Host.Outcome State Fault Refusal := .next (s.restoreReady g)

/-- DIO_GRP_CTRL (R476). -/
def State.grpCtrlWrite (s : State) (g : Nat) (v : Word) : State :=
  have s := s.set (DIO.DIO_GRP_CTRL'AUTO_RESTORE g) (bitsOf v 0 0)
  if !bit v.toNat 31 then s.autoRestore g
  else if s.b (DIO.DIO_GRP_STAT'RESTORE_READY g) then s.grpRestore g
  else (s.set (DIO.DIO_GRP_STAT'ACK_REFUSED g) 1).refusal 21

/-- DIO_GRP_CTRL.ACK clears latches when RESTORE_READY or is refused (R476). -/
def execGroupAck (w : Req) (g : Fin 2) (s : State) : Host.Outcome State Fault Refusal :=
  .next (s.regCmd w (DIO.DIO_GRP_CTRL g) (fun s =>
    s.grpCtrlWrite g (putBits (s.rd (DIO.DIO_GRP_CTRL g)) 31 31 1)))

/-- A write of DIO_OUT_SRC: 0x2 and 0x3 are ignored, and so is a write to an output whose SRC is 0x2 (R474). -/
def State.outSrcWrite (s : State) (v : Word) : State :=
  s.each (upto 16) fun i t =>
    have n := bitsOf v (2 * i + 1) (2 * i)
    if n ≤ 1 ∧ t.foSrc i ≠ 2 then t.wr DIO.DIO_OUT_SRC (putBits (t.rd DIO.DIO_OUT_SRC) (2 * i + 1) (2 * i) n) else t

/-- A write of DIO_CMP_SEL: a byte above 71 is ignored (R474). -/
def State.cmpSelWrite (s : State) (k : Nat) (v : Word) : State :=
  s.each (upto 4) fun j t =>
    have n := bitsOf v (8 * j + 7) (8 * j)
    if n ≤ 71 then t.wr (DIO.DIO_CMP_SEL k) (putBits (t.rd (DIO.DIO_CMP_SEL k)) (8 * j + 7) (8 * j) n) else t

end Sys2Proof.Machine
end

