-- ==== Sys2Proof/Machine/Trig.lean ====
section
/-!
DEFINITION. Sine, cosine, logarithm and exponential as the rules use them (R156, R178, R191, R252, R365): fixed-point series
whose error lies far below any rounding of a result (log entry 7).
-/
namespace Sys2Proof.Machine
open Sys2Proof

/-- 2 pi and ln 2 in units of 2^-96. -/
def tauQ : Nat := 497805226624462170461043889244
def ln2Q : Nat := 54916777467707473351141471128

/-- The series of sine divided by its argument, from the term of order 2 `n` + 1 down; `y2` is the squared argument in 2^-96. -/
def sinSeries (y2 : Int) : Nat → Int → Int
  | 0, r => r
  | n + 1, r => sinSeries y2 n (2 ^ 96 - y2 * r / 2 ^ 96 / ((2 * n + 2) * (2 * n + 3) : Nat))

/-- Sine of an angle from 0 to a quarter turn, given in 2^-96 turn, in units of 2^-80. -/
def sinQuarter (k : Nat) : Int :=
  have y : Int := (k * tauQ / 2 ^ 96 : Nat)
  (y * sinSeries (y * y / 2 ^ 96) 24 (2 ^ 96) / 2 ^ 96 + 2 ^ 15) / 2 ^ 16

/-- Sine of an angle of `n` × 2^-96 turn, in units of 2^-80. -/
def sinTurn (n : Nat) : Int :=
  have k := n % 2 ^ 94
  match n / 2 ^ 94 % 4 with
  | 0 => sinQuarter k
  | 1 => sinQuarter (2 ^ 94 - k)
  | 2 => -sinQuarter k
  | _ => -sinQuarter (2 ^ 94 - k)

/-- Cosine of an angle of `n` × 2^-96 turn, in units of 2^-80. -/
def cosTurn (n : Nat) : Int := sinTurn (n + 2 ^ 94)

/-- An angle of `num` / `den` radians in 2^-96 turn. -/
def turnOfRad (num : Int) (den : Nat) : Nat := (num * 2 ^ 192 / ((max 1 den * tauQ : Nat) : Int) % 2 ^ 96).toNat

/-- `x` times a sine or cosine, rounded convergently to the unit of `x`. -/
def mulTrig (x t : Int) : Int := rshr (x * t) 80

/-- The series of artanh divided by its argument, from the term of order 2 `n` + 1 down. -/
def artanhSeries (y2 : Int) : Nat → Int → Int
  | 0, r => r
  | n + 1, r => artanhSeries y2 n (2 ^ 96 / (2 * n + 1 : Nat) + y2 * r / 2 ^ 96)

/-- Natural logarithm of `num` / `den`, both above 0, in 2^-96. -/
def lnQ (num den : Nat) : Int :=
  have e : Int := (Nat.log2 num : Int) - Nat.log2 den
  have n := if e < 0 then num * 2 ^ e.natAbs else num
  have d := if e < 0 then den else den * 2 ^ e.natAbs
  have z : Int := ((n : Int) - d) * 2 ^ 96 / ((n + d : Nat) : Int)
  e * ln2Q + 2 * (z * artanhSeries (z * z / 2 ^ 96) 80 0 / 2 ^ 96)

/-- The series of the exponential from the term of order `n` down. -/
def expSeries (y : Int) : Nat → Int → Int
  | 0, r => r
  | n + 1, r => expSeries y n (2 ^ 96 + y * r / 2 ^ 96 / (n + 1 : Nat))

/-- The exponential of `y` × 2^-96, in 2^-96. -/
def expQ (y : Int) : Nat :=
  have k := y / (ln2Q : Int)
  have m := (expSeries (y % (ln2Q : Int)) 40 (2 ^ 96)).toNat
  if k < 0 then m / 2 ^ k.natAbs else m * 2 ^ k.natAbs

end Sys2Proof.Machine
end

