-- ==== Sys2Proof/Machine/Engine.lean ====
section
/-!
DEFINITION. The control engine (spec/07_control_engine.md): axis states, the current loop, injections and the engine
capture. The joint loops of L1 are in Joint.lean.
-/
namespace Sys2Proof.Machine
open Sys2Proof

def State.ax (s : State) (a : Nat) : AxH := s.ctl.ax.get a

def State.setAx (s : State) (a : Nat) (x : AxH) : State := { s with ctl := { s.ctl with ax := s.ctl.ax.set a x } }

/-- A STALE bit of CYCLE_STAT is set; EVT[1] is raised when it rises (R13, R24). -/
def State.stale (s : State) (l : Loc) : State := if s.b l then s else (s.set l 1).raise 1

/-! ### Arithmetic (R154, R155) -/

/-- Integer square root by bisection: the largest r with r² ≤ n, among r < 2^(k+1) added bit by bit. -/
def isqrtAux (n : Nat) : Nat → Nat → Nat
  | 0, r => if (r + 1) * (r + 1) ≤ n then r + 1 else r
  | k + 1, r => if (r + 2 ^ (k + 1)) * (r + 2 ^ (k + 1)) ≤ n then isqrtAux n k (r + 2 ^ (k + 1)) else isqrtAux n k r

/-- Integer square root of a number below 2^160. -/
def isqrt (n : Nat) : Nat := isqrtAux n 79 0

/-- The square root of num/den rounded to nearest. -/
def sqrtNear (num den : Nat) : Nat :=
  have r := isqrt (num / den)
  if (2 * r + 1) * (2 * r + 1) * den < 4 * num then r + 1 else r

/-- x × √(num/den), rounded to nearest. -/
def mulSqrt (x : Int) (num den : Nat) : Int :=
  have r : Nat := sqrtNear (x.natAbs * x.natAbs * num) den
  if x < 0 then -(r : Int) else r

/-- A raw quantity times its scale, in pu (R155). -/
def toPu (raw scale : Int) : Int := rdiv (raw * scale) 16

/-- Gain × signal, and signal × signal, as accumulated in Q19.28 (R154). -/
def mulG (g x : Int) : Int := rshr (g * x) 24
def mulS (x y : Int) : Int := rshr (x * y) 28

/-- A signal or an accumulator saturated to its format. -/
def sig (x : Int) : Int := satI 32 x
def acc (x : Int) : Int := satI 48 x

/-- Limit to ±m. -/
def lim (m x : Int) : Int := clampI (-m) m x

/-- SAT_ARITH is set where a signal of `xs` or an accumulator of `ys` lies outside the range of its format (R154). -/
def State.satArith (s : State) (a : Nat) (xs : List Int) (ys : List Int := []) : State :=
  if xs.any (fun x => sig x != x) || ys.any (fun y => acc y != y) then s.set (CTL.AX_FLAGS'SAT_ARITH a) 1 else s

/-- Two numbers have the same sign. -/
def sameSign (x y : Int) : Bool := decide (0 < x ∧ 0 < y) || decide (x < 0 ∧ y < 0)

/-! ### Sources of an axis's state (R165) -/

/-- The port and position that carry axis `a`, if it is remote. -/
def State.axPort (s : State) (a : Nat) : Option (Nat × Nat) :=
  if (s.axTopo a).isLocal then none else s.grpPort a

/-- The brick of a remote axis counts as reporting OFF_STATE = 1 (R165). -/
def State.axOff (s : State) (a : Nat) : Bool :=
  match s.axPort a with
  | some (n, _) => !(s.bport n).okStat || (s.bport n).offState
  | none => false

/-- The group's duties belong to the host (R91). -/
def State.axHost (s : State) (a : Nat) : Bool := s.f (PWM.GRP_CFG'SRC (s.axGroup a)) == 1

/-- An axis enters RUN: source HOLD at p_ref = POS_BND and zero integrators (R166). -/
def State.axEnterRun (s : State) (a : Nat) : State :=
  have x := s.ax a
  have t := s.setAx a { x with iD := 0, iQ := 0, iV := 0, l0Old := none, l1Old := none, fresh := true,
                               pRef := s.posBnd (s.axTopo a).fb, next := default }
  (((t.set (CTL.AX_STAT'SRC_ACT a) 0).wrN (CTL.ID_REF a) 0).wrN (CTL.IQ_REF a) 0).set (CTL.AX_STAT'BAD_RUN a) 0

/-- Outside RUN the integrators are 0, p_ref follows POS_BND, no preset waits (R165, R176) and an injection ends (R177). -/
def State.axIdle (s : State) (a : Nat) : State :=
  have x := s.ax a
  have pos := s.posBnd (s.axTopo a).fb
  have t := s.setAx a { x with iD := 0, iQ := 0, iV := 0, l0Old := none, l1Old := none, pRef := pos, next := { (default : L1Next) with ok := true, posRef := pos } }
  have t := ((t.wrN (CTL.ID_REF a) 0).wrN (CTL.IQ_REF a) 0)
  have st := t.f (CTL.INJ_STAT'STATE a)
  if st = 1 ∨ st = 2 then t.set (CTL.INJ_STAT'STATE a) 0 else t

/-- While SRC = HOST on its group an axis holds its integrators at 0; when SRC has returned, an axis in RUN continues as on
entry into RUN (R91). -/
def State.axHosted (s : State) (a : Nat) : State :=
  have x := s.ax a
  if s.axHost a then s.setAx a { x with iD := 0, iQ := 0, iV := 0, l0Old := none, l1Old := none, hosted := true }
  else if !x.hosted then s
  else
    have t := s.setAx a { x with hosted := false }
    if t.f (CTL.AX_STAT'STATE a) = axRUN then t.axEnterRun a else t

/-- The state of an axis at an L0 update (R165-R167). -/
def State.axStateStep (s : State) (a : Nat) : State :=
  have st := s.f (CTL.AX_STAT'STATE a)
  if !s.axUsed a || !s.b (CTL.AX_CTRL'EN a) then (s.set (CTL.AX_STAT'STATE a) axDISABLED).axIdle a
  else if st = axFAULT then s.axIdle a
  else if s.b (PWM.GRP_STAT'TRIPPED (s.axGroup a)) || s.axOff a then (s.set (CTL.AX_STAT'STATE a) axTRIPPED).axIdle a
  else if st = axRUN then s
  else (s.set (CTL.AX_STAT'STATE a) axRUN).axEnterRun a

/-! ### Test injection (R177, R178) -/

/-- The sample rate of an injection point in Hz: 1/T0 for the current points, 20 kHz for the others. -/
def State.injRate (s : State) (a : Nat) : Nat :=
  if s.f (CTL.INJ_CTRL'POINT a) ≤ 1 then 1000000000 / s.t0 else 20000

/-- The tap M of a PRBS register of N bits (R178). -/
def prbsTap : Nat → Option Nat
  | 7 => some 6 | 9 => some 5 | 10 => some 7 | 11 => some 9 | 15 => some 14 | 17 => some 14 | 18 => some 11
  | 20 => some 17 | _ => none

/-- The harmonics selected by INJ_MASK. -/
def State.injHarm (s : State) (a : Nat) : List Nat :=
  ((upto 32).filter (fun j => bit (s.rdN (CTL.INJ_MASK a)) j)).map (· + 1)

/-- The configuration lies within the limits of R178. -/
def State.injOk (s : State) (a : Nat) : Bool :=
  have half := 500 * s.injRate a
  have f0 := s.rdN (CTL.INJ_F0 a)
  have f1 := s.rdN (CTL.INJ_F1 a)
  match s.f (CTL.INJ_CTRL'KIND a) with
  | 0 => (prbsTap (s.f (CTL.INJ_CTRL'PRBS_N a))).isSome
  | 1 => decide (f0 ≤ half ∧ f1 ≤ half ∧ s.rdN (CTL.INJ_LEN a) ≠ 0)
  | 2 => decide (f0 ≤ half ∧ f1 ≤ half ∧ s.rdN (CTL.INJ_LEN a) ≠ 0 ∧ 0 < f0)
  | _ => (s.injHarm a).all (fun j => decide (j * f0 ≤ half))

/-- The phase of a chirp at sample `n` in 2^-96 turn (R178): the frequency's course, linear or logarithmic from F0 to F1 over
`len` samples, integrated from 0 (log entry 16). -/
def chirpPhase (logar : Bool) (f0 f1 len fs n : Nat) : Nat :=
  have d := 1000 * max 1 fs
  if !logar ∨ f0 = f1 then uN 96 (((2 * f0 * len * n : Nat) + ((f1 : Int) - f0) * (n * n : Nat)) * 2 ^ 96 / (2 * max 1 len * d : Nat))
  else if f1 = 0 then 0
  else
    have lr := lnQ f1 f0
    have e : Int := (expQ (lr * n / (max 1 len : Nat)) : Int) - 2 ^ 96
    uN 96 ((f0 * len : Nat) * e * 2 ^ 96 / (lr * d))

/-- The sum of a multisine at sample `n` (R178). -/
def multisine (amp : Int) (hs : List Nat) (f0 fs n : Nat) : Int :=
  have k := hs.length
  ((upto k).map (fun m =>
    have ph := uN 96 ((hs.getD m 0 * f0 * n * 2 ^ 96 / (1000 * max 1 fs) : Nat) - ((m + 1) * m * 2 ^ 95 / max 1 k : Nat))
    rdiv (amp * sinTurn ph) (max 1 k * 2 ^ 80))).sum

/-- The injection sample of index `n` (R178) and the PRBS register after it. -/
def State.injSample (s : State) (a n : Nat) : Int × Nat :=
  have amp := s.rdI (CTL.INJ_AMP a)
  have reg := (s.ax a).injReg
  match s.f (CTL.INJ_CTRL'KIND a) with
  | 0 =>
    have nn := s.f (CTL.INJ_CTRL'PRBS_N a)
    have out := bit reg (nn - 1)
    have fb := out != bit reg ((prbsTap nn).getD 1 - 1)
    have nxt := (2 * reg + fb.toNat) % 2 ^ nn
    (if out then amp else -amp, if (n + 1) % (s.f (CTL.INJ_CTRL'HOLD a) + 1) = 0 then nxt else reg)
  | 3 => (multisine amp (s.injHarm a) (s.rdN (CTL.INJ_F0 a)) (s.injRate a) n, reg)
  | k =>
    (mulTrig amp (sinTurn (chirpPhase (k == 2) (s.rdN (CTL.INJ_F0 a)) (s.rdN (CTL.INJ_F1 a)) (s.rdN (CTL.INJ_LEN a))
      (s.injRate a) n)), reg)

/-- An injection of axis `a` starts, which the engine capture may wait for (R177, R179). -/
def State.injStart (s : State) (a : Nat) : State :=
  have hit := s.f CTL.CCAP_STAT'STATE == 2 && s.f CTL.CCAP_CTRL'TRIG_SRC == 1 && s.f CTL.CCAP_SEL_A'AX0 == a
  { s.set (CTL.INJ_STAT'STATE a) 2 with evt := { s.evt with ccTrig := s.evt.ccTrig || hit } }

/-- One sample of the injection of axis `a`, if it runs at one of the points `pts` of this rate (R177): it starts at the first
boundary of its rate after GO, and a stop asked for ends it here. -/
def State.injStep (s : State) (a : Nat) (pts : List Nat) : State :=
  have st := s.f (CTL.INJ_STAT'STATE a)
  have x := s.ax a
  if !pts.contains (s.f (CTL.INJ_CTRL'POINT a)) then s
  else if !(st == 2 || (st == 1 && x.injGo)) then s.setAx a { x with injVal := 0 }
  else if x.injStop ∨ s.mode ≠ 3 then
    (s.setAx a { x with injStop := false, injVal := 0 }).set (CTL.INJ_STAT'STATE a) 0
  else
    have len := s.rdN (CTL.INJ_LEN a)
    if len ≠ 0 ∧ len ≤ x.injN then s.setAx a { x with injVal := 0 }
    else
      have r := s.injSample a x.injN
      have t := (s.setAx a { x with injVal := r.1, injReg := r.2, injN := x.injN + 1 }).sat (CTL.INJ_STAT'COUNT a)
      if st = 1 then t.injStart a else t

/-- A boundary of the rate of the points `pts`: the injections that wait there start with the next sample (R177). -/
def State.injBoundary (s : State) (pts : List Nat) : State :=
  s.each ((upto 64).filter (fun a => s.f (CTL.INJ_STAT'STATE a) == 1 && pts.contains (s.f (CTL.INJ_CTRL'POINT a)))) fun a t =>
    t.setAx a { t.ax a with injGo := true }

/-- The injection value at point `p`. -/
def State.injAt (s : State) (a p : Nat) : Int :=
  if s.f (CTL.INJ_CTRL'POINT a) = p ∧ s.f (CTL.INJ_STAT'STATE a) = 2 then (s.ax a).injVal else 0

/-- INJ_CTRL after its RW fields: GO and STOP (R177). -/
def State.injCtrlWrite (s : State) (a : Nat) (v : Word) : State :=
  have st := s.f (CTL.INJ_STAT'STATE a)
  have busy := st == 1 || st == 2
  have s := s.plainWrite (CTL.INJ_CTRL a) v
  have s := if bit v.toNat 30 && busy then s.setAx a { s.ax a with injStop := true } else s
  if !bit v.toNat 31 then s
  else
    have refuse := fun (e : Nat) => ((s.set (CTL.INJ_STAT'ERR a) e).set (CTL.AX_FLAGS'INJ_REFUSED a) 1).refusal 8
    if s.mode ≠ 3 ∨ s.f (CTL.AX_STAT'STATE a) ≠ axRUN then refuse 1
    else if busy then refuse 3
    else if !s.injOk a then refuse 2
    else
      have t := s.setAx a { s.ax a with injReg := 2 ^ s.f (CTL.INJ_CTRL'PRBS_N a) - 1, injStop := false, injVal := 0, injN := 0, injGo := false }
      ((t.set (CTL.INJ_STAT'ERR a) 0).set (CTL.INJ_STAT'STATE a) 1).set (CTL.INJ_STAT'COUNT a) 0

/-- INJ_CTRL.GO starts a test injection or is refused (R177). -/
def execInjGo (w : Req) (a : Fin 64) (v : Word) (s : State) : Host.Outcome State Fault Refusal :=
  .next (s.regCmd w (CTL.INJ_CTRL a) (·.injCtrlWrite a (putBits v 31 31 1)))

/-- INJ_CTRL.STOP ends the injection at the next sample (R177). -/
def execInjStop (w : Req) (a : Fin 64) (s : State) : Host.Outcome State Fault Refusal :=
  .next (s.regCmd w (CTL.INJ_CTRL a) (fun s =>
    s.injCtrlWrite a (putBits (s.rd (CTL.INJ_CTRL a)) 30 30 1)))

/-- An injection that has emitted INJ_LEN samples is DONE and raises EVT[49] (R177). -/
def execInjectionDone (a : Fin 64) (s : State) : Host.Outcome State Fault Refusal :=
  .next (if s.domOn pdCTL ∧ s.f (CTL.INJ_STAT'STATE a) = 2 ∧ s.rdN (CTL.INJ_LEN a) ≠ 0 ∧
      s.rdN (CTL.INJ_LEN a) ≤ (s.ax a).injN then
    ((s.set (CTL.INJ_STAT'STATE a) 3).setAx a { s.ax a with injVal := 0 }).raise 49 else s)

/-! ### The current loop (R156-R158) -/

/-- Raw DC-link voltage of axis `a` (R155, R158). -/
def State.axVdcRaw (s : State) (a : Nat) : Int :=
  match s.axPort a with
  | some (n, _) => if (s.bport n).okStat then (s.rdN (BLK.UP_HDR n) / 65536 : Nat) else 0
  | none => if (s.axTopo a).isLocal then valueOf (s.slotWord (s.axTopo a).ainDc) else 0

/-- The electrical angle from POS_MID (R156 step 3). -/
def State.axAngle (s : State) (a : Nat) : Nat :=
  have c := (s.axTopo a).fb
  have m := 256 * s.incRev c
  have p := if s.b (CTL.ELEC'ANG_REF_EN a) then s.posMid c - 256 * s.rdI (FB.REF_ORIGIN c) else s.posMid c
  uN 32 (rdiv ((s.f (CTL.ELEC'PP a) : Int) * (p % m) * 4294967296) m + s.rdN (CTL.ANGLE_OFS a))

/-- The angle advance of step 10: the electrical speed times T0. -/
def State.axAdvance (s : State) (a : Nat) : Int :=
  if s.b (CTL.ELEC'ADV_EN a) then
    have c := (s.axTopo a).fb
    rdiv ((s.f (CTL.ELEC'PP a) : Int) * s.rdI (FB.SPEED c) * s.t0 * 65536) (1000 * s.incRev c)
  else 0

/-- A waiting preset of a current-loop integrator (R173, R176): the new integrator and whether it was clamped. -/
def preset (i e kOld kNew m : Int) : Int × Bool :=
  have v := i + mulG (kOld - kNew) e
  (lim m v, lim m v != v)

/-- PRESET_CLAMP (R176). -/
def State.presetClamp (s : State) (a : Nat) (c : Bool) : State :=
  if c then (s.set (CTL.AX_FLAGS'PRESET_CLAMP a) 1).sat (CTL.AX_CNT'PRESET_CLAMP_CNT a) else s

/-- vmax of step 8. -/
def State.axVmax (s : State) (a : Nat) (vdc : Int) : Int :=
  if vdc ≤ 0 then 0 else mulSqrt (vdc * s.f (CTL.VLIM'VLIM a)) 1 (3 * 2 ^ 30)

/-- Steps 2 to 9 on usable samples. `low`: VDC_pu is below DC_MIN and the integrators are held (R158). -/
def State.l0Loop (s : State) (a : Nat) (theta : Nat) (wa wb : Nat) (vdc : Int) (low : Bool) : State :=
  have x := s.ax a
  have isc : Int := s.rdN (CTL.ISCALE a)
  have ia := toPu (valueOf wa) isc
  have ib := toPu (valueOf wb) isc
  have al := sig ia
  have be := mulSqrt (sig ia + 2 * sig ib) 1 3
  have sn := sinTurn (theta * 2 ^ 64)
  have cs := cosTurn (theta * 2 ^ 64)
  have id := mulTrig al cs + mulTrig (sig be) sn
  have iq := mulTrig (sig be) cs - mulTrig al sn
  have stale := decide (s.ctl.l1seen < 2)
  have idr := (if stale then 0 else s.rdI (CTL.ID_REF a)) + s.injAt a 1
  have iqr := (if stale then 0 else s.rdI (CTL.IQ_REF a)) + s.injAt a 0
  have edx := sig idr - sig id
  have eqx := sig iqr - sig iq
  have ed := sig edx
  have eq := sig eqx
  have kpd := s.rdI (CTL.KP_D a)
  have kpq := s.rdI (CTL.KP_Q a)
  have vmax := s.axVmax a vdc
  have pd := match x.l0Old with | some (o, _) => if low then (x.iD, false) else preset x.iD ed o kpd (2 * vmax) | none => (x.iD, false)
  have pq := match x.l0Old with | some (_, o) => if low then (x.iQ, false) else preset x.iQ eq o kpq (2 * vmax) | none => (x.iQ, false)
  have ud := mulG kpd ed + pd.1
  have uq := mulG kpq eq + pq.1
  have w := toPu (s.rdI (FB.SPEED (s.axTopo a).fb)) (s.rdI (CTL.VSCALE a))
  have dec := s.b (CTL.ELEC'DEC_EN a)
  have wl := mulS (sig w) (s.rdI (CTL.L_Q a))
  have flux := mulS (s.rdI (CTL.L_D a)) (sig id) + s.rdI (CTL.PSI a)
  have vd := if dec then sig ud - mulS (sig wl) (sig iq) else sig ud
  have vq := if dec then sig uq + mulS (sig w) (sig flux) else sig uq
  have vdl := lim vmax (sig vd)
  have vql := lim (sqrtNear (vmax * vmax - vdl * vdl).toNat 1) (sig vq)
  have satD := vdl != sig vd
  have satQ := vql != sig vq
  have nd := if satD ∧ sameSign ed vdl then pd.1 else pd.1 + mulG (s.rdI (CTL.KI_D a)) ed
  have nq := if satQ ∧ sameSign eq vql then pq.1 else pq.1 + mulG (s.rdI (CTL.KI_Q a)) eq
  have iD := if low then pd.1 else lim (2 * vmax) (acc nd)
  have iQ := if low then pq.1 else lim (2 * vmax) (acc nq)
  have s := s.setAx a { x with iD := iD, iQ := iQ, ia := sig ia, ib := sig ib, iqInj := sig iqr, l0Old := if low then x.l0Old else none }
  have s := s.satArith a ([ia, ib, be, id, iq, idr, iqr, edx, eqx, ud, uq, vmax, vd, vq] ++ (if dec then [w, wl, flux] else []))
    (if low then [] else [nd, nq])
  have s := ((s.presetClamp a pd.2).presetClamp a pq.2).set (CTL.AX_STAT'BAD_RUN a) 0
  have s := ((s.setB (CTL.AX_STAT'SAT_D a) satD).setB (CTL.AX_STAT'SAT_Q a) satQ)
  ((((s.wrI (CTL.ID_MEAS a) (sig id)).wrI (CTL.IQ_MEAS a) (sig iq)).wrI (CTL.VD a) vdl).wrI (CTL.VQ a) vql)

/-- INT_D and INT_Q show the integrators. -/
def State.showInt (s : State) (a : Nat) : State :=
  ((s.wrI (CTL.INT_D a) (sig (s.ax a).iD)).wrI (CTL.INT_Q a) (sig (s.ax a).iQ))

/-- Step 10 and the phase voltages of step 11, before they are limited to their format: alpha, beta, b and c. -/
def State.l0Volts (s : State) (a : Nat) (theta : Nat) : List Int :=
  have ang := uN 32 ((theta : Int) + s.axAdvance a) * 2 ^ 64
  have vd := s.rdI (CTL.VD a)
  have vq := s.rdI (CTL.VQ a)
  have al := mulTrig vd (cosTurn ang) - mulTrig vq (sinTurn ang)
  have be := mulTrig vd (sinTurn ang) + mulTrig vq (cosTurn ang)
  have h := mulSqrt (sig be) 3 4
  [al, be, rdiv (-(sig al)) 2 + h, rdiv (-(sig al)) 2 - h]

/-- Step 11: the duties of the three pairs from the voltages of `l0Volts`. -/
def State.l0Duties (s : State) (vs : List Int) (vdc : Int) : List Nat :=
  have al := sig (vs.getD 0 0)
  have vb := sig (vs.getD 2 0)
  have vc := sig (vs.getD 3 0)
  have mx := max al (max vb vc)
  have mn := min al (min vb vc)
  have half : Int := s.half
  [al, vb, vc].map (fun v => (clampI 0 half (rdiv (half * (vdc + 2 * v - mx - mn)) (2 * vdc).toNat)).toNat)

/-- Three free duties within 0 to HALF: R156 states none for VDC_pu ≤ 0 above DC_MIN (log entry 17). -/
def State.freeDuties (s : State) : List Nat × State :=
  let (x, t) := s.fresh 16
  let (y, t) := t.fresh 16
  let (z, t) := t.fresh 16
  ([min x s.half, min y s.half, min z s.half], t)

/-- The L0 update of an axis in RUN (R156-R158). -/
def State.l0Run (s : State) (a : Nat) : State :=
  have s := s.injStep a [0, 1]
  have g := s.axGroup a
  have v := toPu (s.axVdcRaw a) (s.rdN (CTL.DSCALE a))
  have vdc := sig v
  have s := (s.setAx a { s.ax a with vdc := vdc }).satArith a [v]
  have low := decide (vdc < s.rdI (CTL.DC_MIN a))
  have s := s.setB (CTL.AX_STAT'VDC_LOW a) low
  have theta := s.axAngle a
  have s := s.wrN (CTL.ANGLE a) theta
  have wa := s.slotWord (s.axTopo a).ainA
  have wb := s.slotWord (s.axTopo a).ainB
  have good := usable wa && usable wb
  have s := if good then (s.l0Loop a theta wa wb vdc low).showInt a
    else (s.set (CTL.AX_FLAGS'SAMP_BAD a) 1).sat (CTL.AX_STAT'BAD_RUN a)
  have s := if low then s.shadowWrite g (List.replicate 3 (rdiv s.half 2).toNat)
    else if vdc ≤ 0 then (s.freeDuties.2).shadowWrite g s.freeDuties.1
    else
      have vs := s.l0Volts a theta
      (s.satArith a vs).shadowWrite g (s.l0Duties vs vdc)
  if !good ∧ s.f (CTL.FAULT_CFG'BAD_MAX a) ≤ s.f (CTL.AX_STAT'BAD_RUN a) then s.axFault a 2 else s

/-- The instant at which turn `i` of the rota ends, in 2^-32 ns of DT: the freezes lie about the carrier midpoint of the trimmed
timebase (R105, R150). -/
def State.turnEnd (s : State) (i : Nat) : Nat := s.midDt + (200 * (s.burstN - 1) + 350 + 240 * (i + 1)) * 2 ^ 32

/-- The axes of the brick on port `n` have all been updated in this period (R151). -/
def State.portDone (s : State) (n : Nat) : Bool :=
  (upto 4).all (fun p => decide (64 ≤ s.posGroup n p) || bit s.ctl.l0done (s.posGroup n p))

/-- One L0 update of the rota (R150-R158): the state of the axis, its duties, and the edge frame of a brick whose last
axis this was. The turn of an unassigned slot is idle (R17), but that the slot is DISABLED (R165). -/
def State.l0Update (s : State) (a : Nat) : State :=
  if !(s.domOn pdCTL && s.cycRun) then s else
  have s := s.advanceDt (s.turnEnd (a / 4))
  if !s.axUsed a then (if s.f (CTL.AX_STAT'STATE a) = axDISABLED then s else s.axStateStep a)
  else if bit s.ctl.l0done a then s
  else
    have s := ((s.axStateStep a).axHosted a).work 8
    have s := { s with ctl := { s.ctl with l0done := setBit s.ctl.l0done a true } }
    have good := usable (s.slotWord (s.axTopo a).ainA) && usable (s.slotWord (s.axTopo a).ainB)
    have s := s.setAx a { s.ax a with lastBad := !good }
    have s := if s.ctl.l1seen < 2 then (s.set (CTL.AX_FLAGS'STALE_L1 a) 1).stale SYS.CYCLE_STAT'STALE_L1 else s
    have s :=
      if s.axHost a then s.showInt a
      else if s.f (CTL.AX_STAT'STATE a) = axRUN then s.l0Run a
      else (s.showInt a).shadowWrite (s.axGroup a) (List.replicate 3 (rdiv s.half 2).toNat)
    match s.axPort a with
    | some (n, _) => if s.portDone n then s.edgeFrameSend n else s
    | none => s

/-- A lane turn runs the current-loop update of an axis slot (R156). -/
def execL0Update (a : Fin 64) (s : State) : Host.Outcome State Fault Refusal := .next (s.l0Update a)

/-- At a reload: a slot that the engine did not write in the period that ends has OUT_STALE set (R92, R153); an injection at a
current point may start (R177). -/
def State.engineReload (s : State) : State :=
  if !s.domOn pdCTL then s else
  have t := if s.ctl.l0ran then
      s.each ((upto 64).filter (fun a => s.axUsed a && !bit s.ctl.l0done a && !s.axHost a)) fun a t =>
        t.set (CTL.AX_FLAGS'OUT_STALE a) 1
    else s
  { t.injBoundary [0, 1] with ctl := { t.ctl with l0done := 0, l0ran := true, ax := (t.injBoundary [0, 1]).ctl.ax } }

/-! ### Enabling, sources, fault clear (R161, R167, R169) -/

/-- The modes that admit an enabled axis: M3-M8 and M10. -/
def modeDrives (m : Nat) : Bool := (decide (3 ≤ m ∧ m ≤ 8)) || m == 10

/-- EN = 1 is refused (R167). -/
def State.enRefused (s : State) (a : Nat) : Bool :=
  have c := (s.axTopo a).fb
  !s.axUsed a || !(s.cfg.gains.getD a default).used || !modeDrives s.mode || s.b (FB.FB_STAT'FB_FAULT c)
    || (s.b (CTL.ELEC'ANG_REF_EN a) && !s.b (FB.FB_STAT'REF_SEEN c))

/-- FAULT_CLR (R169). Without a standing fault it does nothing (log entry 18). -/
def State.axFaultClr (s : State) (a : Nat) : State :=
  if s.f (CTL.AX_STAT'STATE a) ≠ axFAULT then s
  else if s.b (FB.FB_STAT'FB_FAULT (s.axTopo a).fb) ∨ (s.f (CTL.AX_STAT'FAULT_CAUSE a) = 2 ∧ (s.ax a).lastBad) then
    (s.set (CTL.AX_FLAGS'CLR_REJECTED a) 1).refusal 8
  else if s.b (PWM.GRP_STAT'TRIPPED (s.axGroup a)) ∨ s.axOff a then s.set (CTL.AX_STAT'STATE a) axTRIPPED
  else (s.set (CTL.AX_STAT'STATE a) axRUN).axEnterRun a

/-- A write of AX_CTRL (R161, R167, R169). -/
def State.axCtrlWrite (s : State) (a : Nat) (v : Word) : State :=
  have s := if bit v.toNat 30 then s.axFaultClr a else s
  have s := if bit v.toNat 31 then
      if s.b (CTL.AX_CTRL'EN a) then s
      else if s.enRefused a then (s.set (CTL.AX_FLAGS'EN_REFUSED a) 1).refusal 8
      else s.set (CTL.AX_CTRL'EN a) 1
    else s.set (CTL.AX_CTRL'EN a) 0
  if bitsOf v 26 24 ≤ 5 then
    (s.set (CTL.AX_CTRL'SRC_REQ a) (bitsOf v 26 24)).setAx a { s.ax a with srcPend := true }
  else s

/-- A write of AX_CTRL.EN = 1 (R167). -/
def execAxisEnable (w : Req) (a : Fin 64) (v : Word) (s : State) : Host.Outcome State Fault Refusal :=
  .next (s.regCmd w (CTL.AX_CTRL a) (·.axCtrlWrite a (putBits v 31 31 1)))

/-- A write of AX_CTRL.EN = 0 (R167). -/
def execAxisDisable (w : Req) (a : Fin 64) (v : Word) (s : State) : Host.Outcome State Fault Refusal :=
  .next (s.regCmd w (CTL.AX_CTRL a) (·.axCtrlWrite a (putBits v 31 31 0)))

/-- AX_CTRL.FAULT_CLR (R169). -/
def execAxisFaultClr (w : Req) (a : Fin 64) (s : State) : Host.Outcome State Fault Refusal :=
  .next (s.regCmd w (CTL.AX_CTRL a) (fun s => s.axCtrlWrite a (putBits (s.rd (CTL.AX_CTRL a)) 30 30 1)))

/-- A source request (R161). -/
def execSrcReqWrite (w : Req) (a : Fin 64) (src : Fin 8) (s : State) : Host.Outcome State Fault Refusal :=
  .next (s.regCmd w (CTL.AX_CTRL a) (fun s => s.axCtrlWrite a (putBits (s.rd (CTL.AX_CTRL a)) 26 24 src)))

/-- EN of every axis and chopper clears on entry into M0-M2, M9 or M11 (R167). -/
def State.enClear (s : State) : State :=
  have s := s.each ((upto 64).filter (fun a => s.b (CTL.AX_CTRL'EN a))) fun a t => t.set (CTL.AX_CTRL'EN a) 0
  s.each ((upto 8).filter (fun n => s.b (PRF.ST_CFG'EN n))) fun n t => t.set (PRF.ST_CFG'EN n) 0

/-- The registers of an axis page that R181 protects, by word index: scale, limit and ELEC registers, 0x080-0x0C0 without
SRAMP. -/
def isEngineCfg (r : Nat) : Bool := decide (0x80 / 4 ≤ r ∧ r ≤ 0xC0 / 4) && r != 0xB4 / 4

/-- A write in an axis page (R181): the scale, limit and ELEC registers only in M3. VLIM is at most 0x8000. -/
def State.engineWrite (s : State) (a r : Nat) (v : Word) : State :=
  have at_ := CTL.AX_CTRL a + 4 * r
  if !isEngineCfg r then s
  else if s.mode ≠ 3 then (s.set CTL.ENG_ERR'CFG_REFUSED 1).refusal 8
  else s.plainWrite at_ v

/-- A write of axis scale, limit or ELEC registers (R181). -/
def execEngineConfigWrite (w : Req) (a : Fin 64) (r : Fin 256) (v : Word) (s : State) :
    Host.Outcome State Fault Refusal := .next (s.regCmd w (CTL.AX_CTRL a + 4 * r) (·.engineWrite a r v))

/-! ### The engine capture (R179, R180) -/

/-- The latest value of a signal (R180). -/
def State.ccSig (s : State) (a code : Nat) : Nat :=
  match code with
  | 0x00 => s.rdN (CTL.ID_MEAS a) | 0x01 => s.rdN (CTL.IQ_MEAS a) | 0x02 => s.rdN (CTL.ID_REF a)
  | 0x03 => uN 32 (s.ax a).iqInj | 0x04 => s.rdN (CTL.VD a) | 0x05 => s.rdN (CTL.VQ a)
  | 0x06 => uN 32 (s.ax a).ia | 0x07 => uN 32 (s.ax a).ib | 0x08 => s.rdN (CTL.ANGLE a)
  | 0x09 => s.rdN (CTL.POS_REF_LO a) | 0x0A => s.rdN (FB.POS_MID_LO (s.axTopo a).fb) | 0x0B => s.rdN (CTL.POS_ERR a)
  | 0x0C => s.rdN (CTL.VEL_REF a) | 0x0D => s.rdN (CTL.VEL_ACT a) | 0x0E => uN 32 (s.ax a).injVal
  | 0x0F => s.f (CTL.SCALE'S a) | 0x10 => s.f (PWM.DUTY_SH'HON (s.axGroup a) 0)
  | 0x11 => s.f (PWM.DUTY_SH'HON (s.axGroup a) 1) | 0x12 => s.f (PWM.DUTY_SH'HON (s.axGroup a) 2)
  | 0x13 => s.rdN (CTL.INT_VEL a) | 0x14 => uN 32 (s.ax a).vdc | _ => 0

/-- The trigger of the engine capture: the next record is the trigger record (R179). -/
def State.ccTrigger (s : State) : State :=
  if s.f CTL.CCAP_STAT'STATE ≠ 2 then s
  else
    have pre := s.f CTL.CCAP_CTRL'PRE
    have t := (s.set CTL.CCAP_STAT'STATE 3).set CTL.CCAP_STAT'PRE_GOT (min pre s.ctl.ccN)
    have t := t.set CTL.CCAP_TRIG_PTR'PTR (16 * s.ctl.ccW)
    { t with ctl := { t.ctl with ccLeft := 16384 - pre }, evt := { t.evt with ccTrig := false } }

/-- The token is there: armed; TRIG_SRC = 0 triggers at once. -/
def State.ccArmed (s : State) : State :=
  have t := s.set CTL.CCAP_STAT'STATE 2
  have t := { t with ctl := { t.ctl with ccW := 0, ccN := 0, ccDiv := 0, ccLeft := 0, ccPrev := none }, evt := { t.evt with ccTrig := false } }
  if t.f CTL.CCAP_CTRL'TRIG_SRC = 0 then t.ccTrigger else t

/-- The selector 0 signal has passed through CCAP_LEVEL in the direction of LVL_DIR since the record before (R179). Signals are
signed, but the angle θ; the level is judged at the records (log entry 55). -/
def State.ccLevel (s : State) (v : Nat) : Bool :=
  have n : Nat → Int := fun v => if s.f CTL.CCAP_SEL_A'SIG0 = 8 then v else sxN 32 v
  have l := n (s.rdN CTL.CCAP_LEVEL)
  s.f CTL.CCAP_STAT'STATE == 2 && s.f CTL.CCAP_CTRL'TRIG_SRC == 3 && (match s.ctl.ccPrev with
    | none => false
    | some p => if s.b CTL.CCAP_CTRL'LVL_DIR then decide (l < n p ∧ n v ≤ l) else decide (n p < l ∧ l ≤ n v))

/-- A boundary of the capture's rate source: a record at every D-th (R179). A trigger that has come makes it the trigger
record. -/
def State.ccTick (s : State) (l1 : Bool) : State :=
  have st := s.f CTL.CCAP_STAT'STATE
  if !s.domOn pdCTL || (s.b CTL.CCAP_CTRL'RATE_SRC != l1) || !(st == 2 || (st == 3 && decide (0 < s.ctl.ccLeft))) then s
  else if s.ctl.ccDiv < s.f CTL.CCAP_RATE'D_M1 then { s with ctl := { s.ctl with ccDiv := s.ctl.ccDiv + 1 } }
  else
    have v := [s.ccSig (s.f CTL.CCAP_SEL_A'AX0) (s.f CTL.CCAP_SEL_A'SIG0), s.ccSig (s.f CTL.CCAP_SEL_A'AX1) (s.f CTL.CCAP_SEL_A'SIG1),
      s.ccSig (s.f CTL.CCAP_SEL_B'AX2) (s.f CTL.CCAP_SEL_B'SIG2), s.ccSig (s.f CTL.CCAP_SEL_B'AX3) (s.f CTL.CCAP_SEL_B'SIG3)]
    have s := if s.evt.ccTrig || s.ccLevel (v.getD 0 0) then s.ccTrigger else s
    have t := s.putBytes (captureRam + s.ccapBase + 16 * s.ctl.ccW) (v.flatMap (toLE 4 ·))
    { t with ctl := { t.ctl with ccW := (t.ctl.ccW + 1) % 16384, ccN := min 16384 (t.ctl.ccN + 1), ccDiv := 0, ccLeft := t.ctl.ccLeft - 1, ccPrev := some (v.getD 0 0) } }

/-- CCAP_CTRL after its RW fields: STOP, ARM, GO (R179, R180). -/
def State.ccapCtrlWrite (s : State) (v : Word) : State :=
  have s := s.plainWrite CTL.CCAP_CTRL v
  have st := s.f CTL.CCAP_STAT'STATE
  have live := st == 1 || st == 2 || st == 3 || s.ledgerHolds 6 1 || s.pwr.waiting.any (fun r => r.cls == 6 && r.id == 1)
  have s := if bit v.toNat 30 && live then ((s.ledgerCancel 6 1).ledgerRelease 6 1).set CTL.CCAP_STAT'STATE 0 else s
  have c := s.f ADC.CAP_STAT'STATE
  have s := if !bit v.toNat 31 then s
    else if s.capOverlap ∧ 1 ≤ c ∧ c ≤ 3 then (s.set CTL.CCAP_STAT'STATE 5).refusal 8
    else if 0x400000 < s.ccapBase + ccapLen then (s.set CTL.CCAP_STAT'STATE 6).refusal 8
    else if s.ledgerHolds 6 1 then s.ccArmed
    else if s.pwr.waiting.any (fun r => r.cls == 6 && r.id == 1) then s
    else
      let (ok, t) := s.ledgerRequest 6 1 1
      if ok then t.ccArmed else t.set CTL.CCAP_STAT'STATE 1
  if bit v.toNat 29 && s.f CTL.CCAP_CTRL'TRIG_SRC == 4 then s.ccTrigger else s

/-- CCAP_CTRL.ARM arms the capture (R180). -/
def execCcapArm (w : Req) (v : Word) (s : State) : Host.Outcome State Fault Refusal :=
  .next (s.regCmd w CTL.CCAP_CTRL (·.ccapCtrlWrite (putBits v 31 31 1)))

/-- CCAP_CTRL.STOP stops the capture (R180). -/
def execCcapStop (w : Req) (v : Word) (s : State) : Host.Outcome State Fault Refusal :=
  .next (s.regCmd w CTL.CCAP_CTRL (·.ccapCtrlWrite (putBits (putBits v 30 30 1) 31 31 0)))

/-- CCAP_CTRL.GO triggers the capture from software (R179). -/
def execCcapGo (w : Req) (v : Word) (s : State) : Host.Outcome State Fault Refusal :=
  .next (s.regCmd w CTL.CCAP_CTRL (·.ccapCtrlWrite (putBits (putBits v 31 29 0) 29 29 1)))

/-- An event or an injection start that the armed capture waits for has come: it triggers (R179). A level is judged at the
records. -/
def execCcapTrigger (s : State) : Host.Outcome State Fault Refusal :=
  .next (if s.domOn pdCTL ∧ s.evt.ccTrig then s.ccTrigger else s)

/-- The records after the trigger record are written: the capture is DONE and its token is released (R179, R180). -/
def execCcapDone (s : State) : Host.Outcome State Fault Refusal :=
  .next (if s.domOn pdCTL ∧ s.f CTL.CCAP_STAT'STATE = 3 ∧ s.ctl.ccLeft = 0 then
    (s.set CTL.CCAP_STAT'STATE 4).ledgerRelease 6 1 else s)

end Sys2Proof.Machine
end

