-- ==== Sys2Proof/Machine/Prof.lean ====
section
/-!
DEFINITION. Profile generators, virtual limits and stepper chopping (spec/08_profiles_and_steppers.md).
-/
namespace Sys2Proof.Machine
open Sys2Proof

def State.pg (s : State) (g : Nat) : PgH := s.prf.pg.get g

def State.setPg (s : State) (g : Nat) (x : PgH) : State := { s with prf := { s.prf with pg := s.prf.pg.set g x } }

def pgTRACK : Nat := 0
def pgIDLE : Nat := 1
def pgMOVE : Nat := 2
def pgJOG : Nat := 3
def pgSTOPPING : Nat := 4

/-! ### The time-optimal profile (R183)

Segments last whole units of 1/T ms, T = 5 × 2^40, of which a step of R182 is a multiple. An acceleration is held times T, a
velocity times 2 T², a displacement times 192 × 2^120 = 6 T³ × 32/125 (one unit of v moves 125/32 units of p per ms): in
these units the state after a segment is exact, and the end of a step is rounded to the units of R182 (log entry 19). -/

/-- One segment of a jerk profile: jerk and duration. -/
structure Seg where
  j : Int
  t : Int
  deriving DecidableEq, Repr, Inhabited

/-- A state of the profile: displacement, velocity and acceleration in the units above. -/
structure Kin where
  p : Int
  v : Int
  a : Int
  deriving DecidableEq, Repr, Inhabited

def unT : Nat := 5 * 2 ^ 40
def unV : Nat := 2 * unT ^ 2
def unP : Nat := 192 * 2 ^ 120

/-- The state after jerk `j` for time `t`. -/
def Kin.run (k : Kin) (j t : Int) : Kin :=
  { p := k.p + 3 * k.v * t + 3 * k.a * t ^ 2 + j * t ^ 3, v := k.v + 2 * k.a * t + j * t ^ 2, a := k.a + j * t }

/-- The state at the end of a list of segments. -/
def Kin.runAll (k : Kin) (l : List Seg) : Kin := l.foldl (fun k g => k.run g.j g.t) k

/-- The state at time `t` of a list of segments; the last velocity is kept after the last one. -/
def Kin.at (k : Kin) : List Seg → Int → Kin
  | [], t => { k with p := k.p + 3 * k.v * t, a := 0 }
  | g :: l, t => if t ≤ g.t then k.run g.j t else (k.run g.j g.t).at l (t - g.t)

def sgn (x : Int) : Int := if x < 0 then -1 else if x = 0 then 0 else 1

def isqrtI (x : Int) : Int := (isqrt x.toNat : Nat)

/-- The time-optimal transition from (v, a) to (vt, 0) within A and J; an |a| above A is first brought within it. -/
def toVel (v a vt am jm : Int) : List Seg :=
  have k0 : Kin := ⟨0, v, a⟩
  have pre : List Seg := if am < a.natAbs then [⟨-(sgn a) * jm, (a.natAbs - am) / jm⟩] else []
  have k := k0.runAll pre
  have vs := k.v + k.a * k.a.natAbs / jm
  have d := sgn (vt - vs)
  if d = 0 then pre ++ [⟨-(sgn k.a) * jm, k.a.natAbs / jm⟩]
  else
    have ad := d * k.a
    have ap := isqrtI ((jm * (d * (vt - k.v)) + ad ^ 2) / 2)
    if ap ≤ am then pre ++ [⟨d * jm, max 0 ((ap - ad) / jm)⟩, ⟨-(d * jm), ap / jm⟩]
    else
      have dv := d * (vt - k.v) - (2 * am ^ 2 - ad ^ 2) / jm
      pre ++ [⟨d * jm, max 0 ((am - ad) / jm)⟩, ⟨0, max 0 (dv / (2 * am))⟩, ⟨-(d * jm), am / jm⟩]

/-- The profile with peak velocity `vp`: to it, then to rest. -/
def viaPeak (v a vp am jm : Int) : List Seg := toVel v a vp am jm ++ toVel vp 0 0 am jm

/-- The displacement of a list of segments. -/
def dispOf (v a : Int) (l : List Seg) : Int := ((⟨0, v, a⟩ : Kin).runAll l).p

/-- The displacement of an immediate stop. -/
def stopDisp (v a am jm : Int) : Int := dispOf v a (toVel v a 0 am jm)

/-- Bisection on a monotone family of profiles: the largest parameter found with displacement at most `d`. -/
def bisect (f : Int → Int) (d : Int) : Nat → Int → Int → Int
  | 0, lo, _ => lo
  | n + 1, lo, hi => if f ((lo + hi) / 2) ≤ d then bisect f d n ((lo + hi) / 2) hi else bisect f d n lo ((lo + hi) / 2)

/-- The profile to rest at displacement `d`, for `d` not before the displacement of an immediate stop. -/
def planUp (v a d vm am jm : Int) : List Seg :=
  have vs := v + a * a.natAbs / jm
  have lo := if vs ≤ vm then max vs 0 else 0
  have f := fun vp => dispOf v a (viaPeak v a vp am jm)
  if d < f lo then
    -- the stop is under way: jerk towards a = 0 for a while, then the stop
    have g := fun t => have k := (⟨0, v, a⟩ : Kin).run jm t; k.p + stopDisp k.v k.a am jm
    have t := bisect g d 96 0 (a.natAbs / jm)
    have k := (⟨0, v, a⟩ : Kin).run jm t
    [⟨jm, t⟩] ++ toVel k.v k.a 0 am jm
  else if f vm ≤ d then
    toVel v a vm am jm ++ [⟨0, (d - f vm) / (3 * vm)⟩] ++ toVel vm 0 0 am jm
  else
    have vp := bisect f d 160 lo vm
    viaPeak v a vp am jm

def Seg.neg (g : Seg) : Seg := ⟨-g.j, g.t⟩

/-- The time-optimal profile from (v, a) to rest at displacement `d` (R183). -/
def plan (v a d vm am jm : Int) : List Seg :=
  have d0 := stopDisp v a am jm
  if d = d0 then toVel v a 0 am jm
  else if d0 < d then planUp v a d vm am jm
  else (planUp (-v) (-a) (-d) vm am jm).map Seg.neg

/-- The shortest stop ends more than one unit of p beyond displacement `d`, in the direction of motion (R187, R189). -/
def passes (v a d am jm : Int) : Bool :=
  have d0 := stopDisp v a am jm
  (decide (0 < d0) && decide (d + unP < d0)) || (decide (d0 < 0) && decide (d0 < d - unP))

/-- A profile that only slows down to its end: along the motion no acceleration forward and no constant velocity remain. -/
def slowing (k : Kin) (dir : Int) : List Seg → Bool
  | [] => true
  | g :: l =>
    have a := rdiv k.a unT
    (decide (g.t ≤ 0) || (decide (dir * a ≤ 0) && decide (dir * g.j ≤ 0 ∨ a ≠ 0) && decide (g.j ≠ 0 ∨ a ≠ 0))) &&
      slowing (k.run g.j g.t) dir l

/-! ### One generator at an L1 boundary -/

def State.pgTarget (s : State) (g : Nat) : Int := s.rd40 (PRF.TARGET_LO g) (PRF.TARGET_HI g)
def State.pgLo (s : State) (g : Nat) : Int := s.rd40 (PRF.VLIM_LO_LO g) (PRF.VLIM_LO_HI g)
def State.pgHi (s : State) (g : Nat) : Int := s.rd40 (PRF.VLIM_HI_LO g) (PRF.VLIM_HI_HI g)
def State.pgState (s : State) (g : Nat) : Nat := s.f (PRF.PG_STAT'STATE g)
def State.pgVlim (s : State) (g : Nat) : Bool := s.b (PRF.PG_CFG'VLIM_EN g)

/-- Difference of two position words (R135). -/
def diff40 (x y : Int) : Int := sxN 40 (uN 40 (x - y))

/-- p, v and a; p is a 40-bit word. -/
def PgH.pos (x : PgH) : Int := sxN 40 (uN 40 x.p)
def PgH.vel (x : PgH) : Int := x.v
def PgH.accel (x : PgH) : Int := x.a

/-- TARGET, A_MAX, J_MAX and, with VLIM_EN, the virtual limits: what R187 and R189 watch for changes. -/
structure PgLims where
  target : Int
  am : Int
  jm : Int
  vl : Bool
  lo : Int
  hi : Int
  deriving DecidableEq, Repr, Inhabited

def State.pgLims (s : State) (g : Nat) : PgLims :=
  ⟨s.pgTarget g, (s.rdN (PRF.A_MAX g) : Int) * unT, s.rdN (PRF.J_MAX g), s.pgVlim g, s.pgLo g, s.pgHi g⟩

def PgLims.toList (x : PgLims) : List Int := [x.target, x.am, x.jm, x.vl.toNat, x.lo, x.hi]

def PgLims.ofList (l : List Int) : PgLims := ⟨l.getD 0 0, l.getD 1 0, l.getD 2 0, l.getD 3 0 != 0, l.getD 4 0, l.getD 5 0⟩

/-- The limit that ends a stop (true: the upper one): the one noted, or the one that an immediate stop of an outward motion
reaches or passes (R188, R189). -/
def PgH.stopLimit (x : PgH) (m : PgLims) : Option Bool :=
  match x.limAt with
  | some b => if m.vl then some b else none
  | none =>
    have e := x.p * unP + stopDisp (x.v * unV) (x.a * unT) m.am m.jm
    if !m.vl then none
    else if 0 < x.v ∧ m.hi * unP ≤ e + unP then some true
    else if x.v < 0 ∧ e - unP ≤ m.lo * unP then some false
    else none

/-- Where the motion of a generator in state `st` is to end, if anywhere, and the limit that ends it. -/
def PgH.goal (x : PgH) (st : Nat) (pos : Bool) (m : PgLims) : Option (Int × Option Bool) :=
  if st = pgMOVE then
    some (if !m.vl then (m.target, none) else if m.hi < m.target then (m.hi, some true)
      else if m.target < m.lo then (m.lo, some false) else (m.target, none))
  else if st = pgJOG then (if m.vl then some (if pos then (m.hi, some true) else (m.lo, some false)) else none)
  else (x.stopLimit m).map (fun b => (if b then m.hi else m.lo, some b))

/-- The commands that the boundary takes (R184, R185). -/
def State.pgCommands (s : State) (g : Nat) : State :=
  have x := s.pg g
  have st := s.pgState g
  have y := { x with startPend := false, stopPend := false, jogPend := false }
  have jog := s.b (PRF.PG_CMD'JOG_POS g) || s.b (PRF.PG_CMD'JOG_NEG g)
  if x.stopPend then
    if st = pgMOVE ∨ st = pgJOG then (s.setPg g y).set (PRF.PG_STAT'STATE g) pgSTOPPING else s.setPg g y
  else if st = pgIDLE ∧ x.startPend then (s.setPg g { y with holding := false, limits := (s.pgLims g).toList }).set (PRF.PG_STAT'STATE g) pgMOVE
  else if st = pgIDLE ∧ x.jogPend ∧ jog then (s.setPg g { y with holding := false, limits := (s.pgLims g).toList }).set (PRF.PG_STAT'STATE g) pgJOG
  else if st = pgJOG ∧ !jog then (s.setPg g y).set (PRF.PG_STAT'STATE g) pgSTOPPING
  else s.setPg g y

/-- The generator comes to rest (R183, R188). -/
def State.pgRest (s : State) (g : Nat) (p : Int) (event hit : Bool) : State :=
  have t := (s.setPg g { s.pg g with p := p, v := 0, a := 0, limAt := none, idleNs := s.ns, holding := false }).set
    (PRF.PG_STAT'STATE g) pgIDLE
  have t := if hit then t.set (PRF.PG_STAT'LIMIT_HIT g) 1 else t
  if event then t.raise 56 else t

/-- The end of the motion lies where the limits in force leave no stop, and those before them left one (R187, R189). -/
def PgH.overrun (x : PgH) (st : Nat) (pos : Bool) (m : PgLims) : Bool :=
  have pass := fun (m : PgLims) => match x.goal st pos m with
    | some (e, _) => passes (x.v * unV) (x.a * unT) (diff40 e x.p * unP) m.am m.jm
    | none => false
  pass m && (x.limits.isEmpty || !pass (PgLims.ofList x.limits))

/-- One step h = s × 50 µs of a generator in MOVE, JOG or STOPPING (R182, R183, R187-R189). -/
def State.pgStep (s : State) (g : Nat) (scale : Nat) : State :=
  have x := s.pg g
  have st := s.pgState g
  have m := s.pgLims g
  have pos := s.b (PRF.PG_CMD'JOG_POS g)
  have vmax : Int := if st = pgJOG then s.rdN (PRF.JOG_V g)
    else if st = pgMOVE then s.rdN (PRF.V_MAX g) else max (s.rdN (PRF.V_MAX g)) x.v.natAbs
  if scale = 0 ∨ m.am = 0 ∨ m.jm = 0 ∨ (st ≠ pgSTOPPING ∧ vmax = 0) then s
  else
    have v := x.v * unV
    have a := x.a * unT
    have vm := vmax * unV
    have goal := x.goal st pos m
    have lim := goal.bind (·.2)
    have segs := match goal with
      | some (e, _) => plan v a (diff40 e x.p * unP) vm m.am m.jm
      | none => if st = pgJOG then toVel v a (if pos then vm else -vm) m.am m.jm else toVel v a 0 m.am m.jm
    have k := (⟨0, v, a⟩ : Kin).at segs ((scale : Int) * 2 ^ 23)
    have np := sxN 40 (uN 40 (x.p + rdiv k.p unP))
    have nv := rdiv k.v unV
    have na := rdiv k.a unT
    have ovr := x.overrun st pos m
    have s := if ovr then (if lim.isSome then s.set (PRF.PG_STAT'LIMIT_OVERRUN g) 1 else s.set (PRF.PG_STAT'OVERSHOOT g) 1) else s
    have s := s.setPg g { x with p := np, v := nv, a := na, limits := m.toList, limAt := if st = pgSTOPPING then lim else none }
    match goal with
    | some (e, _) =>
      if nv = 0 ∧ na = 0 ∧ (diff40 e np).natAbs ≤ 1 then s.pgRest g e true lim.isSome
      else if lim.isSome ∧ st ≠ pgSTOPPING ∧ nv ≠ 0 ∧ slowing ⟨0, v, a⟩ (sgn nv) segs then
        (s.setPg g { s.pg g with limAt := lim }).set (PRF.PG_STAT'STATE g) pgSTOPPING
      else s
    | none => if st = pgSTOPPING ∧ nv = 0 ∧ na = 0 then s.pgRest g np false false else s

/-- The generator follows position `p` at velocity `v` in state `st` (R184). -/
def State.pgFollow (s : State) (g st : Nat) (p v : Int) : State :=
  (s.setPg g { s.pg g with p := p, v := v, a := 0, limAt := none, limits := [], startPend := false, stopPend := false, jogPend := false, idleNs := s.ns, holding := false }).set
    (PRF.PG_STAT'STATE g) st

/-- A generator whose axis is not in RUN under PROFILE follows the axis (R184); it leaves TRACK at the boundary where
PROFILE takes effect. `on`: the axis is in RUN with source PROFILE. -/
def State.pgUpdate (s : State) (g : Nat) (on : Bool) (pRef speed : Int) (scale : Nat) : State :=
  have s := if !on then s.pgFollow g pgTRACK pRef speed
    else if s.pgState g = pgTRACK then s.pgFollow g (if speed = 0 then pgIDLE else pgSTOPPING) pRef speed
    else
      have t := s.pgCommands g
      have st := t.pgState g
      if st = pgMOVE ∨ st = pgJOG ∨ st = pgSTOPPING then (t.pgStep g scale).work 9 else t
  have x := s.pg g
  ((s.wr40 (PRF.P_OUT_LO g) (PRF.P_OUT_HI g) x.pos).wrI (PRF.V_OUT g) (satI 32 x.vel)).wrI (PRF.A_OUT g) (satI 32 x.accel)

/-- LIMIT_OUTSIDE (R190). -/
def State.pgOutside (s : State) (g : Nat) (p : Int) : State :=
  s.setB (PRF.PG_STAT'LIMIT_OUTSIDE g) (decide (diff40 p (s.pgLo g) < 0 ∨ 0 < diff40 p (s.pgHi g)))

/-! ### Commands -/

def State.pgRefuse (s : State) (g : Nat) : State := (s.set (PRF.PG_STAT'CMD_REFUSED g) 1).refusal 9

/-- Motion in direction `d` from a point outside the virtual limits is only admitted towards the inside (R188). -/
def State.pgOutward (s : State) (g : Nat) (d : Int) : Bool :=
  s.pgVlim g && (decide ((s.pg g).pos < s.pgLo g ∧ d < 0) || decide (s.pgHi g < (s.pg g).pos ∧ 0 < d))

/-- A write of PG_CMD (R184, R185, R188). A refused jog bit is not taken; a jog bit written 0 clears. -/
def State.pgCmdWrite (s : State) (g : Nat) (v : Word) : State :=
  have idle := s.pgState g == pgIDLE
  have jp0 := s.b (PRF.PG_CMD'JOG_POS g)
  have jn0 := s.b (PRF.PG_CMD'JOG_NEG g)
  have jp := bit v.toNat 2
  have jn := bit v.toNat 3
  have s := if bit v.toNat 1 then s.setPg g { s.pg g with stopPend := true } else s
  have s := if !bit v.toNat 0 then s
    else if !idle || s.pgOutward g (sgn (diff40 (s.pgTarget g) (s.pg g).pos)) then s.pgRefuse g
    else s.setPg g { s.pg g with startPend := true }
  have newJog := (jp && !jp0) || (jn && !jn0)
  if newJog && (!idle || (jp && jn) || s.pgOutward g (if jp then 1 else -1)) then
    ((s.setB (PRF.PG_CMD'JOG_POS g) (jp && jp0)).setB (PRF.PG_CMD'JOG_NEG g) (jn && jn0)).pgRefuse g
  else
    have t := (s.setB (PRF.PG_CMD'JOG_POS g) jp).setB (PRF.PG_CMD'JOG_NEG g) jn
    if newJog then t.setPg g { t.pg g with jogPend := true } else t

/-- PG_CMD.START begins a move (R185). -/
def execPgStart (w : Req) (g : Fin 72) (s : State) : Host.Outcome State Fault Refusal :=
  .next (s.regCmd w (PRF.PG_CMD g) (fun s => s.pgCmdWrite g (putBits (s.rd (PRF.PG_CMD g)) 0 0 1)))

/-- PG_CMD.STOP brings a move or jog to rest (R185). -/
def execPgStop (w : Req) (g : Fin 72) (s : State) : Host.Outcome State Fault Refusal :=
  .next (s.regCmd w (PRF.PG_CMD g) (fun s => s.pgCmdWrite g (putBits (s.rd (PRF.PG_CMD g)) 1 1 1)))

/-- A write of JOG_POS (R184). -/
def execPgJogPos (w : Req) (g : Fin 72) (on : Bool) (s : State) : Host.Outcome State Fault Refusal :=
  .next (s.regCmd w (PRF.PG_CMD g) (fun s => s.pgCmdWrite g (putBits (s.rd (PRF.PG_CMD g)) 2 2 on.toNat)))

/-- A write of JOG_NEG (R184). -/
def execPgJogNeg (w : Req) (g : Fin 72) (on : Bool) (s : State) : Host.Outcome State Fault Refusal :=
  .next (s.regCmd w (PRF.PG_CMD g) (fun s => s.pgCmdWrite g (putBits (s.rd (PRF.PG_CMD g)) 3 3 on.toNat)))

/-- The upper word of a position register pair as it reads: bits [39:32] sign-extended (R135). -/
def hiWord (v : Word) : Word := BitVec.ofInt 32 (sxN 8 v.toNat)

/-- A write of one word of TARGET (R186). -/
def State.pgTargetWrite (s : State) (g : Nat) (hi : Bool) (v : Word) : State :=
  if s.pgState g = pgTRACK ∨ s.pgState g = pgIDLE then
    if hi then s.wr (PRF.TARGET_HI g) (hiWord v) else s.wr (PRF.TARGET_LO g) v
  else (s.set (PRF.PG_STAT'TARGET_LOCKED g) 1).refusal 9

/-- A write of TARGET (R186). -/
def execPgTargetWrite (w : Req) (g : Fin 72) (hi : Bool) (v : Word) (s : State) : Host.Outcome State Fault Refusal :=
  .next (s.regCmd w (if hi then PRF.TARGET_HI g else PRF.TARGET_LO g) (·.pgTargetWrite g hi v))

/-- The register of a limit write. -/
def pgLimReg (g r : Nat) : Nat := match r with | 0 => PRF.V_MAX g | 1 => PRF.A_MAX g | 2 => PRF.J_MAX g | _ => PRF.JOG_V g

/-- A write of V_MAX, A_MAX, J_MAX or JOG_V: 0 is refused (R187). -/
def State.pgLimitWrite (s : State) (g r : Nat) (v : Word) : State :=
  if v.toNat = 0 then s.pgRefuse g else s.wr (pgLimReg g r) v

/-- A write of V_MAX, A_MAX, J_MAX or JOG_V (R187). -/
def execPgLimitWrite (w : Req) (g : Fin 72) (r : Fin 4) (v : Word) (s : State) : Host.Outcome State Fault Refusal :=
  .next (s.regCmd w (pgLimReg g r) (·.pgLimitWrite g r v))

/-- The register of a virtual-limit write. -/
def pgVlimReg (g : Nat) (upper hi : Bool) : Nat :=
  match upper, hi with
  | false, false => PRF.VLIM_LO_LO g | false, true => PRF.VLIM_LO_HI g
  | true, false => PRF.VLIM_HI_LO g | true, true => PRF.VLIM_HI_HI g

/-- A write of a word of a virtual limit; one that would invert the limits is refused (R189). -/
def State.pgVlimWrite (s : State) (g : Nat) (upper hi : Bool) (v : Word) : State :=
  have t := s.wr (pgVlimReg g upper hi) (if hi then hiWord v else v)
  if t.pgHi g < t.pgLo g then s.pgRefuse g else t

/-- A write of a virtual limit (R189). -/
def execPgVlimWrite (w : Req) (g : Fin 72) (upper hi : Bool) (v : Word) (s : State) : Host.Outcome State Fault Refusal :=
  .next (s.regCmd w (pgVlimReg g upper hi) (·.pgVlimWrite g upper hi v))

/-! ### Stepper chopping (R191-R195) -/

def State.wind (s : State) (n : Nat) (b : Bool) : Winding := s.prf.wind.get (2 * n + b.toNat)

def State.setWind (s : State) (n : Nat) (b : Bool) (x : Winding) : State :=
  { s with prf := { s.prf with wind := s.prf.wind.set (2 * n + b.toNat) x } }

/-- The input that senses a winding. -/
def State.windAin (s : State) (n : Nat) (b : Bool) : Nat :=
  have l := s.cfg.locals.getD n default
  if b then l.ainB else l.ainA

/-- LPG[n] is a stepper whose chopper runs. -/
def State.stOn (s : State) (n : Nat) : Bool := s.grpMode (64 + n) == modeSTEPPER && s.b (PRF.ST_CFG'EN n)

def State.stOfs (s : State) (n : Nat) (b : Bool) : Nat := if b then s.f (PRF.ST_OFS'OFS_B n) else s.f (PRF.ST_OFS'OFS_A n)

/-- The winding targets at an L1 boundary (R191). -/
def State.stTargets (s : State) (n : Nat) : State :=
  if !s.stOn n then s
  else
    have m := 2 ^ s.f (PRF.ST_CFG'MICRO n)
    have pint := (s.pg (64 + n)).pos / 256
    have th := (pint % (4 * m : Nat)).toNat * 2 ^ 94 / m
    have i : Int := if (s.pg (64 + n)).holding then s.f (PRF.ST_CUR'I_HOLD n) else s.f (PRF.ST_CUR'I_RUN n)
    have t := s.setWind n false { s.wind n false with next := mulTrig i (cosTurn th) }
    t.setWind n true { t.wind n true with next := mulTrig i (sinTurn th) }

/-- A threshold code of R192. -/
def thCode (mv2 : Int) : Nat := (clampI 0 255 (128 + rdiv mv2 32)).toNat

/-- The window comparator of a winding's channel at a reload: UPPER's code in HI_TH and LOWER's in LO_TH, which ABOVE and BELOW
judge for σ × i (R192, `State.cmpRev`). Values are doubled so that BAND/2 stays exact. -/
def State.stThresholds (s : State) (n : Nat) (b : Bool) : State :=
  have x := (s.wind n b).tgt
  have sg := sgn x
  have band : Int := s.f (PRF.ST_BAND'BAND n)
  have up := thCode (sg * (2 * (x.natAbs : Int) + band - 2 * s.stOfs n b))
  have dn := thCode (sg * (2 * (x.natAbs : Int) - band))
  have c := s.windAin n b
  (s.set (ADC.CMP_TH'HI_TH c) up).set (ADC.CMP_TH'LO_TH c) dn

/-- S of one pair is set by the chopper: an edge of R85 where it changes. -/
def State.stPair (s : State) (n p : Nat) (lvl : Bool) : State :=
  have g := 64 + n
  have x := s.grp g
  have y := x.pair p
  have fresh := !y.hi && !y.low && y.due.isEmpty
  if y.lvl == lvl && !fresh then s
  else
    have now := s.count0
    have z := if lvl then y.rise now (s.f (PWM.DT_ACT'DT_RISE g p)) else y.fall now (s.f (PWM.DT_ACT'DT_FALL g p))
    s.setGrp g (x.setPair p z)

/-- The pairs of a winding take the levels of its drive or decay (R193). -/
def State.stApply (s : State) (n : Nat) (b : Bool) : State :=
  if s.b (PWM.GRP_STAT'TRIPPED (64 + n)) ∨ (s.grp (64 + n)).held ∨ s.standby then s
  else
    have x := s.wind n b
    have p := if b then 2 else 0
    have fwd := decide (0 ≤ x.tgt)
    match x.decay with
    | 0 => (s.stPair n p fwd).stPair n (p + 1) (!fwd)
    | 1 => (s.stPair n p false).stPair n (p + 1) false
    | _ => (s.stPair n p (!fwd)).stPair n (p + 1) fwd

/-- A winding starts to drive. -/
def State.stDrive (s : State) (n : Nat) (b : Bool) : State :=
  (s.setWind n b { s.wind n b with decay := 0, restart := false, blankEnd := s.time.ticks + s.f (PRF.ST_CFG'TBLANK n) }).stApply n b

/-- VALUE of the freezes of the last burst of a channel, if every one is usable (R57, R195). -/
def State.burstVals (s : State) (c : Nat) : Option (List Int) :=
  have l := s.adc.lastBurst.map (fun z => (z, z.ch.getD c default))
  if l.isEmpty ∨ l.any (fun q => !q.1.ref || q.1.fault || !q.2.use || q.2.settling) then none else some (l.map (·.2.val))

/-- A learning window of 64 L0 periods ends (R195). One VALUE LSB is 1/(16·2^GAIN) mV (R54). -/
def State.learnEnd (s : State) (n : Nat) (b : Bool) : State :=
  have x := s.wind n b
  if !(s.domOn pdCTL && s.stOn n) || x.winN < 64 then s
  else
    have g := 2 ^ bitsOf (s.effCfg (s.windAin n b)) 5 4
    have band := s.f (PRF.ST_BAND'BAND n)
    have lr := 2 ^ s.f (PRF.ST_CFG'LRATE n)
    have num := 2 * x.peak - (16 * g : Nat) * (2 * (x.tgt.natAbs : Int) + band)
    have d := rdiv num (32 * g * lr)
    have ofs := (clampI 0 ((band : Int) - 16) (s.stOfs n b + d)).toNat
    have pk := uN 16 (rdiv x.peak (16 * g))
    have s := s.setWind n b { x with winN := 0, peak := 0 }
    if b then (s.set (PRF.ST_OFS'OFS_B n) ofs).set (PRF.ST_PEAK'B n) pk
    else (s.set (PRF.ST_OFS'OFS_A n) ofs).set (PRF.ST_PEAK'A n) pk

/-- The learning window of a winding takes an L0 period that ends (R195); a full window that precedes it ends first. -/
def State.stLearn (s : State) (n : Nat) (b : Bool) : State :=
  have s := s.learnEnd n b
  have x := s.wind n b
  if !s.b (PRF.ST_CFG'LEARN_EN n) then s.setWind n b { x with winN := 0, peak := 0 }
  else match s.burstVals (s.windAin n b) with
    | none => s.setWind n b { x with winN := 0, peak := 0 }
    | some vs =>
      have pk := (vs.map (fun v => sgn x.tgt * v)).foldl max (if x.winN = 0 then -32768 else x.peak)
      s.setWind n b { x with winN := x.winN + 1, peak := pk }

/-- A winding at a reload: the window of the period that ends, then the new target, thresholds, and drive or decay
(R191-R195). A full window ends before its target changes. -/
def State.stReload (s : State) (n : Nat) (b : Bool) (cleared : Bool) : State :=
  have s := s.stLearn n b
  have changed := (s.wind n b).next != (s.wind n b).tgt
  have s := if changed then s.learnEnd n b else s
  have x := s.wind n b
  have turned := sgn x.next != sgn x.tgt
  have s := s.setWind n b { x with tgt := x.next, winN := if changed then 0 else x.winN }
  have s := s.stThresholds n b
  if x.next = 0 then (s.setWind n b { s.wind n b with decay := 1 }).stApply n b
  else if cleared || x.restart || turned then s.stDrive n b
  else s

/-- A group in its trip state: OFS is kept and the window is discarded (R195, log entry 55). -/
def State.stTripped (s : State) (n : Nat) (b : Bool) : State :=
  have s := s.learnEnd n b
  s.setWind n b { s.wind n b with winN := 0, peak := 0 }

/-- The choppers at a reload. `cleared`: groups whose trip has been cleared since the reload before. -/
def State.chopperReload (s : State) (cleared : List Nat) : State :=
  s.each (upto 8) fun n t =>
    have on := t.stOn n
    have t := if t.grpMode (64 + n) = modeSTEPPER then t.setGrp (64 + n) { t.grp (64 + n) with drive := on } else t
    if !on then t
    else if t.b (PWM.GRP_STAT'TRIPPED (64 + n)) then (t.stTripped n false).stTripped n true
    else (t.stReload n false (cleared.contains (64 + n))).stReload n true (cleared.contains (64 + n))

/-- The chopper of LPG[n] may switch: it runs, and its group is neither tripped nor waits for the reload after a trip
(R103, R194). -/
def State.stFree (s : State) (n : Nat) : Bool :=
  s.domOn pdCTL && s.stOn n && !s.b (PWM.GRP_STAT'TRIPPED (64 + n)) && !(s.grp (64 + n)).held

/-- A crossing of a winding's comparator, as its ABOVE and BELOW show it (R192, R193). -/
def State.stCross (s : State) (n : Nat) (b upper : Bool) : State :=
  have x := s.wind n b
  have c := s.ach (s.windAin n b)
  if !s.stFree n || x.tgt == 0 || !(if upper then c.above else c.below) then s
  else if upper then
    if x.decay ≠ 0 ∨ s.time.ticks < x.blankEnd then s
    else
      have d := match s.f (PRF.ST_CFG'DECAY n) with | 0 => 1 | 1 => 2 | _ => 3
      (s.setWind n b { x with decay := d, fastEnd := s.time.ticks + s.f (PRF.ST_CFG'T_FAST n) }).stApply n b
  else if x.decay = 0 then s else s.stDrive n b

/-- A winding comparator crossing switches the winding between drive and decay (R193). -/
def execChopperCrossing (n : Fin 8) (b upper : Bool) (s : State) : Host.Outcome State Fault Refusal :=
  .next (s.stCross n b upper)

/-- In MIXED decay T_FAST counts end and the winding turns to SLOW (R193). -/
def execFastDecayEnd (n : Fin 8) (b : Bool) (s : State) : Host.Outcome State Fault Refusal :=
  .next (
    have x := s.wind n b
    if s.stFree n ∧ x.decay = 3 then
      have t := s.edges (x.fastEnd - s.time.ticks)
      (t.setWind n b { x with decay := 1 }).stApply n b
    else s)

/-- After HOLD_T ms of IDLE the winding current becomes I_HOLD (R191). -/
def execHoldCurrentTimeout (n : Fin 8) (s : State) : Host.Outcome State Fault Refusal :=
  .next (
    have x := s.pg (64 + n)
    if s.domOn pdCTL ∧ s.stOn n ∧ s.pgState (64 + n) = pgIDLE ∧ !x.holding then
      have t := s.advanceTo (x.idleNs + ms (s.f (PRF.ST_BAND'HOLD_T n)))
      t.setPg (64 + n) { x with holding := true }
    else s)

/-- A learning window ends and OFS is updated (R195). -/
def execLearnWindowEnd (n : Fin 8) (b : Bool) (s : State) : Host.Outcome State Fault Refusal := .next (s.learnEnd n b)

/-- A write of ST_CFG: EN = 1 is refused outside M3-M8 and M10; EN from 0 to 1 resets the learned offsets and starts in
drive at the next reload (R194, R195). -/
def State.stCfgWrite (s : State) (n : Nat) (v : Word) : State :=
  have en0 := s.b (PRF.ST_CFG'EN n)
  have bad := bit v.toNat 31 && !modeDrives s.mode
  have t := s.plainWrite (PRF.ST_CFG n) (if bad then putBits v 31 31 en0.toNat else v)
  have t := if bad then t.refusal 9 else t
  if !en0 && t.b (PRF.ST_CFG'EN n) then
    have t := t.wrN (PRF.ST_OFS n) 0
    (t.setWind n false { (default : Winding) with restart := true }).setWind n true { (default : Winding) with restart := true }
  else t

/-- A write of stepper chopper configuration (R191). -/
def execStCfgWrite (w : Req) (n : Fin 8) (v : Word) (s : State) : Host.Outcome State Fault Refusal :=
  .next (s.regCmd w (PRF.ST_CFG n) (·.stCfgWrite n v))

end Sys2Proof.Machine
end

