-- ==== Sys2Proof/Machine/Traj.lean ====
section
/-!
DEFINITION. Trajectory run-ahead and the zone ledger (spec/09_trajectory_runahead.md).
-/
namespace Sys2Proof.Machine
open Sys2Proof

/-! ### Boundary and cycle numbers (R197), counted without their wrap -/

def State.bnNow (s : State) : Nat := s.ns / 50000
def State.cnNow (s : State) : Nat := s.ns / 250000

/-- The number nearest to `now` that is `n` modulo 2^32. -/
def unwrap (now n : Nat) : Nat := ((now : Int) + sxN 32 (uN 32 ((n : Int) - now))).toNat

/-- The next L3 boundary, ns. -/
def State.nextL3 (s : State) : Nat := (s.ns / 1000000 + 1) * 1000000

/-- The open window start (R204): the first L3 boundary whose evaluation has not begun. -/
def State.openStart (s : State) : Nat :=
  (if s.trj.evalB = s.nextL3 then s.nextL3 + 1000000 else s.nextL3) / 50000

def State.evalOn (s : State) : Bool := s.b TRJ.TRJ_STAT'EVAL

/-! ### Queues and slots (R196-R200) -/

def State.qTopo (s : State) (q : Nat) : QueueTopo := s.cfg.queues.getD q default
def State.qUsed (s : State) (q : Nat) : Bool := decide (q < 16) && (s.qTopo q).used && !(s.qTopo q).axes.isEmpty
def State.qAxes (s : State) (q : Nat) : List Nat := (s.qTopo q).axes

def State.slot (s : State) (q i : Nat) : TrjEntry := s.trj.entries.get (128 * q + i)

def State.setSlot (s : State) (q i : Nat) (e : TrjEntry) : State :=
  { s with trj := { s.trj with entries := s.trj.entries.set (128 * q + i) e } }

/-- The slot of boundary `b` holds an entry for it. -/
def State.entryAt (s : State) (q b : Nat) : Option TrjEntry :=
  have e := s.slot q (b % 128)
  if e.st ≠ 0 ∧ e.bn = b then some e else none

def State.tq (s : State) (q : Nat) : TrjQ := s.trj.q.get q
def State.setTq (s : State) (q : Nat) (x : TrjQ) : State := { s with trj := { s.trj with q := s.trj.q.set q x } }
def State.pp (s : State) (p : Nat) : PpPort := s.trj.pp.get p
def State.setPp (s : State) (p : Nat) (x : PpPort) : State := { s with trj := { s.trj with pp := s.trj.pp.set p x } }
def State.setPlans (s : State) (l : List TrjPlan) : State := { s with trj := { s.trj with plans := l } }
def State.setClaims (s : State) (l : List TrjClaim) : State := { s with trj := { s.trj with claims := l } }

/-- An axis in RUN with source AUTO. -/
def State.axAuto (s : State) (a : Nat) : Bool :=
  s.f (CTL.AX_STAT'STATE a) == axRUN && s.f (CTL.AX_STAT'SRC_ACT a) == 1

/-- An entry of boundary `b` of queue `q` is needed (R199). -/
def State.entryNeeded (s : State) (q b : Nat) : Bool :=
  (s.qAxes q).any (fun a => s.axAuto a && decide ((s.ax a).tau / (32768 * 50000) ≤ b))

/-! ### The fallback reference (R217) -/

/-- The stretch of fallback that covers boundary `b`. -/
def spanAt (b : Nat) : List FbSpan → FbSpan
  | [] => default
  | x :: t => if x.from_ ≤ b then x else spanAt b t

/-- Where the stop from an entry stands `n` boundaries later. -/
def stopFrom (r : TrjRec) (am jm n : Nat) : TrjRec :=
  if am = 0 ∨ jm = 0 then { r with v := 0 }
  else
    have segs := toVel (r.v * unV) 0 0 ((am : Int) * unT) jm
    have t := (n : Int) * 2 ^ 38
    have k0 : Kin := ⟨0, r.v * unV, 0⟩
    have past := decide ((segs.map (·.t)).sum ≤ t)
    have k := if past then k0.runAll segs else k0.at segs t
    ⟨sxN 40 (uN 40 (r.p + rdiv k.p unP)), if past then 0 else rdiv k.v unV, r.f⟩

/-- The fallback reference of position `k` of queue `q` (axis `a`) at boundary `b` (R217; log entry 21). -/
def State.fallAxis (s : State) (q k a b : Nat) : TrjRec :=
  have x := spanAt b (s.tq q).spans
  have y := s.ax a
  if s.axAuto a && (!x.has || decide (x.bL < y.autoBn)) then ⟨y.autoP, 0, 0⟩
  else if x.has then stopFrom (x.recs.getD k default) (s.rdN (PRF.A_MAX a)) (s.rdN (PRF.J_MAX a)) (b - x.bL)
  else ⟨y.pRef, 0, 0⟩

def State.fbRef (s : State) (q b : Nat) : List TrjRec := (s.qAxes q).mapIdx (fun k a => s.fallAxis q k a b)

/-- What AUTO reads at boundary `b`: the committed entry, or the fallback reference (R160, R164); `true`: committed. -/
def State.autoAt (s : State) (q k a b : Nat) : TrjRec × Bool :=
  match s.entryAt q b with
  | some e => if e.st = 3 then (e.recs.getD k default, true) else (s.fallAxis q k a b, false)
  | none => (s.fallAxis q k a b, false)

/-- The AUTO reference of axis `a` at τ: linear between the two boundaries that enclose τ (R163, R164); `true`: every
entry read was committed. -/
def State.autoRef (s : State) (a : Nat) : TrjRec × Bool :=
  have t := s.axTopo a
  have tau := (s.ax a).tau
  have b := tau / (32768 * 50000)
  have fr := tau % (32768 * 50000)
  have x := s.autoAt t.queue t.qpos a b
  if fr = 0 then x
  else
    have y := s.autoAt t.queue t.qpos a (b + 1)
    have mix := fun (u w : Int) => u + rdiv ((w - u) * fr) (32768 * 50000)
    (⟨sxN 40 (uN 40 (x.1.p + rdiv (diff40 y.1.p x.1.p * fr) (32768 * 50000))), mix x.1.v y.1.v, mix x.1.f y.1.f⟩, x.2 && y.2)

/-! ### Plans, claims, dependencies (R201, R206-R211) -/

def State.planOf (s : State) (e : Nat) : Option TrjPlan := s.trj.plans.find? (fun p => p.epoch == e)

/-- OPEN, HELD or SPECULATIVE. -/
def TrjPlan.live (p : TrjPlan) : Bool := p.state == 1 || p.state == 2 || p.state == 3

/-- The claim has cycles that are SPECULATIVE or HELD. -/
def TrjClaim.undecided (c : TrjClaim) : Bool := !c.fb && decide (c.firm < c.count)

/-- The claim and cycles `lo` to `hi` − 1 overlap. -/
def TrjClaim.overlaps (c : TrjClaim) (lo hi : Nat) : Bool :=
  if c.fb then decide (c.first < hi) else decide (c.first < hi ∧ lo < c.first + c.count)

/-- The depth of a plan with these dependencies, from the depths of the plans of a list (R210). -/
def depthOf (l : List TrjPlan) (deps : List TrjDep) : Nat :=
  1 + (deps.map (fun d => match l.find? (fun p => p.epoch == d.epoch) with | some p => p.depth | none => 0)).foldl max 0

/-- Claims that overlap cycles of a zone. -/
def State.claimsOn (s : State) (zone lo hi : Nat) : List TrjClaim :=
  s.trj.claims.filter (fun c => c.zone == zone && c.overlaps lo hi)

/-- Dependencies added to a list, each once. -/
def addDeps (l : List TrjDep) (cs : List TrjClaim) : List TrjDep :=
  cs.foldl (fun l c => if l.contains ⟨c.epoch, c.zone⟩ then l else l ++ [TrjDep.mk c.epoch c.zone]) l

/-- The queues assigned to a port (Q_CFG.OWNER). -/
def State.portQueues (s : State) (p : Nat) : List Nat :=
  (upto 16).filter (fun q => s.qUsed q && s.f (TRJ.Q_CFG'OWNER q) == p)

/-- The counts and views that the registers show. -/
def State.trjSync (s : State) : State :=
  have t := (s.set TRJ.TRJ_STAT'PLANS s.trj.plans.length).set TRJ.TRJ_STAT'LEDGER_USED s.trj.claims.length
  have e := t.f TRJ.PLAN_SEL'EPOCH
  have t := match t.planOf e with
    | some p => (((((t.set TRJ.PLAN_INFO'STATE p.state).set TRJ.PLAN_INFO'REASON p.reason).set TRJ.PLAN_INFO'DEPTH
        (min p.depth 15)).set TRJ.PLAN_INFO'NDEP (min p.deps.length 16)).set TRJ.PLAN_INFO'QUEUE p.queue).set TRJ.PLAN_INFO'PORT p.port
    | none => t.wrN TRJ.PLAN_INFO 0
  t.each (upto 16) fun p t =>
    have x := t.pp p
    have t := (t.setB (TRJ.PP_STAT'PLAN_OPEN p) x.isOpen).set (TRJ.PP_STAT'EPOCH p) x.epoch
    have deps := match t.planOf x.epoch with | some y => if x.isOpen then y.deps else [] | none => []
    (t.set (TRJ.PP_DEP'NDEP p) (min deps.length 17)).set (TRJ.PP_DEP'DEPTH p)
      (if x.isOpen then min 15 (depthOf t.trj.plans deps) else 0)

/-- The counts of Q_STAT. -/
def State.qSync (s : State) (q : Nat) : State :=
  have l := (upto 128).map (fun i => s.slot q i)
  have n := fun k => (l.filter (fun e => e.st == k)).length
  ((s.set (TRJ.Q_STAT'SPEC_CNT q) (n 1)).set (TRJ.Q_STAT'HELD_CNT q) (n 2)).set (TRJ.Q_STAT'COMMIT_CNT q)
    (l.filter (fun e => e.st == 3 && decide (s.bnNow ≤ e.bn))).length

/-! ### Planner-port commands (R201-R209) -/

def State.ppResult (s : State) (p r : Nat) : State :=
  (s.set (TRJ.PP_STAT'RESULT p) r).iff (decide (1 < r)) (·.refusal 10)

/-- The next epoch (R201). -/
def State.nextEpoch (s : State) : Nat :=
  (((upto 258).map (fun i => (s.trj.lastEpoch + 1 + i) % 65536)).find? (fun e => e != 0 && (s.planOf e).isNone)).getD 1

/-- The modes that admit plans. -/
def modePlans (m : Nat) : Bool := decide (4 ≤ m ∧ m ≤ 8) || m == 10

/-- OPEN (R201). -/
def State.ppOpen (s : State) (p : Nat) : State :=
  if !modePlans s.mode then s.ppResult p 0x10
  else if (s.pp p).isOpen then s.ppResult p 0x11
  else if 256 ≤ s.trj.plans.length then s.ppResult p 0x12
  else
    have e := s.nextEpoch
    have t := s.setPlans (s.trj.plans ++ [{ (default : TrjPlan) with epoch := e, port := p, state := 1, depth := 1 }])
    have t := { t with trj := { t.trj with lastEpoch := e } }
    ((t.setPp p ⟨e, true, false⟩).ppResult p 0)

/-- The plan of a port leaves the table, if it is still there as OPEN. -/
def State.ppDrop (s : State) (p : Nat) : State :=
  have x := s.pp p
  (s.setPlans (s.trj.plans.filter (fun y => !(y.epoch == x.epoch && y.state == 1)))).setPp p ⟨x.epoch, false, false⟩

/-- ABORT (R201). -/
def State.ppAbort (s : State) (p : Nat) : State :=
  if (s.pp p).isOpen then (s.ppDrop p).ppResult p 0 else s.ppResult p 0x13

/-- The state that a query reports for a claim (PP_QRES_A.STATE), on cycles `lo` to `hi` − 1. -/
def State.claimState (s : State) (c : TrjClaim) (hi : Nat) : Nat :=
  if c.fb then 3 else if min hi (c.first + c.count) ≤ c.first + c.firm then 0
  else match s.planOf c.epoch with | some p => if p.state = 2 then 2 else 1 | none => 1

/-- A claim put in its place by first cycle, then queue (R208). -/
def sortClaim (c : TrjClaim) : List TrjClaim → List TrjClaim
  | [] => [c]
  | d :: t => if c.first < d.first ∨ (c.first = d.first ∧ c.queue < d.queue) then c :: d :: t else d :: sortClaim c t

/-- QUERY (R208). -/
def State.ppQuery (s : State) (p zone count qfirst : Nat) : State :=
  have lo := unwrap s.cnNow qfirst
  have hi := lo + count + 1
  have l := (s.claimsOn zone lo hi).foldl (fun l c => sortClaim c l) []
  have t := (s.setB (TRJ.PP_STAT'MORE p) (decide (8 < l.length))).set (TRJ.PP_STAT'QRES_N p) (min 8 l.length)
  have t := t.each (upto (min 8 l.length)) fun i t =>
    have c := l.getD i default
    have t := (t.set (TRJ.PP_QRES_A'QUEUE p i) c.queue).set (TRJ.PP_QRES_A'STATE p i) (s.claimState c hi)
    have t := (t.set (TRJ.PP_QRES_A'COUNT_M1 p i) (if c.fb then 7 else c.count - 1)).set (TRJ.PP_QRES_A'EPOCH p i) (if c.fb then 0 else c.epoch)
    t.wrN (TRJ.PP_QRES_B p i) c.first
  have x := t.pp p
  have own := t.portQueues p
  have cs := (t.claimsOn zone lo hi).filter (fun c => c.undecided && !(own == [c.queue]))
  have t := if x.isOpen ∧ !x.squashed then
      t.setPlans (t.trj.plans.map (fun y => if y.epoch == x.epoch then { y with deps := (addDeps y.deps cs).take 17 } else y))
    else t
  t.ppResult p 0

/-- A plan record as read from its buffers (R203). -/
structure PlanRec where
  queue : Nat
  nax : Nat
  count : Nat
  nclaim : Nat
  first : Nat
  replace : Bool
  zeros : Bool
  crcOk : Bool
  claims : List TrjClaim
  recs : List (List TrjRec)
  deriving DecidableEq, Repr, Inhabited

def PlanRec.length (r : PlanRec) : Nat := 16 + 8 * r.nclaim + 16 * r.count * r.nax

/-- An axis record of R198 at byte offset `o`. -/
def trjRecAt (l : List Byte) (o : Nat) : TrjRec :=
  ⟨sxN 40 (leAt l o 5), sxN 32 (leAt l (o + 8) 4), sxN 32 (leAt l (o + 12) 4)⟩

/-- The plan record in `nbuf` buffers from `buf`. -/
def State.planRec (s : State) (buf nbuf : Nat) : PlanRec :=
  have l := s.bytes (smwAt buf) (4096 * nbuf)
  have nax := leAt l 1 1
  have cnt := leAt l 2 1
  have ncl := leAt l 3 1
  have len := 16 + 8 * ncl + 16 * cnt * nax
  have cs := (upto (min ncl 8)).map (fun c =>
    ({ queue := leAt l 0 1, zone := leAt l (16 + 8 * c) 1, epoch := 0, first := unwrap s.cnNow (leAt l (20 + 8 * c) 4),
       count := leAt l (18 + 8 * c) 2, firm := 0, fb := false } : TrjClaim))
  have zs := (upto (min ncl 8)).all (fun c => leAt l (17 + 8 * c) 1 == 0)
  { queue := leAt l 0 1, nax := nax, count := cnt, nclaim := ncl, first := unwrap s.bnNow (leAt l 4 4),
    replace := bit (leAt l 8 1) 0, zeros := decide (leAt l 8 1 < 2) && leAt l 9 3 == 0 && zs,
    crcOk := decide (len ≤ 4096 * nbuf) && leAt l 12 4 == crc32c ((l.drop 16).take (len - 16)),
    claims := cs,
    recs := (upto (min cnt 40)).map (fun i => (upto (min nax 8)).map (fun k => trjRecAt l (16 + 8 * ncl + 16 * (i * nax + k)))) }

/-- The entries of a queue that a plan with REPLACE takes the place of (R205). -/
def replaced (r : PlanRec) (e : TrjEntry) : Bool :=
  r.replace && (e.st == 1 || e.st == 2) && decide (r.first ≤ e.bn)

/-- The claims left after a plan with REPLACE: earlier plans of the queue withdraw their cycles from floor(FIRST_BND / 5)
on (R205); the second list names the claims withdrawn. -/
def withdraw (r : PlanRec) (l : List TrjClaim) : List TrjClaim × List TrjDep :=
  if !r.replace then (l, [])
  else
    have cn := r.first / 5
    have hit := fun (c : TrjClaim) => c.queue == r.queue && c.undecided && decide (cn < c.first + c.count)
    have cut := fun (c : TrjClaim) => if hit c then { c with count := max c.firm (cn - c.first) } else c
    ((l.map cut).filter (fun c => c.fb || decide (0 < c.count)), (l.filter hit).map (fun c => TrjDep.mk c.epoch c.zone))

/-- The dependencies of the open plan of a port at CLOSE (R208, R209): those of its queries, but for claims of its own
queue, and one on every undecided claim of another queue on a zone that it claims. -/
def State.closeDeps (s : State) (p : Nat) (r : PlanRec) : List TrjDep :=
  have own := match s.planOf (s.pp p).epoch with | some y => y.deps | none => []
  have own := own.filter (fun d => !(s.trj.claims.any (fun c => c.epoch == d.epoch && c.zone == d.zone && c.queue == r.queue)))
  addDeps own (s.trj.claims.filter (fun c => c.undecided && c.queue != r.queue && r.claims.any (fun d => d.zone == c.zone)))

/-- The checks of R204 in order; 0: all pass. -/
def State.closeCheck (s : State) (p buf nbuf : Nat) (r : PlanRec) : Nat :=
  if !(s.pp p).isOpen then 0x13
  else if (s.pp p).squashed then 0x1F
  else if !((upto nbuf).all (fun i => decide (buf + i < 2048) && s.owner (buf + i) == ownDEVICE)) then 0x14
  else if !(s.qUsed r.queue) ∨ s.f (TRJ.Q_CFG'OWNER r.queue) ≠ p then 0x17
  else if r.nax ≠ (s.qAxes r.queue).length ∨ r.count = 0 ∨ 40 < r.count ∨ 8 < r.nclaim ∨ !r.zeros ∨ 4096 * nbuf < r.length ∨
      r.claims.any (fun c => decide (15 < c.zone ∨ c.count = 0 ∨ 8 < c.count)) then 0x15
  else if !r.crcOk then 0x16
  else if r.first < s.openStart then 0x18
  else if s.cnNow * 5 + 40 < r.first + r.count - 1 ∨
      r.claims.any (fun c => decide (c.first < s.openStart / 5 ∨ s.cnNow + 7 < c.first + c.count - 1)) then 0x19
  else if !r.replace ∧ (upto r.count).any (fun i => match s.entryAt r.queue (r.first + i) with
      | some e => e.st == 1 || e.st == 2 | none => false) then 0x1A
  else if (upto r.count).any (fun i =>
      have e := s.slot r.queue ((r.first + i) % 128)
      decide (1 ≤ e.st ∧ e.st ≤ 3) && !replaced r e && s.entryNeeded r.queue e.bn) then 0x1B
  else if r.claims.any (fun c => s.trj.claims.any (fun d => d.queue != r.queue && d.zone == c.zone && d.overlaps c.first (c.first + c.count)))
  then 0x1C
  else if 256 < (withdraw r s.trj.claims).1.length + r.nclaim then 0x1D
  else if 16 < (s.closeDeps p r).length then 0x1E
  else 0

/-- Plans with no entries and no claims left after a REPLACE are DONE (R205); those whose entries are committed and
whose claims are firm too (R202). -/
def State.planDone (s : State) (p : TrjPlan) : Bool :=
  (p.state == 2 || p.state == 3) &&
  !((upto 128).any (fun i => have e := s.slot p.queue i; e.epoch == p.epoch && (e.st == 1 || e.st == 2))) &&
  !(s.trj.claims.any (fun c => c.epoch == p.epoch && c.undecided))

def State.markDone (s : State) : Nat × State :=
  ((s.trj.plans.filter s.planDone).length, s.setPlans (s.trj.plans.map (fun p => if s.planDone p then { p with state := 4 } else p)))

/-- An accepted plan: entries and claims appear in one step (R204, R205). -/
def State.closeAccept (s : State) (p : Nat) (r : PlanRec) : State :=
  have e := (s.pp p).epoch
  have deps := s.closeDeps p r
  have depth := depthOf s.trj.plans deps
  have st := if 4 < depth then 2 else 1
  have (cl, gone) := withdraw r s.trj.claims
  have t := s.each (upto 128) fun i t => if replaced r (t.slot r.queue i) then t.setSlot r.queue i default else t
  have t := t.each (upto r.count) fun i t =>
    t.setSlot r.queue ((r.first + i) % 128) ⟨r.first + i, e, st, r.recs.getD i []⟩
  have t := t.setClaims (cl ++ r.claims.map (fun c => { c with epoch := e, queue := r.queue }))
  have t := { t with trj := { t.trj with gone := t.trj.gone ++ gone } }
  have me : TrjPlan := { epoch := e, port := p, queue := r.queue, state := if 4 < depth then 2 else 3, reason := 0,
                         depth := depth, deps := deps }
  have t := t.setPlans (t.trj.plans.filter (fun y => y.epoch != e) ++ [me])
  have t := if r.replace then t.markDone.2 else t
  ((t.setPp p ⟨e, false, false⟩).qSync r.queue).ppResult p (if 4 < depth then 1 else 0)

/-- CLOSE (R203-R205). -/
def State.ppClose (s : State) (p buf nbuf : Nat) : State :=
  have r := s.planRec buf nbuf
  have c := s.closeCheck p buf nbuf r
  have t := if c = 0 then (s.closeAccept p r).work 10 else ((if c = 0x13 then s else s.ppDrop p).ppResult p c)
  t.each (upto nbuf) fun i t => if buf + i < 2048 ∧ t.owner (buf + i) = ownDEVICE then t.returnBuf (buf + i) else t

/-- A word written to PP_CMD is performed (R201, R204, R208). -/
def State.ppPerform (s : State) (p word qfirst : Nat) : State :=
  have v := w32 word
  have s := if bit word 31 then s.ppOpen p else s
  have s := if bit word 30 then s.ppClose p (bitsOf v 10 0) (bitsOf v 12 12 + 1) else s
  have s := if bit word 29 then s.ppAbort p else s
  have s := if bit word 28 then s.ppQuery p (bitsOf v 27 24) (bitsOf v 22 20) qfirst else s
  s.trjSync

/-- A write of PP_CMD: held during an evaluation (R214). -/
def State.ppCmdWrite (s : State) (p : Nat) (v : Word) : State :=
  have s := s.plainWrite (TRJ.PP_CMD p) v
  if bitsOf v 31 28 = 0 then s
  else if s.evalOn ∨ !s.trj.held.isEmpty then
    { s with trj := { s.trj with held := s.trj.held ++ [PpHeld.mk p v.toNat (s.rdN (TRJ.PP_QFIRST p))] } }.set (TRJ.PP_STAT'BUSY p) 1
  else s.ppPerform p v.toNat (s.rdN (TRJ.PP_QFIRST p))

/-- PP_CMD.OPEN (R201). -/
def execPpOpen (w : Req) (p : Fin 16) (s : State) : Host.Outcome State Fault Refusal :=
  .next (s.regCmd w (TRJ.PP_CMD p) (fun s => s.ppCmdWrite p (putBits (s.rd (TRJ.PP_CMD p)) 31 31 1)))

/-- PP_CMD.CLOSE (R204). -/
def execPpClose (w : Req) (p : Fin 16) (two : Bool) (buf : Fin 2048) (s : State) : Host.Outcome State Fault Refusal :=
  .next (s.regCmd w (TRJ.PP_CMD p) (fun s =>
    s.ppCmdWrite p (putBits (putBits (putBits (s.rd (TRJ.PP_CMD p)) 30 30 1) 12 12 two.toNat) 10 0 buf)))

/-- PP_CMD.ABORT (R201). -/
def execPpAbort (w : Req) (p : Fin 16) (s : State) : Host.Outcome State Fault Refusal :=
  .next (s.regCmd w (TRJ.PP_CMD p) (fun s => s.ppCmdWrite p (putBits (s.rd (TRJ.PP_CMD p)) 29 29 1)))

/-- PP_CMD.QUERY (R208). -/
def execPpQuery (w : Req) (p : Fin 16) (zone : Fin 16) (count : Fin 8) (s : State) : Host.Outcome State Fault Refusal :=
  .next (s.regCmd w (TRJ.PP_CMD p) (fun s =>
    s.ppCmdWrite p (putBits (putBits (putBits (s.rd (TRJ.PP_CMD p)) 28 28 1) 27 24 zone) 22 20 count)))

/-! ### The verdict table (R212, R213) -/

/-- The requester named in TRJ_CTRL.VT_REQ. -/
def State.isVtReq (s : State) (w : Req) : Bool := reqCode w == s.f TRJ.TRJ_CTRL'VT_REQ

def State.vtRefused (s : State) : State := (s.set TRJ.TRJ_ERR'VT_REFUSED 1).refusal 10

/-- VT_VERDICT after a write: a reserved code keeps the queue's verdict (R9). -/
def verdictWord (old v : Word) : Nat :=
  ((upto 16).map (fun q => (if bitsOf v (2 * q + 1) (2 * q) < 2 then bitsOf v (2 * q + 1) (2 * q) else bitsOf old (2 * q + 1) (2 * q)) * 4 ^ q)).sum

/-- A write of word `r` of the verdict table (R212, R213). -/
def State.vtWrite (s : State) (w : Req) (r : Nat) (v : Word) : State :=
  if !s.isVtReq w then s.vtRefused
  else if s.b TRJ.VT_SEAL'SEALED then s
  else if r = 0 then s.wrN TRJ.VT_VERDICT (verdictWord (s.rd TRJ.VT_VERDICT) v)
  else s.wr (TRJ.VT_VERDICT + 4 * r) v

/-- The evaluation of the next L3 boundary has begun (R213). -/
def State.sealLate (s : State) : Bool :=
  s.evalOn || (s.trj.evalB != 0 && s.trj.evalSeq == (s.f SYS.CYCLE_STAT'L3_SEQ + 1) % 65536 && decide (s.ns < s.trj.evalB + 1000000))

/-- A write of VT_SEAL (R213): a late or a wrong seal is refused, also while a table is sealed. -/
def State.vtSealWrite (s : State) (w : Req) (v : Word) : State :=
  if !s.isVtReq w then s.vtRefused
  else
    have done := s.b TRJ.VT_SEAL'SEALED
    have t := s.iff (!done) (·.set TRJ.VT_SEAL'TARGET (bitsOf v 15 0))
    if !bit v.toNat 31 then t
    else if bitsOf v 15 0 ≠ (t.f SYS.CYCLE_STAT'L3_SEQ + 1) % 65536 then (t.set TRJ.TRJ_ERR'SEAL_WRONG 1).refusal 10
    else if t.sealLate then (t.set TRJ.TRJ_ERR'SEAL_LATE 1).refusal 10
    else if done then t
    else { t.set TRJ.VT_SEAL'SEALED 1 with trj := { t.trj with sealNs := t.ns } }

/-- A write to the verdict table (R212). -/
def execVtWrite (w : Req) (r : Fin 10) (v : Word) (s : State) : Host.Outcome State Fault Refusal :=
  .next (s.regCmd w (TRJ.VT_VERDICT + 4 * r) (·.vtWrite w r v))

/-- VT_SEAL.SEAL (R213). -/
def execVtSeal (w : Req) (target : BitVec 16) (s : State) : Host.Outcome State Fault Refusal :=
  .next (s.regCmd w TRJ.VT_SEAL (·.vtSealWrite w (w32 (2 ^ 31 + target.toNat))))

/-! ### The L3 evaluation (R214-R218) -/

/-- A plan is squashed (R216): it loses its SPECULATIVE and HELD entries and all cycles that are not FIRM. -/
def State.squash (s : State) (e reason : Nat) : State :=
  match s.planOf e with
  | none => s
  | some p =>
    if !p.live then s
    else
      have lost := s.trj.claims.filter (fun c => c.epoch == e && c.undecided)
      have t := s.setPlans (s.trj.plans.map (fun y => if y.epoch == e then { y with state := 5, reason := reason } else y))
      have t := t.setClaims ((t.trj.claims.map (fun c => if c.epoch == e && !c.fb then { c with count := c.firm } else c)).filter
        (fun c => c.fb || decide (0 < c.count)))
      have t := { t with trj := { t.trj with gone := t.trj.gone ++ lost.map (fun c => TrjDep.mk c.epoch c.zone), outSq := t.trj.outSq + 1 } }
      have x := t.pp p.port
      have t := if x.isOpen ∧ x.epoch = e then t.setPp p.port { x with squashed := true } else t
      if p.state = 1 then t
      else
        have t := t.sat (TRJ.Q_CNT'SQUASH_CNT p.queue)
        t.each (upto 128) fun i t =>
          have y := t.slot p.queue i
          if y.epoch = e ∧ (y.st = 1 ∨ y.st = 2) then t.setSlot p.queue i default else t

def State.squashAll (s : State) (l : List Nat) (reason : Nat) : State := s.each l fun e t => t.squash e reason

/-- Step 7: every plan that depends on a cancelled claim is squashed, until no further one is. -/
def State.squashDeps : Nat → State → State
  | 0, s => s
  | n + 1, s =>
    have l := (s.trj.plans.filter (fun p => p.live && p.deps.any (fun d => s.trj.gone.contains d))).map (·.epoch)
    if l.isEmpty then s else (s.squashAll l 5).squashDeps n

/-- The SPECULATIVE and HELD entries of a queue in the window from `b0`. -/
def State.windowEntries (s : State) (q b0 : Nat) : List TrjEntry :=
  (upto 20).filterMap (fun i => match s.entryAt q (b0 + i) with
    | some e => if e.st = 1 ∨ e.st = 2 then some e else none
    | none => none)

/-- A surviving entry of the window: SPECULATIVE, or already committed. -/
def State.survivor (s : State) (q b : Nat) : Option TrjEntry :=
  match s.entryAt q b with | some e => if e.st = 1 ∨ e.st = 3 then some e else none | none => none

/-- The walk of a queue through the window: the queue's record after it, and the stretches of fallback that begin in
it (R217), given the boundaries still to be walked. An emptied queue is in no fallback before its next entry (R219). -/
def State.fbWalk (s : State) (q : Nat) : List Nat → TrjQ → List FbSpan → TrjQ × List FbSpan
  | [], x, new => (x, new)
  | b :: t, x, new =>
    match s.survivor q b with
    | some e => s.fbWalk q t { x with has := true, last := b, recs := e.recs, inFb := false, live := true } new
    | none =>
      if x.inFb || !x.live then s.fbWalk q t x new
      else
        have sp : FbSpan := ⟨b, x.has, x.last, x.recs⟩
        s.fbWalk q t { x with inFb := true, spans := (sp :: x.spans).filter (fun y => decide (b < y.from_ + 256)) } (new ++ [sp])

def State.queueWalk (s : State) (q b0 : Nat) : TrjQ × List FbSpan :=
  s.fbWalk q ((upto 20).map (b0 + ·)) (s.tq q) []

/-- The claims with those of queues that enter fallback extended (R218). -/
def State.extended (s : State) (b0 : Nat) : List TrjClaim :=
  s.trj.claims.map (fun c =>
    match ((s.queueWalk c.queue b0).2.filter (fun sp => sp.has && !c.fb && c.overlaps (sp.bL / 5) (sp.bL / 5 + 1))) with
    | [] => c
    | sp :: _ => { c with fb := true, first := sp.bL / 5 })

/-- Step 8: plans whose undecided claims overlap an extended claim (or, in a standby, a mirrored claim, R460) of another
queue are squashed, with their dependants, until none is left. -/
def State.squashConflicts (b0 : Nat) : Nat → State → State
  | 0, s => s
  | n + 1, s =>
    have ext := (s.extended b0).filter (fun c => c.fb)
    have ext := if s.standby && s.trj.mirrorOk then ext ++ s.trj.mirror else ext
    have l := (s.trj.plans.filter (fun p => p.live && s.trj.claims.any (fun c => c.epoch == p.epoch && c.undecided &&
      ext.any (fun x => x.queue != c.queue && x.zone == c.zone && x.overlaps (c.first + c.firm) (c.first + c.count))))).map (·.epoch)
    if l.isEmpty then s else State.squashConflicts b0 n ((s.squashAll l 9).squashDeps 257)

/-- Steps 1, 2 and 4: the squash reason of the verdict of queue `q` under the table as it stands, 0 for COMMIT. -/
def State.verdict (s : State) (q : Nat) (sealed_ : Bool) : Nat :=
  have arm := s.f (TRJ.Q_CFG'ARM q)
  if !sealed_ then 4
  else if arm < 8 ∧ bit (s.rdN SAFE.ARM_SAFE) arm then 3
  else if bitsOf (s.rd TRJ.VT_VERDICT) (2 * q + 1) (2 * q) = 1 then 1 else 0

/-- Step 6 for one queue. -/
def State.rejoin (s : State) (q b0 : Nat) : State :=
  if !(s.tq q).inFb then s
  else match s.windowEntries q b0 with
    | [] => s
    | e :: _ =>
      have ref := s.fbRef q e.bn
      if (upto ref.length).any (fun k =>
          decide (256 * s.f (TRJ.Q_CFG'REJOIN_TOL q) < (diff40 ((e.recs.getD k default).p) ((ref.getD k default).p)).natAbs))
      then s.squash e.epoch 7 else s

/-- Step 9 for one queue: surviving entries commit, slots without one show the fallback reference of a queue that is in
fallback; the slots of an emptied queue stay empty (R219). -/
def State.commitQueue (s : State) (q b0 : Nat) : State :=
  have w := s.queueWalk q b0
  have any := (upto 20).any (fun i => (s.survivor q (b0 + i)).isSome)
  have old := s.trj.claims
  have t := s.setTq q w.1
  have t := if any then t.setClaims (old.filter (fun c => !(c.queue == q && c.fb && c.epoch == 0))) else t
  have t := t.each (upto 20) fun i t =>
    have b := b0 + i
    match t.survivor q b with
    | some e => t.setSlot q (b % 128) { e with st := 3 }
    | none =>
      have e := t.slot q (b % 128)
      if e.st = 3 ∧ t.entryNeeded q e.bn then t
      else if w.1.spans.any (fun sp => decide (sp.from_ ≤ b)) then t.setSlot q (b % 128) ⟨b, 0, 4, t.fbRef q b⟩
      else t
  have t := if w.1.has then t.wrN (TRJ.Q_LAST_BND q) w.1.last else t
  t.each w.2 fun sp t =>
    have t := { t with trj := { t.trj with outFb := true } }
    ((t.wrN (TRJ.Q_FB_BND q) (if sp.has then sp.bL else sp.from_ - 1)).sat (TRJ.Q_CNT'FALLBACK_CNT q))

/-- Step 10: dependencies resolved, depths recomputed, HELD plans released (R210, R211). -/
def State.resolve (s : State) : State :=
  have open_ := fun (d : TrjDep) => s.trj.claims.any (fun c => c.epoch == d.epoch && c.zone == d.zone && c.undecided)
  have l := s.trj.plans.map (fun p => { p with deps := p.deps.filter open_ })
  have l := l.foldl (fun acc p => acc ++ [if p.state = 1 then p else { p with depth := depthOf acc p.deps }]) []
  have rel := (l.filter (fun p => p.state == 2 && decide (p.depth ≤ 4)))
  have t := s.setPlans (l.map (fun p => if p.state = 2 ∧ p.depth ≤ 4 then { p with state := 3 } else p))
  t.each rel fun p t => t.each (upto 128) fun i t =>
    have e := t.slot p.queue i
    if e.epoch = p.epoch ∧ e.st = 2 then t.setSlot p.queue i { e with st := 1 } else t

/-- The evaluation for the L3 boundary at `bNs` starts (R214): it takes the verdicts, the epochs named and the stop demands as
they stand, and reports a table that is not sealed (step 1). -/
def State.evalStart (s : State) (bNs : Nat) : State :=
  have sealed_ := s.b TRJ.VT_SEAL'SEALED
  have named := if sealed_ then (upto 8).flatMap (fun i => [s.f (TRJ.VT_SQ'LO i), s.f (TRJ.VT_SQ'HI i)]) else []
  have t := s.set TRJ.TRJ_STAT'EVAL 1
  have t := if sealed_ then t.hist 10 (s.ns - s.trj.sealNs) else ((t.set TRJ.TRJ_ERR'NO_TABLE 1).stale SYS.CYCLE_STAT'STALE_L3).raise 66
  have e : TrjEval := ⟨sealed_, (upto 16).map (fun q => s.verdict q sealed_), named.filter (· != 0)⟩
  have seq := (s.f SYS.CYCLE_STAT'L3_SEQ + 1) % 65536
  { t with trj := { t.trj with evalB := bNs, evalSeq := seq, outPend := true, solve := s.rdN TRJ.VT_SOLVE, eval := e } }

/-- Steps 2 to 10 of R216 for the boundary that `evalStart` noted; a partner's claims stand in for a standby's own (R460). -/
def State.evaluate (s : State) : State :=
  have b0 := s.trj.evalB / 50000
  have x := s.trj.eval
  have stay := (s.trj.plans.filter (fun p => p.state == 4 || p.state == 5)).map (·.epoch)
  have keep := s.trj.claims
  have mirrored := s.standby && s.trj.mirrorOk
  have cl := if mirrored then keep.filter (fun c => c.undecided) ++ s.trj.mirror else keep
  have s := { s with trj := { s.trj with outSq := 0, outDone := 0, outFb := false, claims := cl } }
  have qs := (upto 16).filter s.qUsed
  -- 3
  have s := s.squashAll x.named 2
  -- 4
  have s := s.each qs fun q t =>
    t.iff (x.reasons.getD q 0 != 0) fun t => t.squashAll ((t.windowEntries q b0).map (·.epoch)) (x.reasons.getD q 0)
  -- 5
  have s := s.each qs fun q t =>
    t.squashAll (((t.windowEntries q b0).filter (fun e => e.st == 2)).map (·.epoch)) 6
  -- 6
  have s := s.each qs fun q t => t.rejoin q b0
  -- 7, 8
  have s := (s.squashDeps 257).squashConflicts b0 257
  have ext := s.extended b0
  have s := s.setClaims ext
  have s := { s with trj := { s.trj with gone := [] } }
  -- 9: a FALLBACK_HELD claim of an earlier evaluation carries epoch 0 and ends where its queue commits (R218)
  have s := s.each qs fun q t => t.commitQueue q b0
  have endCn := b0 / 5 + 4
  have s := s.setClaims (s.trj.claims.map (fun c =>
    if c.fb then { c with epoch := 0 } else { c with firm := max c.firm (min c.count (endCn - c.first)) }))
  have (n, s) := s.markDone
  have s := { s with trj := { s.trj with outDone := n } }
  -- 10
  have s := s.resolve
  have s := s.setPlans (s.trj.plans.filter (fun p => !(stay.contains p.epoch)))
  (s.each (upto 16) fun q t => t.qSync q).trjSync

/-- The evaluation ends: the table and the seal are cleared (R213). -/
def State.evalEnd (s : State) : State :=
  have t := ((s.set TRJ.TRJ_STAT'EVAL 0).wrN TRJ.VT_VERDICT 0).wrN TRJ.VT_SOLVE 0
  have t := t.each (upto 8) fun i t => t.wrN (TRJ.VT_SQ i) 0
  t.wrN TRJ.VT_SEAL 0

/-- The evaluation ends and its results take hold at B(n) (R214; steps 2 to 11 of R216), once. -/
def State.trjTakeHold (s : State) : State :=
  if !s.trj.outPend then s
  else
    have s := s.evaluate.evalEnd
    have x := s.trj
    have s := ((s.set TRJ.COMMIT_STAT'L3_SEQ x.evalSeq).set TRJ.COMMIT_STAT'SQUASHED (min 255 x.outSq)).set
      TRJ.COMMIT_STAT'DONE (min 255 x.outDone)
    have s := { s with trj := { s.trj with outPend := false } }
    (s.iff (decide (0 < x.outSq)) (·.raise 64)).iff x.outFb (·.raise 65)

/-- At B(n) − 10 µs (R214): the boundaries run, the boundary has not been evaluated. -/
def State.l3Evaluation (s : State) : State :=
  if !(s.domOn pdCTL && s.cycRun) || s.trj.outPend || s.trj.evalB == s.nextL3 then s
  else
    have b := s.nextL3
    (s.advanceTo (b - 10000)).evalStart b

/-- The L3 evaluation (R216). -/
def execL3Evaluation (s : State) : Host.Outcome State Fault Refusal := .next s.l3Evaluation

/-- The oldest command held during an evaluation is performed after it, once its results hold at B(n) (R214, log entry 20). -/
def execPpHeldCommand (s : State) : Host.Outcome State Fault Refusal :=
  .next (if !s.domOn pdCTL then s else
    match s.trj.held with
    | [] => s
    | h :: l =>
      have t := s.iff s.trj.outPend fun s => (s.advanceTo s.trj.evalB).trjTakeHold
      have t := { t with trj := { t.trj with held := l } }
      (t.ppPerform h.port h.word h.qfirst).setB (TRJ.PP_STAT'BUSY h.port) (l.any (fun x => x.port == h.port)))

/-- At an L1 boundary: which queues are in fallback (R217), and the counts of Q_STAT. -/
def State.trjL1 (s : State) : State :=
  have b := s.bnNow
  s.each ((upto 16).filter s.qUsed) fun q t =>
    have com := match t.entryAt q b with | some e => e.st == 3 | none => false
    have fb := !com && (t.tq q).spans.any (fun sp => decide (sp.from_ ≤ b))
    (((t.setB (TRJ.Q_STAT'IN_FALLBACK q) fb).setBitF TRJ.FALLBACK'MASK q fb).qSync q)

/-- At an L2 boundary: claims whose last cycle has ended are freed (R207). -/
def State.trjL2 (s : State) : State :=
  (s.setClaims (s.trj.claims.filter (fun c => c.fb || decide (s.cnNow < c.first + c.count)))).trjSync

/-- Entry into a mode other than M4-M8 and M10 (R219). -/
def State.trjModeLeave (s : State) : State :=
  have live := (s.trj.plans.filter (·.live)).map (·.epoch)
  have t := s.squashAll live 8
  have cn := t.cnNow
  have t := t.setClaims ((t.trj.claims.map (fun c =>
    if !c.fb ∧ c.overlaps cn (cn + 1) then { c with fb := true, epoch := 0 } else c)))
  have t := { t with trj := { t.trj with entries := ⟨[]⟩, q := ⟨[]⟩, gone := [] } }
  have t := if live.isEmpty then t else t.raise 64
  (t.each (upto 16) fun q t => t.qSync q).trjSync

/-- A write of Q_CFG: OWNER is kept while a plan of the queue is OPEN, HELD or SPECULATIVE. -/
def State.qCfgWrite (s : State) (q : Nat) (v : Word) : State :=
  if s.trj.plans.any (fun p => p.live && p.state != 1 && p.queue == q)
      ∨ s.trj.plans.any (fun p => p.state == 1 && s.f (TRJ.Q_CFG'OWNER q) == p.port)
  then s.plainWrite (TRJ.Q_CFG q) (putBits v 28 24 (s.f (TRJ.Q_CFG'OWNER q))) else s.plainWrite (TRJ.Q_CFG q) v

/-- One byte of the slot view (R221), `o` counted from 0x0240_0000. -/
def State.slotByte (s : State) (o : Nat) : Nat :=
  have e := s.slot (o / 0x8000) (o / 0x100 % 128)
  have i := o % 0x100
  if i < 4 then e.bn / 256 ^ i % 256
  else if i < 6 then e.epoch / 256 ^ (i - 4) % 256
  else if i = 6 then e.st
  else if i < 0x10 then 0
  else
    have r := e.recs.getD ((i - 0x10) / 16) default
    have j := i % 16
    if j < 8 then uN 64 r.p / 256 ^ j % 256 else if j < 12 then uN 32 r.v / 256 ^ (j - 8) % 256 else uN 32 r.f / 256 ^ (j - 12) % 256

end Sys2Proof.Machine
end

