-- ==== Sys2Proof/Machine/Joint.lean ====
section
/-!
DEFINITION. The L1 updates of the control engine: commit of the last L1 outputs, regions and presets, speed scale and
virtual time, sources, joint loops (spec/07_control_engine.md, R152, R159-R176).
-/
namespace Sys2Proof.Machine
open Sys2Proof

/-! ### Speed scale and virtual time (R162, R163) -/

/-- The scale of an arm from the latest separation outcome (R162, R348, R376). -/
def State.armScale (s : State) (arm : Nat) : Nat :=
  if arm ≥ 8 then 0x8000
  else if bit (s.rdN SAFE.ARM_SAFE) arm then 0
  else if !s.b (SAFE.SSM_ARM_CFG'EN arm) then 0x8000
  else if bitsOf (s.rd SAFE.SSM_LEVEL) (4 * arm + 2) (4 * arm) = 0 then 0
  else min 0x8000 (s.rdN (SAFE.LEVEL_SCALE (bitsOf (s.rd SAFE.SSM_LEVEL) (4 * arm + 2) (4 * arm))) % 65536)

/-- The steady link is UP. -/
def State.steadyUp (s : State) : Bool := s.b (FYV.LINK_STAT'UP 4)

/-- The target of R162 of a mode other than M4 (R531). -/
def State.modeTarget (s : State) (m : Nat) : Nat :=
  match m with
  | 3 => min 0x8000 (s.f SYS.MODE_CFG'M3_SCALE)
  | 5 => 0x8000
  | 6 => min 0x8000 (s.f SYS.MODE_CFG'M6_SCALE)
  | 7 => 0x8000
  | 10 => min 0x8000 (s.rdN SAFE.DEG_CFG % 65536)
  | _ => 0

/-- The target of R162 set by the mode in force (R447, R531). -/
def State.modeScale (s : State) : Nat :=
  if s.mode = 4 then s.modeTarget (if s.steadyUp then s.fyv.pMode.getD 6 else 6) else s.modeTarget s.mode

/-- The speed scale `now` moves towards `tgt`, by at most `dn` down and `up` up (R162). -/
def rampTo (dn up tgt now : Nat) : Nat := if tgt < now then max tgt (now - dn) else min tgt (now + up)

/-- Step 2 of R159: s, τ and TLAG at the boundary (log entry 22). -/
def State.axScale (s : State) (a : Nat) : State :=
  have tgt := min (min (s.armScale (s.f (CTL.ELEC'SCALE_SRC a))) s.modeScale) (s.f (CTL.SCALE_LIM'SCALE_LIM a))
  have now := s.f (CTL.SCALE'S a)
  have v := rampTo (s.f (CTL.SRAMP'DN a)) (s.f (CTL.SRAMP'UP a)) tgt now
  have b := s.ns / 50000 * 50000 * 32768
  have x := s.ax a
  have tau := if x.tau = 0 then b else min b (x.tau + v * 50000)
  have t := (s.set (CTL.SCALE'S_TARGET a) tgt).set (CTL.SCALE'S a) v
  (t.setAx a { x with tau := tau }).wrN (CTL.TLAG a) (min ((b - tau) / 32768) (2 ^ 32 - 1))

/-! ### Regions (R170-R172) -/

/-- The heatsink temperature of a remote axis; for a local axis the temperature of a board that the spec gives no
sensor: a free value (log entry 22). -/
def State.axTemp (s : State) (a : Nat) : Int × State :=
  match s.axPort a with
  | some (n, p) => (sxN 8 (bitsOf (s.rd (BLK.UP_AXIS n p)) 15 8), s)
  | none => have r := s.fresh 8; (sxN 8 r.1, r.2)

/-- The value of a scheduling variable (R170). -/
def State.schedVar (s : State) (a code : Nat) : Int × State :=
  match code with
  | 1 => (sxN 32 (uN 32 (s.posBnd (s.axTopo a).fb / 256)), s)
  | 2 => ((s.rdI (FB.SPEED (s.axTopo a).fb)).natAbs, s)
  | 3 => (s.f (CTL.PAYLOAD_IDX'PAYLOAD_IDX a), s)
  | 4 => s.axTemp a
  | _ => (0, s)

/-- The interval index rises or falls as far as its conditions allow (R171). -/
def moveIdx (v hys : Int) (bp : List Int) : Nat → Nat → Nat
  | 0, j => j
  | n + 1, j =>
    if j < bp.length ∧ bp.getD j 0 + hys < v then moveIdx v hys bp n (j + 1)
    else if 0 < j ∧ v < bp.getD (j - 1) 0 - hys then moveIdx v hys bp n (j - 1)
    else j

/-- The gains of a region go to the view registers, KP_POS to KI_Q in order. -/
def State.loadGains (s : State) (a : Nat) (l : List Int) : State :=
  s.each (upto 7) fun i t => t.wrI (CTL.KP_POS a + 4 * i) (l.getD i 0)

/-- Step 1 of R159: the region, and whether it changed (R171, R172). A change leaves the old current-loop gains for the
preset of R173 while the axis is in RUN. -/
def State.axRegion (s : State) (a : Nat) (run : Bool) : Bool × State :=
  have g := s.cfg.gains.getD a default
  if !g.used then (false, s)
  else
    have x := s.ax a
    have init := run && x.fresh
    have ra := s.schedVar a g.varA
    have rb := ra.2.schedVar a g.varB
    have s := rb.2
    have ia := moveIdx ra.1 (if init then 0 else g.hysA) g.bpA 8 (min g.bpA.length (s.f (CTL.GS_CFG'IA a)))
    have ib := moveIdx rb.1 (if init then 0 else g.hysB) g.bpB 8 (min g.bpB.length (s.f (CTL.GS_CFG'IB a)))
    have reg := ia * g.nb + ib
    have s := (s.set (CTL.GS_CFG'IA a) ia).set (CTL.GS_CFG'IB a) ib
    have s := s.setAx a { s.ax a with fresh := if run then false else x.fresh }
    if reg = s.f (CTL.AX_STAT'REGION a) ∧ !bit s.ctl.gsPatch a then (false, s)
    else
      have old := (s.rdI (CTL.KP_D a), s.rdI (CTL.KP_Q a))
      have t := ((s.set (CTL.AX_STAT'REGION a) reg).inc (CTL.AX_CNT'REGION_CHG_CNT a))
      have y := t.ax a
      have t := if run then t.setAx a { y with l0Old := match y.l0Old with | some o => some o | none => some old } else t
      (true, t.loadGains a (g.sets.getD reg []))

/-! ### Sources (R160, R161) -/

/-- The modes that permit a source. -/
def srcPermitted (src mode : Nat) : Bool :=
  match src with
  | 0 => modeDrives mode
  | 1 => decide (4 ≤ mode ∧ mode ≤ 8) || mode == 10
  | 2 => modeDrives mode
  | 3 => mode == 3 || mode == 6
  | 4 => mode == 3 || mode == 6
  | 5 => mode == 3
  | _ => false

/-- The position reference of a source at this boundary (R161). -/
def State.srcPos (s : State) (a src : Nat) : Int :=
  match src with
  | 1 =>
    have b := s.ns / 50000 * 50000 * 32768
    have t := s.axTopo a
    have r := s.autoAt t.queue t.qpos a (b / (32768 * 50000))
    if r.2 then r.1.p else (s.ax a).pRef
  | _ => (s.ax a).pRef

/-- A source takes effect: AUTO sets τ = b and remembers p_ref for the fallback of R217. -/
def State.srcTake (s : State) (a src : Nat) : State :=
  have b := s.ns / 50000
  have x := s.ax a
  have t := s.set (CTL.AX_STAT'SRC_ACT a) src
  if src = 1 then (t.setAx a { x with tau := b * 50000 * 32768, autoP := x.pRef, autoBn := b }).wrN (CTL.TLAG a) 0 else t

/-- Source transfers at the boundary (R161): whether the source changed. -/
def State.axTransfer (s : State) (a : Nat) : Bool × State :=
  have old := s.f (CTL.AX_STAT'SRC_ACT a)
  have s := if old ≠ 0 ∧ !srcPermitted old s.mode then s.srcTake a 0 else s
  have x := s.ax a
  have req := s.f (CTL.AX_CTRL'SRC_REQ a)
  have act := s.f (CTL.AX_STAT'SRC_ACT a)
  have s :=
    if !x.srcPend then s
    else
      have t := s.setAx a { x with srcPend := false }
      have far := decide (s.rdN (CTL.FE_LIM a) < (diff40 (s.srcPos a req) (s.posBnd (s.axTopo a).fb)).natAbs)
      if req = act then t
      else if !srcPermitted req s.mode ∨ ((req = 1 ∨ req = 2 ∨ req = 3) ∧ far) then
        (t.set (CTL.AX_FLAGS'SRC_REFUSED a) 1).refusal 8
      else t.srcTake a req
  (s.f (CTL.AX_STAT'SRC_ACT a) != old, s)

/-! ### The joint loops (R159 steps 3 to 8, R173-R176) -/

/-- What step 3 delivers: p_ref, v_ff, f_ff. -/
structure Ref where
  p : Int
  v : Int
  f : Int
  deriving DecidableEq, Repr, Inhabited

/-- Step 3 for the sources with a position reference (R160, R164). -/
def State.axRef (s : State) (a src : Nat) : Ref × State :=
  have x := s.ax a
  match src with
  | 1 =>
    have r := s.autoRef a
    have t := if r.2 then s else (s.set (CTL.AX_FLAGS'STALE_REF a) 1).stale SYS.CYCLE_STAT'STALE_L2
    have v := toPu r.1.v (s.rdI (CTL.VSCALE a))
    (⟨r.1.p, sig v, r.1.f⟩, t.satArith a [v])
  | 2 =>
    have g := s.pg a
    have v := toPu (satI 32 g.vel) (s.rdI (CTL.VSCALE a))
    have f := toPu (satI 32 g.accel) (s.rdI (PRF.ASCALE a))
    (⟨g.pos, sig v, sig f⟩, s.satArith a [v, f])
  | 3 =>
    have m := rshr ((s.f (CTL.SCALE'S a) : Int) * s.rdN (CTL.MAN_STEP a)) 15
    have d := diff40 (s.rd40 (CTL.MAN_POS_LO a) (CTL.MAN_POS_HI a)) x.pRef
    (⟨sxN 40 (uN 40 (x.pRef + lim m d)), 0, 0⟩, s)
  | _ => (⟨x.pRef, 0, 0⟩, s)

/-- The limit of step 6: √(ILIM² − ID_REF²), 0 where ID_REF exceeds ILIM. -/
def State.axIqMax (s : State) (a : Nat) : Int :=
  have m := s.rdI (CTL.ILIM a)
  have d := s.rdI (CTL.ID_REF a)
  (sqrtNear (m * m - d * d).toNat 1 : Nat)

/-- Steps 6 to 8 with the velocity reference `vr` (from the position error in pu `ep`, none under MAN_VEL); `vOld`: the
velocity reference that the old gains would give. -/
def State.axVelLoop (s : State) (a : Nat) (vr : Int) (ff : Int) (xfer : Bool) (old : Option (Int × Int)) : State :=
  have x := s.ax a
  have sc : Int := s.f (CTL.SCALE'S a)
  have va : Int := toPu (s.rdI (FB.SPEED (s.axTopo a).fb)) (s.rdI (CTL.VSCALE a))
  have ev := sig (vr - sig va)
  have kp := s.rdI (CTL.KP_VEL a)
  have s2f := rshr (sc * sc * ff) 30
  have m := max 0 (s.rdI (CTL.INT_LIM_V a))
  have want := if xfer then some (s.rdI (CTL.IQ_REF a) - mulG kp ev - s2f)
    else match old with
      | some (vo, ko) => some (mulG ko (sig (vo - sig va)) + x.iV - mulG kp ev)
      | none => none
  have i0 := match want with | some v => lim m (acc v) | none => x.iV
  have clamped := match want with | some v => lim m (acc v) != acc v | none => false
  have u := mulG kp ev + i0 + s2f
  have iq := lim (s.axIqMax a) (sig u)
  have sat := iq != sig u
  have i1 := if sat ∧ sameSign ev iq then i0 else i0 + mulG (s.rdI (CTL.KI_VEL a)) ev
  have s := (s.satArith a [va, vr - sig va, u] (i1 :: want.toList)).presetClamp a clamped
  have y := s.ax a
  have id := lim (max 0 (s.rdI (CTL.ILIM a))) (s.rdI (CTL.ID_CMD a))
  have n := { y.next with velRef := vr, velAct := sig va, satVel := sat, iq := iq, iv := lim m (acc i1), id := id }
  s.setAx a { y with iV := lim m (acc i1), l1Old := none, next := n }

/-- The velocity reference of step 4 with a position gain, before the clamp. -/
def State.axVelSum (s : State) (a : Nat) (kp ep vff : Int) : Int :=
  mulG kp ep + rshr ((s.f (CTL.SCALE'S a) : Int) * vff) 15 + s.injAt a 2

/-- The velocity reference of step 4 with a position gain. -/
def State.axVelRef (s : State) (a : Nat) (kp ep vff : Int) : Int :=
  lim (max 0 (s.rdI (CTL.VELLIM a))) (sig (s.axVelSum a kp ep vff))

/-- Steps 3 to 8 of an axis in RUN. `old`: the gains KP_POS and KP_VEL before a region change at this boundary. -/
def State.axJoint (s : State) (a : Nat) (xfer : Bool) (old : Option (Int × Int)) : State :=
  have src := s.f (CTL.AX_STAT'SRC_ACT a)
  have pos := s.posBnd (s.axTopo a).fb
  have s := s.injStep a [2, 3]
  have x := s.ax a
  have old := match x.l1Old with | some o => some o | none => old
  if src = 5 then
    have n := { (default : L1Next) with ok := true, id := s.rdI (CTL.MAN_ID a), iq := s.rdI (CTL.MAN_IQ a), posRef := pos, iv := x.iV }
    s.setAx a { x with pRef := pos, l1Old := old, next := n }
  else if src = 4 then
    have vs := rshr ((s.f (CTL.SCALE'S a) : Int) * s.rdI (CTL.MAN_VEL a)) 15 + s.injAt a 2
    have vr := sig vs
    have s := (s.satArith a [vs]).setAx a { x with pRef := pos, next := { (default : L1Next) with ok := true, posRef := pos } }
    s.axVelLoop a vr 0 xfer (match old with | some (_, kv) => some (vr, kv) | none => none)
  else
    have rr := s.axRef a src
    have r := rr.1
    have s := rr.2
    have p := sxN 40 (uN 40 (r.p + s.injAt a 3))
    have d := diff40 p pos
    have ep := toPu (satI 32 d) (s.rdN (CTL.PSCALE a))
    have vr := s.axVelRef a (s.rdI (CTL.KP_POS a)) (sig ep) r.v
    have n := { (default : L1Next) with ok := true, posRef := p, posErr := satI 32 d }
    have s := (s.satArith a [d, ep, s.axVelSum a (s.rdI (CTL.KP_POS a)) (sig ep) r.v]).setAx a { s.ax a with pRef := r.p, next := n }
    if s.rdN (CTL.FE_LIM a) < d.natAbs then s.axFault a 3
    else s.axVelLoop a vr r.f xfer (match old with
      | some (kp, kv) => some (s.axVelRef a kp (sig ep) r.v, kv) | none => none)

/-- The outputs of the last L1 updates are committed (R152). -/
def State.axCommit (s : State) (a : Nat) : State :=
  have n := (s.ax a).next
  if !n.ok then s
  else
    have t := ((s.wrI (CTL.ID_REF a) n.id).wrI (CTL.IQ_REF a) n.iq).wr40 (CTL.POS_REF_LO a) (CTL.POS_REF_HI a) n.posRef
    have t := ((t.wrI (CTL.VEL_REF a) n.velRef).wrI (CTL.VEL_ACT a) n.velAct).wrI (CTL.POS_ERR a) n.posErr
    (t.wrI (CTL.INT_VEL a) (sig n.iv)).setB (CTL.AX_STAT'SAT_VEL a) n.satVel

/-- The L1 update of one slot (R152, R159, R165). -/
def State.axL1 (s : State) (a : Nat) : State :=
  if !s.axUsed a then (if s.pgState a = pgTRACK then s else s.pgUpdate a false (s.ax a).pRef 0 0)
  else
    have s := s.axHosted a
    have st := s.f (CTL.AX_STAT'STATE a)
    have run := st == axRUN && !s.axHost a
    have pos := s.posBnd (s.axTopo a).fb
    have s := if run then s else s.setAx a { s.ax a with pRef := pos }
    have kOld := (s.rdI (CTL.KP_POS a), s.rdI (CTL.KP_VEL a))
    have rg := if st = axDISABLED ∧ !bit s.ctl.gsPatch a then (false, s) else s.axRegion a run
    have s := rg.2.axScale a
    have tr := s.axTransfer a
    have s := tr.2
    have spd := s.rdI (FB.SPEED (s.axTopo a).fb)
    have prof := run && s.f (CTL.AX_STAT'SRC_ACT a) == 2
    have sc := s.f (CTL.SCALE'S a)
    have s := if prof then s.pgUpdate a true (s.ax a).pRef spd sc else s
    have s := if run then s.axJoint a tr.1 (if rg.1 then some kOld else none)
      else s.setAx a { s.ax a with next := { (default : L1Next) with ok := true, posRef := pos } }
    have s := if prof then s else s.pgUpdate a false (s.ax a).pRef spd sc
    ((s.pgOutside a pos).work 8)

/-- The L1 updates of all slots at a boundary (R152). -/
def State.engineL1 (s : State) : State :=
  if !s.domOn pdCTL then s
  else
    have s := (s.each (upto 64) fun a t => t.axCommit a).injBoundary [2, 3]
    have s := { s with ctl := { s.ctl with l1seen := min 2 (s.ctl.l1seen + 1) } }
    have s := s.each (upto 64) fun a t => t.axL1 a
    { s with ctl := { s.ctl with gsPatch := 0 } }

end Sys2Proof.Machine
end

