-- ==== Sys2Proof/Machine/Chuck.lean ====
section
/-!
DEFINITION. The Chuck scheduler and the shared memory window (spec/13_chuck_and_window.md).
-/
namespace Sys2Proof.Machine
open Sys2Proof

/-! ### Buffer ownership (R310-R316) -/

def ownFACE : Nat := 0x12

/-- A requester owns a buffer; the supervisor core may act for the host (R510). -/
def State.owns (s : State) (w : Req) (b : Nat) : Bool :=
  s.owner b == reqCode w || (s.owner b == ownHOST && s.actsAsHost w)

/-- A refused payload write (R311). -/
def State.writeRefused (s : State) (code b : Nat) : State :=
  have t := if s.b CHUCK.SMW_ERR'WRITE_REFUSED then s
    else (s.set CHUCK.SMW_ERR_INFO'REQUESTER code).set CHUCK.SMW_ERR_INFO'BUF b
  ((t.set CHUCK.SMW_ERR'WRITE_REFUSED 1).refusal 14).raise 113

/-- A payload write by a requester: performed only for the owner (R311). Bytes past the buffer's end are not written. -/
def State.smwWrite (s : State) (w : Req) (b o : Nat) (data : List Byte) : State :=
  if s.owns w b then s.putBytes (smwAt b + o) (data.take (4096 - o)) else s.writeRefused (reqCode w) b

/-- A payload write by a block of the module whose owner code is `code`. -/
def State.devWrite (s : State) (code b o : Nat) (data : List Byte) : State :=
  if s.owner b = code then s.putBytes (smwAt b + o) (data.take (4096 - o)) else s.writeRefused code b

/-- A write of a flag word (R312). -/
def State.flagWrite (s : State) (w : Req) (b : Nat) (v : Word) : State :=
  if s.owns w b ∧ bitsOf v 4 0 ≤ 0x12 then s.passBuf b (bitsOf v 4 0)
  else (s.set CHUCK.SMW_ERR'FLAG_REFUSED 1).refusal 14

/-- A range pass (R314). -/
def State.rangePass (s : State) (w : Req) (v : Word) : State :=
  have n := bitsOf v 24 19 + 1
  have b := bitsOf v 10 0
  if (upto n).all (fun i => decide (b + i < 2048) && s.owns w (b + i)) ∧ bitsOf v 31 27 ≤ 0x12 then
    s.each (upto n) fun i t => t.passBuf (b + i) (bitsOf v 31 27)
  else (s.set CHUCK.SMW_ERR'PASS_REFUSED 1).refusal 14

/-- The input buffers of a descriptor. -/
def ChuckJob.inBufs (j : ChuckJob) : List Nat :=
  have b := j.words.getD 1 0 % 2048
  (upto (j.words.getD 1 0 / 65536 % 256)).map (b + ·)

/-- A buffer held by a job in the Chuck: an input not yet delivered, or a result not yet released (R315). -/
def State.bufInChuck (s : State) (b : Nat) : Bool :=
  s.chuck.pool.any (fun j => (j.st == 0 && j.inBufs.contains b) || (j.st == 2 && j.resValid && j.resBuf == b))
    || s.chuck.held.any (fun h => ({ (default : ChuckJob) with words := h.words } : ChuckJob).inBufs.contains b)

/-- A reclaim (R315). -/
def State.reclaim (s : State) (w : Req) (b : Nat) : State :=
  if s.hostOrSupv w ∧ !s.bufInChuck b then (s.passBuf b (reqCode w)).raise 113
  else (s.set CHUCK.SMW_ERR'PASS_REFUSED 1).refusal 14

/-- The owner passes a buffer by writing its flag word (R312). -/
def execSmwFlagWrite (w : Req) (b : Fin 2048) (v : Word) (s : State) : Host.Outcome State Fault Refusal :=
  .next (s.regCmd w (CHUCK.SMW_FLAG b) (·.flagWrite w b v))

/-- SMW_PASS (R314). -/
def execSmwPass (w : Req) (v : Word) (s : State) : Host.Outcome State Fault Refusal :=
  .next (s.regCmd w CHUCK.SMW_PASS (·.rangePass w v))

/-- SMW_RECLAIM (R315). -/
def execSmwReclaim (w : Req) (b : Fin 2048) (s : State) : Host.Outcome State Fault Refusal :=
  .next (s.regCmd w CHUCK.SMW_RECLAIM (·.reclaim w b))

/-- An access to the window itself: refused in D3hot (R496), in a domain that is off, and by the host under HOST_PROXY
(R510). -/
def State.smwCmd (s : State) (w : Req) (write : Bool) (k : State → State) : State :=
  if w = .host ∧ s.evt.d3 then s.answer .unsupported
  else if !s.domOn pdMEM then s.answer (errAnswer w)
  else if w = .host ∧ write ∧ s.b SYS.HOST_CFG'HOST_PROXY then s.answer .nothing
  else k (s.answer .nothing)

/-- A payload write (R311). -/
def execSmwPayloadWrite (w : Req) (b : Fin 2048) (o : Fin 4096) (data : List Byte) (s : State) :
    Host.Outcome State Fault Refusal := .next (s.smwCmd w true (·.smwWrite w b o data))

/-! ### The pool and its views (R319-R323) -/

def State.setPool (s : State) (l : List ChuckJob) : State := { s with chuck := { s.chuck with pool := l } }

def State.heldBy (s : State) (p : Nat → Bool) : Nat := (s.chuck.pool.filter (fun j => p j.who)).length

/-- Remaining host credit. -/
def State.hostAvail (s : State) : Nat := s.f CHUCK.HOST_CREDIT'HOST_LIMIT - s.heldBy (· == 16)

/-- A free entry for a producer (R319; log entry 25). -/
def State.poolFree (s : State) (who : Nat) : Bool :=
  decide (s.chuck.pool.length < 4096) &&
    (if who = 17 then true
     else if who = 16 then decide (0 < s.hostAvail) && decide (s.heldBy (· ≤ 16) < 4096 - s.f CHUCK.CHUCK_CTRL'HW_RSV)
     else decide (s.heldBy (· < 16) < 4096 - s.f CHUCK.CHUCK_CTRL'HW_RSV - s.f CHUCK.HOST_CREDIT'HOST_LIMIT) &&
      decide (s.heldBy (· ≤ 16) < 4096 - s.f CHUCK.CHUCK_CTRL'HW_RSV))

/-- The lowest free pool index. -/
def State.freeId (s : State) : Nat := ((upto 4096).find? (fun i => !s.chuck.pool.any (fun j => j.id == i))).getD 0

def State.flowJobs (s : State) (f : Nat) : List ChuckJob := s.chuck.pool.filter (fun j => j.flow == f)
def State.inService (s : State) (f : Nat) : Nat := ((s.flowJobs f).filter (fun j => j.st == 1)).length
def State.robUsed (s : State) (f : Nat) : Nat :=
  if s.f (CHUCK.FLOW_CFG'KIND f) = 1 then ((s.flowJobs f).filter (fun j => j.st != 0)).length else 0

/-- The limit of the flow's kind admits a further job in service (R321, R322). -/
def State.kindAdmits (s : State) (f : Nat) : Bool :=
  match s.f (CHUCK.FLOW_CFG'KIND f) with
  | 1 => decide (s.robUsed f < 64) && (!s.b (CHUCK.FLOW_STAT'SERIAL f) || s.inService f == 0)
  | 2 => s.inService f == 0
  | _ => true

/-- The core holds no job. -/
def State.coreIdle (s : State) (c : Nat) : Bool := !s.b (CHUCK.MBX_TAG'FULL c)

/-- Core `c` is eligible for flow `f` (R323). -/
def State.eligible (s : State) (c f : Nat) : Bool :=
  s.fbit (CHUCK.FLOW_MASK'MASK f) c && s.domOn (pdGC (c / 4)) &&
    (s.f (GC.GC_STAT'STATE c) == 2 || s.f (GC.GC_STAT'STATE c) == 3)

/-- The core whose idleness a job awaits by affinity, while its window lasts (R324). -/
def State.waitsFor (s : State) (j : ChuckJob) : Option Nat :=
  have c := s.f (CHUCK.FLOW_STAT'LAST_CORE j.flow)
  if s.b (CHUCK.FLOW_CFG'AFF_EN j.flow) ∧ s.chuck.ran.get j.flow ∧ s.eligible c j.flow ∧
    s.ns < j.availNs - 1 + 100 * s.f CHUCK.CHUCK_CTRL'AFF_WIN then some c else none

/-- Core `c` is the one that takes the job: the core that it waits for or that it goes to at once, or the lowest-numbered
idle eligible core (R324). -/
def State.takes (s : State) (c : Nat) (j : ChuckJob) : Bool :=
  j.st == 0 && decide (0 < j.availNs) && s.eligible c j.flow &&
  match s.waitsFor j with
  | some k => k == c
  | none =>
    have l := s.f (CHUCK.FLOW_STAT'LAST_CORE j.flow)
    if s.b (CHUCK.FLOW_CFG'AFF_EN j.flow) ∧ s.chuck.ran.get j.flow ∧ s.eligible l j.flow ∧ s.coreIdle l then l == c
    else (upto c).all (fun k => !(s.coreIdle k && s.eligible k j.flow))

/-- Since when the jobs that an idle core could take have stood, in DT ns + 1: now, or the end of an affinity window that has
passed since; 0 = there is none (R330). -/
def State.stallSince (s : State) : Nat :=
  have since := fun (j : ChuckJob) =>
    have c := s.f (CHUCK.FLOW_STAT'LAST_CORE j.flow)
    if s.b (CHUCK.FLOW_CFG'AFF_EN j.flow) ∧ s.chuck.ran.get j.flow ∧ s.eligible c j.flow ∧ !s.coreIdle c
    then min s.ns (j.availNs - 1 + 100 * s.f CHUCK.CHUCK_CTRL'AFF_WIN) else s.ns
  (s.chuck.pool.filter (fun j => (upto 16).any (fun c => s.coreIdle c && s.takes c j))).foldl
    (fun m j => if m = 0 then since j + 1 else min m (since j + 1)) 0

/-- The interval that the Chuck watchdog measures begins, goes on or ends (R330). -/
def State.chuckStall (s : State) : State :=
  have n := s.stallSince
  { s with chuck := { s.chuck with stallFrom := if n = 0 then 0 else if s.chuck.stallFrom = 0 then n else s.chuck.stallFrom } }

/-- CHUCK_STAT.IDLE_CORES: the cores eligible for some flow and idle. -/
def State.idleCores (s : State) : Nat :=
  (upto 16).foldl (fun m c => setBit m c (s.coreIdle c && (upto 256).any (fun f => s.eligible c f))) 0

/-- The heads of the flows become dispatchable, serial mode follows the reorder buffer, and the status registers follow
the pool. -/
def State.chuckSync (s : State) : State :=
  have fl := (s.chuck.pool.map (·.flow)).eraseDups
  have s := s.each ((upto 256).filter (fun f => fl.contains f || s.f (CHUCK.FLOW_STAT'ROB_USED f) != 0 || s.f (CHUCK.FLOW_STAT'IN_SERVICE f) != 0))
    fun f t =>
      have r := t.robUsed f
      have ser := t.b (CHUCK.FLOW_STAT'SERIAL f)
      have t := if r = 64 ∧ !ser then (t.set (CHUCK.FLOW_STAT'SERIAL f) 1).sat (CHUCK.FLOW_STAT'SERIAL_CNT f)
        else if r = 0 ∧ ser then t.set (CHUCK.FLOW_STAT'SERIAL f) 0 else t
      have t := (t.set (CHUCK.FLOW_STAT'ROB_USED f) r).set (CHUCK.FLOW_STAT'IN_SERVICE f) (t.inService f)
      match (t.flowJobs f).find? (fun j => j.st == 0) with
      | none => t
      | some h =>
        have a := if !t.b CHUCK.CHUCK_CTRL'EN || !t.kindAdmits f then 0 else if h.availNs = 0 then t.ns + 1 else h.availNs
        t.setPool (t.chuck.pool.map (fun j => if j.id = h.id then { j with availNs := a } else j))
  have s := s.set CHUCK.CHUCK_STAT'USED s.chuck.pool.length
  have s := s.each (upto 8) fun p t => t.set (CHUCK.LEVEL_CNT'CNT p)
    ((t.chuck.pool.filter (fun j => j.st == 0 && t.f (CHUCK.FLOW_CFG'PRIO j.flow) == p)).length)
  (s.set CHUCK.HOST_CREDIT'HOST_AVAIL s.hostAvail).chuckStall

/-! ### Enqueue (R318-R320) -/

/-- A job enters the pool. -/
def State.enqueue (s : State) (who flow : Nat) (words : List Nat) : Nat × State :=
  have id := s.freeId
  have q := s.chuck.fseq.get flow
  have j : ChuckJob := { (default : ChuckJob) with id := id, flow := flow, fseq := q, words := words, who := who, enqNs := s.ns }
  have t := { s with chuck := { s.chuck with pool := s.chuck.pool ++ [j], fseq := s.chuck.fseq.set flow ((q + 1) % 65536) } }
  (id, t)

/-- Word `i` of the staging copy of a requester. -/
def State.stagedWord (s : State) (w : Req) (i : Nat) : Nat := s.perReq.get (reqCode w * 2 ^ 32 + CHUCK.ENQ_DESC i)

/-- The result of ENQ_CMD.GO is left for the requester. -/
def State.enqResult (s : State) (w : Req) (r id : Nat) : State :=
  have t := { s with perReq := s.perReq.set (reqCode w * 2 ^ 32 + CHUCK.ENQ_STAT) (r * 2 ^ 28 + id) }
  if r = 0 then t else t.refusal 14

/-- The producer code under which a requester's jobs count: the supervisor core counts as the host under HOST_PROXY (R319,
R510). -/
def State.whoOf (s : State) (w : Req) : Nat := match w with | .core n => if s.actsAsHost w then 16 else n | _ => 16

/-- ENQ_CMD.GO (R318). -/
def State.enqGo (s : State) (w : Req) : State :=
  have ws := (upto 8).map (s.stagedWord w)
  have w0 := ws.getD 0 0
  have w1 := ws.getD 1 0
  have f := w0 % 256
  have b := w1 % 2048
  have n := w1 / 65536 % 256
  if !s.b CHUCK.CHUCK_CTRL'EN then s.enqResult w 5 0
  else if w0 / 256 % 256 ≠ 0 ∨ w1 / 2048 % 32 ≠ 0 ∨ w1 / 2 ^ 24 ≠ 0 ∨ 16 < n ∨ 2048 < b + n then s.enqResult w 2 0
  else if !s.b (CHUCK.FLOW_CFG'EN f) then s.enqResult w 3 0
  else if !((upto n).all (fun i => s.owns w (b + i))) then s.enqResult w 4 0
  else if !s.poolFree (s.whoOf w) then s.enqResult w 1 0
  else
    have t := s.each (upto n) fun i t => t.passBuf (b + i) ownDEVICE
    have r := t.enqueue (s.whoOf w) f ws
    (r.2.enqResult w 0 r.1).chuckSync

/-- ENQ_CMD.GO enqueues a job descriptor or refuses it (R318). -/
def execEnqGo (w : Req) (s : State) : Host.Outcome State Fault Refusal := .next (s.regCmd w CHUCK.ENQ_CMD (·.enqGo w))

/-- A hardware producer enqueues a job, or holds it where it cannot be taken (R320; log entry 25). -/
def State.hwEnqueue (s : State) (producer flow : Nat) (words : List Nat) : State :=
  if s.b CHUCK.CHUCK_CTRL'EN ∧ s.b (CHUCK.FLOW_CFG'EN flow) ∧ s.poolFree 17 ∧ !s.chuck.held.any (fun h => h.producer == producer) then
    (s.enqueue 17 flow words).2.chuckSync
  else
    have dup := s.chuck.held.any (fun h => h.producer == producer)
    have t := if dup then s.sat CHUCK.HW_CNT'HW_SUPERSEDE else s.sat CHUCK.HW_CNT'HW_HOLD
    { t with chuck := { t.chuck with held := t.chuck.held.filter (fun h => h.producer != producer) ++ [HwJob.mk producer flow words] } }

/-- The oldest held hardware job that can be taken is enqueued (R320). -/
def State.hwRetry (s : State) : State :=
  if !(s.domOn pdMEM && s.b CHUCK.CHUCK_CTRL'EN && s.poolFree 17) then s
  else match s.chuck.held.find? (fun h => s.b (CHUCK.FLOW_CFG'EN h.flow)) with
    | none => s
    | some h =>
      have t := { s with chuck := { s.chuck with held := s.chuck.held.filter (fun x => x.producer != h.producer) } }
      (t.enqueue 17 h.flow h.words).2.chuckSync

/-- A held hardware job is enqueued when a pool entry frees (R320). -/
def execHwEnqueueRetry (s : State) : Host.Outcome State Fault Refusal := .next s.hwRetry

/-! ### Dispatch (R321-R325) -/

/-- The job of highest priority, the earliest enqueued among equals (R325). -/
def State.bestJob (s : State) : List ChuckJob → Option ChuckJob
  | [] => none
  | j :: t => match s.bestJob t with
    | none => some j
    | some k => if s.f (CHUCK.FLOW_CFG'PRIO k.flow) < s.f (CHUCK.FLOW_CFG'PRIO j.flow) then some k else some j

/-- A job is delivered to a core's mailbox (R325); in P1 the core's clock restarts (R561). -/
def State.chuckDeliver (s : State) (c : Nat) (j : ChuckJob) : State :=
  have t := s.setPool (s.chuck.pool.map (fun k => if k.id = j.id then { k with st := 1, core := c, dispNs := s.ns } else k))
  have t := t.each (upto 8) fun i t => t.wrN (CHUCK.MBX c i) (j.words.getD i 0)
  have t := ((t.set (CHUCK.MBX_TAG'FULL c) 1).set (CHUCK.MBX_TAG'JOB_ID c) j.id).set (CHUCK.MBX_TAG'FSEQ c) j.fseq
  have t := t.each j.inBufs fun b t => t.passBuf b c
  have t := t.set (CHUCK.FLOW_STAT'LAST_CORE j.flow) c
  have t := { t with chuck := { t.chuck with ran := t.chuck.ran.set j.flow true } }
  (((t.wakeClock (pdGC (c / 4))).hist 13 (s.ns - j.enqNs)).raise (160 + c)).chuckSync

/-- The dispatch to core `c`, if it is idle and a job is there for it. -/
def State.dispatch (s : State) (c : Nat) : State :=
  if !(s.domOn pdMEM && s.b CHUCK.CHUCK_CTRL'EN && s.coreIdle c) then s
  else
    have s := s.chuckSync
    match s.bestJob (s.chuck.pool.filter (s.takes c)) with
    | some j => s.chuckDeliver c j
    | none => s

/-- A core becomes idle and the Chuck delivers the chosen job (R325). -/
def execJobDispatch (c : Fin 16) (s : State) : Host.Outcome State Fault Refusal := .next (s.dispatch c)

/-- The affinity window of the flow's dispatchable job passes (R324). -/
def execAffinityWindowEnd (f : Fin 256) (s : State) : Host.Outcome State Fault Refusal :=
  .next (if !s.domOn pdMEM then s else
    have s := s.chuckSync
    match (s.flowJobs f).find? (fun j => j.st == 0) with
    | none => s
    | some j =>
      if j.availNs = 0 ∨ (s.waitsFor j).isNone then s
      else (s.advanceTo (j.availNs - 1 + 100 * s.f CHUCK.CHUCK_CTRL'AFF_WIN)).chuckStall)

/-! ### Completion and release (R326-R328) -/

/-- The job in service on core `c` ends. -/
def State.jobEnd (s : State) (c status : Nat) (resValid : Bool) (resBuf : Nat) : State :=
  have n := s.chuck.doneCnt + 1
  have t := s.setPool (s.chuck.pool.map (fun j =>
    if j.st = 1 ∧ j.core = c then { j with st := 2, doneSeq := n, status := status, resValid := resValid, resBuf := resBuf } else j))
  ({ t with chuck := { t.chuck with doneCnt := n } }.set (CHUCK.MBX_TAG'FULL c) 0).chuckSync

/-- A write of CORE_DONE (R326). -/
def State.coreDone (s : State) (w : Req) (c : Nat) (status : Nat) (resValid : Bool) (resBuf : Nat) : State :=
  if reqCode w ≠ c then s
  else if s.coreIdle c then (s.set CHUCK.CHUCK_ERR'DONE_REFUSED 1).refusal 14
  else
    have good := resValid && s.owner resBuf == c
    have t := if good then s.passBuf resBuf ownDEVICE
      else if resValid then s.set CHUCK.CHUCK_ERR'RES_OWNER 1 else s
    t.jobEnd c status good resBuf

/-- A core ends its job (R326). -/
def execCoreDone (w : Req) (c : Fin 16) (status : BitVec 8) (resValid : Bool) (resBuf : Fin 2048) (s : State) :
    Host.Outcome State Fault Refusal :=
  .next (s.regCmd w (CHUCK.CORE_DONE c) (·.coreDone w c status.toNat resValid resBuf))

/-- A core that leaves RUNNING or WAITING with a job loses it (R327). -/
def State.jobLost (s : State) (c : Nat) : State :=
  if !s.domOn pdMEM || s.coreIdle c then s else s.jobEnd c 0xFE false 0

/-- The job of a flow that may be released next: in enqueue order, or in DONE order (R321). -/
def State.nextRelease (s : State) (f : Nat) : Option ChuckJob :=
  have l := s.flowJobs f
  if s.f (CHUCK.FLOW_CFG'KIND f) = 1 then
    match l.find? (fun j => j.st != 0) with | some j => if j.st = 2 then some j else none | none => none
  else (l.filter (fun j => j.st == 2)).foldl (fun m j => match m with
    | none => some j
    | some k => if j.doneSeq < k.doneSeq then some j else some k) none

/-- A completion record is written to the sink's queue (R328). -/
def State.release (s : State) (f : Nat) : State :=
  if !s.domOn pdMEM then s
  else match s.nextRelease f with
  | none => s
  | some j =>
    have k := min 16 (s.f (CHUCK.FLOW_CFG'SINK f))
    if 256 ≤ (s.chuck.cq.get k).length then s
    else
      have lo := 2 ^ 31 + (if j.resValid then 2 ^ 30 else 0) + j.status * 65536 + f
      have hi := j.fseq * 65536 + j.resBuf
      have t := { s with chuck := { s.chuck with cq := s.chuck.cq.set k (s.chuck.cq.get k ++ [(lo, hi)]),
                                                 pool := s.chuck.pool.filter (fun x => x.id != j.id) } }
      have t := if j.resValid then t.passBuf j.resBuf k else t
      have t := (t.set (CHUCK.CQ_STAT'COUNT k) ((t.chuck.cq.get k).length)).hist (s.f (CHUCK.FLOW_CFG'CLASS f)) (s.ns - j.dispNs)
      ((t.work 14).raise (128 + k)).chuckSync

/-- A completion is released (R328). -/
def execJobRelease (f : Fin 256) (s : State) : Host.Outcome State Fault Refusal := .next (s.release f)

/-- A read of CQ_LO: the oldest record is popped and CQ_HI latched for the requester (R8, R328). -/
def State.cqPop (s : State) (w : Req) (k : Nat) : State :=
  match s.chuck.cq.get k with
  | [] => (s.latch w (CHUCK.CQ_HI k) 0).answer (.data 0)
  | r :: l =>
    have t := { s with chuck := { s.chuck with cq := s.chuck.cq.set k l } }
    ((t.set (CHUCK.CQ_STAT'COUNT k) l.length).latch w (CHUCK.CQ_HI k) r.2).answer (.data r.1)

/-- A read of CQ_LO pops the oldest completion record (R328). -/
def execCompletionPop (w : Req) (k : Fin 17) (s : State) : Host.Outcome State Fault Refusal :=
  .next (s.regRead w (CHUCK.CQ_LO k) (·.cqPop w k))

/-! ### Configuration (R329) -/

/-- A write of FLOW_CFG or FLOW_MASK: accepted with no job queued, in service or in the reorder buffer (R329). -/
def State.flowCfgWrite (s : State) (f : Nat) (mask : Bool) (v : Word) : State :=
  if (s.flowJobs f).any (fun j => j.st != 2 || s.f (CHUCK.FLOW_CFG'KIND f) == 1) then (s.set CHUCK.CHUCK_ERR'FLOW_CFG_REFUSED 1).refusal 14
  else (s.plainWrite (if mask then CHUCK.FLOW_MASK f else CHUCK.FLOW_CFG f) v).chuckSync

/-- A write of FLOW_CFG or FLOW_MASK (R329). -/
def execFlowCfgWrite (w : Req) (f : Fin 256) (mask : Bool) (v : Word) (s : State) : Host.Outcome State Fault Refusal :=
  .next (s.regCmd w (if mask then CHUCK.FLOW_MASK f else CHUCK.FLOW_CFG f) (·.flowCfgWrite f mask v))

end Sys2Proof.Machine
end

