-- ==== Sys2Proof/Machine/FaceArith.lean ====
section
/-!
DEFINITION. The arithmetic of the Faceplate: number formats, the class S iteration, the preconditioner, the class B
problems (spec/10_faceplate_arithmetic.md, R222-R242, and the residual test of R264). Exact values are rationals.
-/
namespace Sys2Proof.Machine
open Sys2Proof

/-! ### Formats (R223-R228) -/

/-- 2^e. -/
def pow2 (e : Int) : Rat := if 0 ≤ e then ((2 ^ e.toNat : Nat) : Rat) else 1 / ((2 ^ (-e).toNat : Nat) : Rat)

/-- A rational rounded to the nearest integer, ties to even. -/
def ratRound (x : Rat) : Int := rdiv x.num x.den

def ratAbs (x : Rat) : Rat := if x < 0 then -x else x
def ratMax (x y : Rat) : Rat := if x < y then y else x
def ratMin (x y : Rat) : Rat := if y < x then y else x
def ratSum (l : List Rat) : Rat := l.foldl (fun a x => a + x) 0

/-- The value of a data word in a segment with exponent `e` (R223). -/
def wordVal (w e : Int) : Rat := (w : Rat) * pow2 (e - 31)

/-- Delivery into a segment with exponent `e`: convergent rounding, saturation and OVF (R226). -/
def deliver (e : Int) (x : Rat) : Int × Bool :=
  have w := ratRound (x * pow2 (31 - e))
  (satI 32 w, decide (satI 32 w ≠ w))

/-- A parameter M × 2^(X − 23) (R228). -/
def paramVal (w : Nat) : Rat := ((w / 256 % 2 ^ 24 : Nat) : Rat) * pow2 (sxN 8 w - 23)

/-- Bits of a natural number. -/
def bitLen (n : Nat) : Nat := if n = 0 then 0 else Nat.log2 n + 1

/-- The exponent with which the magnitude of a nonzero rational lies in [0.5, 1). -/
def normExp (x : Rat) : Int :=
  have e : Int := (bitLen x.num.natAbs : Int) - bitLen x.den
  if pow2 e ≤ ratAbs x then e + 1 else e

/-- A run-time scalar (R227): a 32-bit mantissa and a 10-bit exponent; the second part is OVF. -/
def scalar (x : Rat) : Rat × Bool :=
  if x = 0 then (0, false)
  else
    have e := normExp x
    if 511 < e then ((if x < 0 then -1 else 1) * ((2147483647 : Nat) : Rat) * pow2 480, true)
    else if e < -512 then ((if x < 0 then -1 else 1) * pow2 (-513), true)
    else
      have y := x * pow2 (31 - e)
      have m := if y.den = 1 then y.num else if Config.scalarUp y.num y.den then y.floor + 1 else y.floor
      ((m : Rat) * pow2 (e - 31), false)

/-- A norm in the parameter format, from a non-negative value (R270). -/
def toParam (x : Rat) : Nat :=
  if x ≤ 0 then 0
  else
    have e := normExp x
    have y := x * pow2 (24 - e)
    have m := if y.den = 1 then y.num else if Config.scalarUp y.num y.den then y.floor + 1 else y.floor
    if m = 2 ^ 24 then 2 ^ 23 * 256 + uN 8 (clampI (-128) 127 e) else m.toNat * 256 + uN 8 (clampI (-128) 127 (e - 1))

/-- A result within 1 LSB of the exact `y` LSB, as a divide unit gives it (R222): which one is free. -/
def within1 (y : Rat) : Int :=
  have e := Config.divideErr y.num y.den
  if y.den = 1 then y.num + clampI (-1) 1 e else if 0 < e then y.floor + 1 else y.floor

/-- A reciprocal from a divide unit: a 32-bit mantissa and an exponent, within 1 LSB of the exact one (R222; the format is the
model's, log entry 23). -/
def recip (y : Rat) : Rat :=
  have e := normExp (1 / y)
  (within1 (1 / y * pow2 (31 - e)) : Rat) * pow2 (e - 31)

/-- A quotient, delivered into exponent `e`: the dividend times the divisor's reciprocal (R222, R226). -/
def divWord (e : Int) (x y : Rat) : Int × Bool :=
  if y = 0 then
    have w := Config.divideByZero x.num x.den
    (satI 32 w, decide (satI 32 w ≠ w))
  else deliver e (x * recip y)

/-- A square root from a divide unit, as a word in exponent `e`, within 1 LSB of the exact one (R222). -/
def sqrtWord (e : Int) (x : Rat) : Int × Bool :=
  have y := x * pow2 (2 * (31 - e))
  have r : Int := isqrtAux y.floor.toNat 200 0
  have w := if (r : Rat) * r = y then r + clampI (-1) 1 (Config.divideErr y.num y.den)
    else if 0 < Config.divideErr y.num y.den then r + 1 else r
  (satI 32 w, decide (satI 32 w ≠ w))

/-! ### Vectors and passes (R224, R225, R244-R247) -/

/-- Exponents element by element, from segment lengths and segment exponents. -/
def spread : List Nat → List Int → List Int
  | [], _ => []
  | n :: l, es => List.replicate n (es.headD 0) ++ spread l es.tail

/-- First index of each segment. -/
def segStarts : Nat → List Nat → List Nat
  | _, [] => []
  | o, n :: l => o :: segStarts (o + n) l

/-- Vectors 2, 3, 4, 6, 7, 12 and 14 are M-length. -/
def isRowVec (v : Nat) : Bool := [2, 3, 4, 6, 7, 12, 14].contains v

def FaceSched.segs (f : FaceSched) (v : Nat) : List Nat := if isRowVec v then f.segM else f.segN
def FaceSched.len (f : FaceSched) (v : Nat) : Nat := if isRowVec v then f.m else f.n
def FaceSched.expOf (f : FaceSched) (v : Nat) : List Int := spread (f.segs v) (f.exps.getD v [])

/-- The working state of a solve: the sixteen vectors, the preconditioner entries, OVF and the counts of R270. -/
structure Solve where
  v : List (List Int)
  pre : List Int
  ovf : Bool
  brk : Nat
  floorBlk : Nat
  np : Nat                     -- operator products of the iteration in progress (R515)
  prods : List Nat             -- and of each completed iteration
  deriving DecidableEq, Repr, Inhabited

def Solve.vec (r : Solve) (v : Nat) : List Int := r.v.getD v []

/-- Element `i` of vector `v` as a value. -/
def Solve.at (r : Solve) (f : FaceSched) (v i : Nat) : Rat := wordVal ((r.vec v).getD i 0) ((f.expOf v).getD i 0)

/-- Vector `v` replaced element by element, each value delivered into its segment (R226). -/
def Solve.put (r : Solve) (f : FaceSched) (v : Nat) (g : Nat → Rat) : Solve :=
  have l := (upto (f.len v)).map (fun i => deliver ((f.expOf v).getD i 0) (g i))
  { r with v := r.v.set v (l.map (·.1)), ovf := r.ovf || l.any (·.2) }

/-- One entry added to an accumulator of exponent `ea` (R225). -/
def accAdd (acc : Int × Bool) (a b d : Int) : Int × Bool :=
  have p := a * b
  have q := if 0 ≤ d then p * 2 ^ d.toNat else rshr p (-d).toNat
  have t := acc.1 + q
  (satI 72 t, acc.2 || decide (satI 72 t ≠ t))

/-- A MAC pass of phase `ph` over vector `x`: for each output index its accumulator as a value, and OVF. `val` gives the
value memory. -/
def macPass (f : FaceSched) (val : Nat → Int) (ph : Nat) (x : List Int) (xe : List Int) (inSegs outSegs : List Nat) :
    List (Nat × Rat) × Bool :=
  have starts := segStarts 0 inSegs
  have accE := spread outSegs (f.accE.getD ph [])
  have r := (f.tiles.filter (fun t => t.phase == ph)).foldl (fun (st : (Int × Bool) × List (Nat × Rat)) t =>
    have ea := accE.getD t.out 0
    have a0 := if t.first then (0, st.1.2) else st.1
    have s0 := starts.getD t.seg 0
    have a := ((upto t.cols.length).zip t.cols).foldl (fun a kc =>
      have j := s0 + kc.2
      accAdd a (val (t.base + kc.1)) (x.getD j 0) (t.eM + xe.getD j 0 - ea)) a0
    (a, if t.last then st.2 ++ [(t.out, (a.1 : Rat) * pow2 (ea - 62))] else st.2)) ((0, false), [])
  (r.2, r.1.2)

/-- A pass of phase 0, 1, 2 or 3 of vector `src`, extracted into vector `dst`; `add`: what is added at extraction. An
output index without a tile has the product 0 (log entry 23). -/
def Solve.pass (r : Solve) (f : FaceSched) (val : Nat → Int) (ph src dst : Nat) (add : Nat → Rat) : Solve :=
  have o := macPass f (if ph = 3 then fun i => r.pre.getD (i - f.nnzOp) 0 else val) ph (r.vec src) (f.expOf src) (f.segs src) (f.segs dst)
  have sums := o.1.foldl (fun (l : List Rat) kx => l.set kx.1 kx.2) (List.replicate (f.len dst) 0)
  have r := r.put f dst (fun i => sums.getD i 0 + add i)
  { r with ovf := r.ovf || o.2 }

/-! ### Class S (R230-R236, R264, R267) -/

def vX : Nat := 0
def vXT : Nat := 1
def vZ : Nat := 2
def vZT : Nat := 3
def vY : Nat := 4
def vQ : Nat := 5
def vL : Nat := 6
def vU : Nat := 7
def vR : Nat := 8
def vW : Nat := 9
def vP : Nat := 10
def vKP : Nat := 11
def vAV : Nat := 12
def vPD : Nat := 13
def vZP : Nat := 14
def vSCR : Nat := 15

def noAdd : Nat → Rat := fun _ => 0

/-- ρ_i (R231). -/
def rhoOf (f : FaceSched) (w : CellWeights) (i : Nat) : Rat :=
  match f.rows.getD i 0 with
  | 0 => paramVal f.rhoMin
  | 4 => paramVal w.rhoEq
  | _ => paramVal w.rho

/-- Π_i (R231). -/
def project (ty : Nat) (v l u : Rat) : Rat :=
  match ty with
  | 1 => ratMax v l
  | 2 => ratMin v u
  | 3 => ratMin (ratMax v l) u
  | 4 => l
  | _ => v

/-- A dot product as a scalar (R227). -/
def Solve.dot (r : Solve) (f : FaceSched) (a b : Nat) : Rat × Bool :=
  scalar (ratSum ((upto (f.len a)).map (fun i => r.at f a i * r.at f b i)))

/-- The largest magnitude of a list of values. -/
def normInf (l : List Rat) : Rat := l.foldl (fun m x => ratMax m (ratAbs x)) 0

/-- K v for v = CG_P into CG_KP (R232). -/
def Solve.kMul (r : Solve) (f : FaceSched) (w : CellWeights) (val : Nat → Int) : Solve :=
  have r := r.pass f val 0 vP vKP noAdd
  have r := r.pass f val 1 vP vAV noAdd
  have r := r.put f vAV (fun i => rhoOf f w i * r.at f vAV i)
  have r0 := r
  have r := r.pass f val 2 vAV vKP (fun i => r0.at f vKP i)
  r.put f vKP (fun i => r.at f vKP i + paramVal w.sigma * r.at f vP i)

/-- The preconditioner applied to CG_R (R235). -/
def Solve.precond (r : Solve) (f : FaceSched) (val : Nat → Int) : Solve :=
  have r := r.put f vW (fun i => r.at f vPD i * r.at f vR i)
  have r0 := r
  r.pass f val 3 vR vW (fun i => r0.at f vW i)

def Solve.flag (r : Solve) (o : Bool) : Solve := { r with ovf := r.ovf || o }

/-- The loop of R234, with at most the given number of operator products. -/
def Solve.cg (f : FaceSched) (w : CellWeights) (val : Nat → Int) (ee : Rat) : Nat → Rat → Solve → Solve
  | 0, _, r => r
  | n + 1, g, r =>
    have rr := r.dot f vR vR
    have r := r.flag rr.2
    if rr.1 ≤ paramVal w.cgEps * paramVal w.cgEps * ee then r
    else
      have r : Solve := { r.kMul f w val with np := r.np + 1 }
      have h := r.dot f vP vKP
      have r := r.flag h.2
      if h.1 ≤ 0 then { r with brk := r.brk + 1 }
      else
        have a := scalar (g / h.1)
        have r := r.flag a.2
        have r := r.put f vXT (fun i => r.at f vXT i + a.1 * r.at f vP i)
        have r := r.put f vR (fun i => r.at f vR i - a.1 * r.at f vKP i)
        have r := r.precond f val
        have gn := r.dot f vR vW
        have b := scalar (if g = 0 then 0 else gn.1 / g)
        have r := (r.flag gn.2).flag b.2
        have r := r.put f vP (fun i => r.at f vW i + b.1 * r.at f vP i)
        Solve.cg f w val ee n gn.1 r

/-- Steps 1 to 6 of R233. -/
def Solve.iter (r : Solve) (f : FaceSched) (w : CellWeights) (val : Nat → Int) : Solve :=
  have sg := paramVal w.sigma
  have al := paramVal w.alpha
  have r : Solve := { r with np := 1 }
  have r := r.pass f val 0 vXT vR noAdd
  have r := r.put f vAV (fun i => rhoOf f w i * (r.at f vZ i - r.at f vZT i) - r.at f vY i)
  have r0 := r
  have r := r.pass f val 2 vAV vR (fun i => sg * (r0.at f vX i - r0.at f vXT i) - r0.at f vQ i - r0.at f vR i)
  have r := r.precond f val
  have r0 := r
  have r := r.put f vP (fun i => r0.at f vW i)
  have g := r.dot f vR vW
  have ee := r.dot f vR vR
  have r := Solve.cg f w val ee.1 w.ncg g.1 ((r.flag g.2).flag ee.2)
  have r := r.pass f val 1 vXT vZT noAdd
  have r0 := r
  have r := r.put f vX (fun i => al * r0.at f vXT i + (1 - al) * r0.at f vX i)
  have r := r.put f vZP (fun i => r0.at f vZ i)
  have zh := fun i => al * r0.at f vZT i + (1 - al) * r0.at f vZ i
  have r := r.put f vZ (fun i => project (f.rows.getD i 0) (zh i + (if rhoOf f w i = 0 then 0 else r0.at f vY i / rhoOf f w i)) (r0.at f vL i) (r0.at f vU i))
  have r := r.put f vY (fun i => r0.at f vY i + rhoOf f w i * (zh i - r.at f vZ i))
  { r with prods := r.prods ++ [r.np] }

/-- The residuals r_p, r_d, ε_p, ε_d (R264). -/
structure Resid where
  rp : Rat
  rd : Rat
  ep : Rat
  ed : Rat
  deriving DecidableEq, Repr, Inhabited

/-- The test of R264. -/
def Solve.test (r : Solve) (f : FaceSched) (w : CellWeights) (val : Nat → Int) : Resid × Solve :=
  have r := r.pass f val 0 vXT vSCR noAdd
  have r0 := r
  have r := r.put f vAV (fun i => r0.at f vY i)
  have r := r.pass f val 2 vAV vKP noAdd
  have ns := fun v => normInf ((upto (f.len v)).map (fun i => r.at f v i))
  have rp := scalar (normInf ((upto f.m).map (fun i => r.at f vZT i - r.at f vZ i)))
  have rd := scalar (normInf ((upto f.n).map (fun i => r.at f vSCR i + r.at f vQ i + r.at f vKP i)))
  have ep := scalar (paramVal w.epsAbs + paramVal w.epsRel * ratMax (ns vZT) (ns vZ))
  have ed := scalar (paramVal w.epsAbs + paramVal w.epsRel * ratMax (ratMax (ns vSCR) (ns vKP)) (ns vQ))
  (⟨rp.1, rd.1, ep.1, ed.1⟩, (((r.flag rp.2).flag rd.2).flag ep.2).flag ed.2)

def Resid.ok (x : Resid) : Bool := decide (x.rp ≤ x.ep) && decide (x.rd ≤ x.ed)

/-! ### The preconditioner's setup (R235) -/

/-- Entry (i, j) of a phase's matrix. -/
def matEntry (f : FaceSched) (val : Nat → Int) (ph : Nat) (inSegs : List Nat) (i j : Nat) : Rat :=
  have starts := segStarts 0 inSegs
  ratSum ((f.tiles.filter (fun t => t.phase == ph && t.out == i)).flatMap (fun t =>
    ((upto t.cols.length).zip t.cols).filterMap (fun kc =>
      if starts.getD t.seg 0 + kc.2 = j then some (wordVal (val (t.base + kc.1)) t.eM) else none)))

/-- One elimination step of Gauss-Jordan on rows of equal length. -/
def gjStep (k : Nat) (m : List (List Rat)) : List (List Rat) :=
  have row := m.getD k []
  have p := row.getD k 0
  have row := row.map (fun x => if p = 0 then 0 else x / p)
  m.mapIdx (fun i r => if i = k then row else
    have c := r.getD k 0
    (r.zip row).map (fun xy => xy.1 - c * xy.2))

/-- The inverse of a square matrix. -/
def matInv (n : Nat) (m : List (List Rat)) : List (List Rat) :=
  have aug := m.mapIdx (fun i r => r ++ (upto n).map (fun j => if i = j then 1 else 0))
  ((upto n).foldl (fun a k => gjStep k a) aug).map (·.drop n)

/-- The pivots of a symmetric matrix, in order (LDLᵀ). -/
def pivots : Nat → List (List Rat) → List Rat
  | 0, _ => []
  | n + 1, m =>
    have p := (m.getD 0 []).getD 0 0
    have rest := (m.drop 1).map (fun r =>
      have c := if p = 0 then 0 else r.getD 0 0 / p
      ((r.zip (m.getD 0 [])).map (fun xy => xy.1 - c * xy.2)).drop 1)
    p :: pivots n rest

/-- The first index of each block, with its size. -/
def blockStarts : Nat → List Nat → List (Nat × Nat)
  | _, [] => []
  | o, n :: l => (o, n) :: blockStarts (o + n) l

/-- Block-Jacobi setup: PRE_D, the phase 3 entries and the number of floored blocks (R235). -/
def Solve.setup (r : Solve) (f : FaceSched) (w : CellWeights) (val : Nat → Int) : Solve :=
  have sg := paramVal w.sigma
  have dA := fun j => ratSum ((upto f.m).map (fun i =>
    have a := matEntry f val 1 f.segN i j
    rhoOf f w i * a * a))
  have bl := (blockStarts 0 f.blocks).map (fun on =>
    have b := (upto on.2).map (fun i => (upto on.2).map (fun j =>
      matEntry f val 0 f.segN (on.1 + i) (on.1 + j) + (if i = j then sg + dA (on.1 + i) else 0)))
    have bad := (pivots on.2 b).any (fun p => decide (p ≤ paramVal f.pivFloor))
    have inv := if bad then (upto on.2).map (fun i => (upto on.2).map (fun j =>
        if i = j then ratMax sg ((b.getD i []).getD i 0) else 0)) else matInv on.2 b
    (on.1, inv, bad))
  have free := fun (e : Int) (x : Rat) =>
    have d := deliver e x
    (satI 32 (d.1 + Config.precondErr x.num x.den), d.2)
  -- an entry of a floored block: 0, or the reciprocal of its raised diagonal entry
  have plain := fun (e : Int) (x : Rat) => if x = 0 then deliver e 0 else divWord e 1 x
  have word := fun (e : Int) (i j : Nat) => match bl.find? (fun b => decide (b.1 ≤ i ∧ i < b.1 + b.2.1.length)) with
    | some b =>
      have x := if b.1 ≤ j then ((b.2.1.getD (i - b.1) []).getD (j - b.1) 0) else 0
      if b.2.2 then plain e x else free e x
    | none => plain e 0
  have pd := (upto f.n).map (fun i => word ((f.expOf vPD).getD i 0) i i)
  have starts := segStarts 0 f.segN
  have off := (f.tiles.filter (fun t => t.phase == 3)).flatMap (fun t =>
    t.cols.map (fun c => word t.eM t.out (starts.getD t.seg 0 + c)))
  { r with v := r.v.set vPD (pd.map (·.1)), pre := off.map (·.1),
           ovf := r.ovf || pd.any (·.2) || off.any (·.2), floorBlk := (bl.filter (·.2.2)).length }

/-- The start of a solve: preconditioner, x̃ = x and z̃ = A x̃ (R233). -/
def Solve.begin_ (r : Solve) (f : FaceSched) (w : CellWeights) (val : Nat → Int) : Solve :=
  have r := r.setup f w val
  have r0 := r
  have r := r.put f vXT (fun i => r0.at f vX i)
  r.pass f val 1 vXT vZT noAdd

/-- The iterations of R233 from iteration `k` + 1 on, at most `n`: the iterations completed, the last test, whether it
converged. -/
def Solve.run (f : FaceSched) (w : CellWeights) (val : Nat → Int) :
    Nat → Nat → Resid × Nat → Solve → Nat × (Resid × Nat) × Bool × Solve
  | 0, k, t, r => (k, t, false, r)
  | n + 1, k, t, r =>
    have r := r.iter f w val
    have k := k + 1
    if k % max 1 w.resEvery = 0 ∨ k = w.admmMax then
      have x := r.test f w val
      if x.1.ok then (k, (x.1, k), true, x.2) else Solve.run f w val n k (x.1, k) x.2
    else Solve.run f w val n k t r

/-- The end at a deadline: X into XT, Z̃ = A x, and the test (R267). -/
def Solve.finish (r : Solve) (f : FaceSched) (w : CellWeights) (val : Nat → Int) : Resid × Solve :=
  have r0 := r
  have r := r.put f vXT (fun i => r0.at f vX i)
  (r.pass f val 1 vXT vZT noAdd).test f w val

/-! ### Class B (R238-R241) -/

/-- What a class B problem gives: the result words, and the outcome of R241. -/
structure BResult where
  words : List Int
  floored : Bool
  ovf : Bool
  deriving DecidableEq, Repr, Inhabited

/-- A lower-triangular factor in words: rows, pivots (LDLᵀ only), flags. -/
structure Factor where
  l : List (List Int)
  d : List Int
  floored : Bool
  ovf : Bool
  deriving DecidableEq, Repr, Inhabited

/-- Entry of a list of rows of words in exponent `e`, as a value. -/
def ent (e : Int) (m : List (List Int)) (i j : Nat) : Rat := wordVal ((m.getD i []).getD j 0) e

/-- Column `j` of the Cholesky factor in exponent `e` (R238, R241). -/
def cholCol (n : Nat) (a : Nat → Nat → Rat) (e : Int) (piv : Rat) (fa : Factor) (j : Nat) : Factor :=
  have s := fun i => a i j - ratSum ((upto j).map (fun k => ent e fa.l i k * ent e fa.l j k))
  have p := s j
  have low := decide (p ≤ piv)
  have d := sqrtWord e (if low then piv else p)
  have col := (upto n).map (fun i => if i < j then (0, false) else if i = j then d else divWord e (s i) (wordVal d.1 e))
  { fa with l := fa.l.mapIdx (fun i r => r ++ [(col.getD i (0, false)).1]), floored := fa.floored || low,
            ovf := fa.ovf || col.any (·.2) }

def chol (n : Nat) (a : Nat → Nat → Rat) (e : Int) (piv : Rat) : Factor :=
  (upto n).foldl (cholCol n a e piv) ⟨List.replicate n [], [], false, false⟩

/-- Column `j` of the LDLᵀ factor with unit L (R238, R241). -/
def ldltCol (n : Nat) (a : Nat → Nat → Rat) (e : Int) (piv : Rat) (fa : Factor) (j : Nat) : Factor :=
  have s := fun i => a i j - ratSum ((upto j).map (fun k => ent e fa.l i k * ent e fa.l j k * wordVal (fa.d.getD k 0) e))
  have p := s j
  have low := decide (ratAbs p < piv)
  have d := deliver e (if low then (if p < 0 then -piv else piv) else p)
  have col := (upto n).map (fun i => if i ≤ j then (0, false) else divWord e (s i) (wordVal d.1 e))
  { l := fa.l.mapIdx (fun i r => r ++ [(col.getD i (0, false)).1]), d := fa.d ++ [d.1], floored := fa.floored || low,
    ovf := fa.ovf || d.2 || col.any (·.2) }

def ldlt (n : Nat) (a : Nat → Nat → Rat) (e : Int) (piv : Rat) : Factor :=
  (upto n).foldl (ldltCol n a e piv) ⟨List.replicate n [], [], false, false⟩

/-- Forward and back substitution of one right-hand side, solution words in exponent `es`. -/
def substitute (n : Nat) (unit : Bool) (fa : Factor) (e es : Int) (b : Nat → Rat) : List Int × Bool :=
  have fw := (upto n).foldl (fun (st : List Int × Bool) i =>
    have t := b i - ratSum ((upto i).map (fun k => ent e fa.l i k * wordVal (st.1.getD k 0) es))
    have w := if unit then deliver es t else divWord es t (ent e fa.l i i)
    (st.1 ++ [w.1], st.2 || w.2)) ([], false)
  have md := if unit then
      (upto n).map (fun i => divWord es (wordVal (fw.1.getD i 0) es) (wordVal (fa.d.getD i 0) e))
    else fw.1.map (fun x => (x, false))
  have y := md.map (·.1)
  (upto n).foldl (fun (st : List Int × Bool) k =>
    have i := n - 1 - k
    have t := wordVal (y.getD i 0) es - ratSum ((upto k).map (fun m => ent e fa.l (n - 1 - m) i * wordVal (st.1.getD (n - 1 - m) 0) es))
    have w := if unit then deliver es t else divWord es t (ent e fa.l i i)
    (st.1.set i w.1, st.2 || w.2)) (List.replicate n 0, fw.2 || md.any (·.2))

/-- A matrix of words in row-major order. -/
def rowsOf (r c : Nat) (ws : List Int) : List (List Int) := (upto r).map (fun i => (ws.drop (i * c)).take c)

/-- One class B problem (R238): `ws` are the slot's input words: the matrix, the right-hand sides, and λ² for DLS. -/
def solveB (f : FaceSched) (s : BSlot) (ws : List Int) : BResult :=
  have piv := paramVal f.pivFloor
  have n := s.n
  match s.op with
  | 3 =>
    have j := rowsOf s.m n ws
    have je := fun r c => ent s.eMat j r c
    have e := fun i => wordVal (ws.getD (s.m * n + i) 0) s.eRhs
    have lam := paramVal (uN 32 (ws.getD (s.m * n + s.m) 0))
    if s.m ≤ n then
      have g := (upto s.m).map (fun a => (upto s.m).map (fun b =>
        deliver s.eFac (ratSum ((upto n).map (fun k => je a k * je b k)) + (if a = b then lam else 0))))
      have fa := chol s.m (fun a b => wordVal (((g.getD a []).getD b (0, false)).1) s.eFac) s.eFac piv
      have v := substitute s.m false fa s.eFac s.eSol e
      have x := (upto n).map (fun c => deliver s.eSol (ratSum ((upto s.m).map (fun a => je a c * wordVal (v.1.getD a 0) s.eSol))))
      ⟨x.map (·.1), fa.floored, fa.ovf || v.2 || x.any (·.2) || g.any (·.any (·.2))⟩
    else
      have g := (upto n).map (fun a => (upto n).map (fun b =>
        deliver s.eFac (ratSum ((upto s.m).map (fun k => je k a * je k b)) + (if a = b then lam else 0))))
      have fa := chol n (fun a b => wordVal (((g.getD a []).getD b (0, false)).1) s.eFac) s.eFac piv
      have rhs := (upto n).map (fun c => deliver s.eRhs (ratSum ((upto s.m).map (fun a => je a c * e a))))
      have x := substitute n false fa s.eFac s.eSol (fun i => wordVal ((rhs.getD i (0, false)).1) s.eRhs)
      ⟨x.1, fa.floored, fa.ovf || x.2 || rhs.any (·.2) || g.any (·.any (·.2))⟩
  | op =>
    have a := rowsOf n n ws
    have fa := if op = 2 then ldlt n (ent s.eMat a) s.eFac piv else chol n (ent s.eMat a) s.eFac piv
    if op = 4 then ⟨fa.l.flatten, fa.floored, fa.ovf⟩
    else
      have xs := (upto s.nrhs).map (fun c => substitute n (op == 2) fa s.eFac s.eSol
        (fun i => wordVal (ws.getD (n * n + c * n + i) 0) s.eRhs))
      ⟨(xs.map (·.1)).flatten, fa.floored, fa.ovf || xs.any (·.2)⟩

/-- Input words of a slot (R261). -/
def BSlot.inWords (s : BSlot) : Nat := if s.op = 3 then s.m * s.n + s.m + 1 else s.n * s.n + s.n * s.nrhs

/-- Result words of a slot (R271). -/
def BSlot.outWords (s : BSlot) : Nat := if s.op = 3 then s.n else if s.op = 4 then s.n * s.n else s.n * s.nrhs

/-- A number rounded up to a multiple of 16. -/
def up16 (n : Nat) : Nat := (n + 15) / 16 * 16

/-- Byte offset of each slot's input from 0x20 on, each on a 16-byte boundary. -/
def inOffsets (f : FaceSched) : List Nat :=
  (f.slots.foldl (fun (st : Nat × List Nat) s => (up16 (st.1 + 4 * s.inWords), st.2 ++ [st.1])) (0x20, [])).2

/-- Byte offset of each slot's result. -/
def outOffsets (f : FaceSched) : List Nat :=
  (f.slots.foldl (fun (st : Nat × List Nat) s => (up16 (st.1 + 4 + 4 * s.outWords), st.2 ++ [st.1])) (16, [])).2

def bInBytes (f : FaceSched) : Nat := f.slots.foldl (fun o s => up16 (o + 4 * s.inWords)) 0x20
def bOutBytes (f : FaceSched) : Nat := f.slots.foldl (fun o s => up16 (o + 4 + 4 * s.outWords)) 16

end Sys2Proof.Machine
end

