-- ==== Sys2Proof/Machine/Rough.lean ====
section
/-!
DEFINITION. The Roughing stage: snapshot, kinematic frame, assembly (spec/11_faceplate_operation.md, R250-R258). The
kinematics is exact, with the sines and cosines of Trig.lean, and rounds once into each frame word (log entry 24).
-/
namespace Sys2Proof.Machine
open Sys2Proof

/-! ### Vectors and rigid motions -/

structure V3 where
  x : Rat
  y : Rat
  z : Rat
  deriving DecidableEq, Repr, Inhabited

def V3.add (a b : V3) : V3 := ⟨a.x + b.x, a.y + b.y, a.z + b.z⟩
def V3.smul (k : Rat) (a : V3) : V3 := ⟨k * a.x, k * a.y, k * a.z⟩
def V3.dot (a b : V3) : Rat := a.x * b.x + a.y * b.y + a.z * b.z
def V3.cross (a b : V3) : V3 := ⟨a.y * b.z - a.z * b.y, a.z * b.x - a.x * b.z, a.x * b.y - a.y * b.x⟩
def V3.get (a : V3) (r : Nat) : Rat := match r with | 0 => a.x | 1 => a.y | _ => a.z

/-- A rotation given by its action, as the images of the three unit vectors, and a translation. -/
structure Motion where
  c0 : V3
  c1 : V3
  c2 : V3
  t : V3
  deriving DecidableEq, Repr, Inhabited

def Motion.rot (m : Motion) (p : V3) : V3 := ((m.c0.smul p.x).add (m.c1.smul p.y)).add (m.c2.smul p.z)
def Motion.app (m : Motion) (p : V3) : V3 := (m.rot p).add m.t
def Motion.mul (a b : Motion) : Motion := ⟨a.rot b.c0, a.rot b.c1, a.rot b.c2, a.app b.t⟩
def Motion.one : Motion := ⟨⟨1, 0, 0⟩, ⟨0, 1, 0⟩, ⟨0, 0, 1⟩, ⟨0, 0, 0⟩⟩

/-- The exponential of the screw (ω, v) at angle θ, with sine and cosine given (R252). -/
def expScrew (w v : V3) (th s c : Rat) : Motion :=
  have r := fun (p : V3) => (p.add ((w.cross p).smul s)).add ((w.cross (w.cross p)).smul (1 - c))
  have g := (((v.smul th).add ((w.cross v).smul (1 - c))).add ((w.cross (w.cross v)).smul (th - s)))
  ⟨r ⟨1, 0, 0⟩, r ⟨0, 1, 0⟩, r ⟨0, 0, 1⟩, g⟩

/-! ### An arm's model and its kinematics (R251-R253) -/

/-- Three words of a list from index `i`, in exponent `e`. -/
def v3At (l : List Int) (i : Nat) (e : Int) : V3 :=
  ⟨wordVal (l.getD i 0) e, wordVal (l.getD (i + 1) 0) e, wordVal (l.getD (i + 2) 0) e⟩

/-- θ_j for a position word (R252). -/
def ArmModel.theta (m : ArmModel) (j : Nat) (p : Int) : Rat :=
  (diff40 p (m.ofs.getD j 0) : Rat) * wordVal (m.jscale.getD j 0) (-16)

/-- A speed in rad/s from 2^-16 increments/µs. -/
def ArmModel.omega (m : ArmModel) (j : Nat) (v : Int) : Rat :=
  (v : Rat) * (1000000 / 256) * wordVal (m.jscale.getD j 0) (-16)

/-- The motions of the links: T_k = e^[S_0]θ_0 ⋯ e^[S_k]θ_k. -/
def ArmModel.motions (m : ArmModel) (th : List Rat) : List Motion :=
  ((upto m.nj).foldl (fun (st : Motion × List Motion) j =>
    have s := m.screws.getD j []
    have t := th.getD j 0
    have n := turnOfRad t.num t.den
    have e := expScrew (v3At s 0 0) (v3At s 3 3) t ((sinTurn n : Rat) * pow2 (-80)) ((cosTurn n : Rat) * pow2 (-80))
    have q := st.1.mul e
    (q, st.2 ++ [q])) (Motion.one, [])).2

/-- Screw j carried by the exponentials of the joints before it. -/
def ArmModel.carried (m : ArmModel) (ms : List Motion) (j : Nat) : V3 × V3 :=
  have t := if j = 0 then Motion.one else ms.getD (j - 1) Motion.one
  have s := m.screws.getD j []
  have w := t.rot (v3At s 0 0)
  (w, (t.rot (v3At s 3 3)).add (t.t.cross w))

/-- Column j of the Jacobian at point p of link k. -/
def ArmModel.jac (m : ArmModel) (ms : List Motion) (k j : Nat) (p : V3) : V3 :=
  if k < j ∨ m.nj ≤ j then ⟨0, 0, 0⟩
  else
    have c := m.carried ms j
    (c.1.cross p).add c.2

/-- Point p0 of link k, moved. -/
def movePt (ms : List Motion) (k : Nat) (p0 : V3) : V3 := (ms.getD k Motion.one).app p0

/-- Mass, centre and inertia of link i. -/
def ArmModel.mass (m : ArmModel) (i : Nat) : Rat := wordVal ((m.links.getD i []).getD 0 0) 9
def ArmModel.centre (m : ArmModel) (i : Nat) : V3 := v3At (m.links.getD i []) 1 3
def ArmModel.inertia (m : ArmModel) (i : Nat) (p : V3) : V3 :=
  have l := m.links.getD i []
  have g := fun k => wordVal (l.getD k 0) 7
  ⟨g 4 * p.x + g 7 * p.y + g 8 * p.z, g 7 * p.x + g 5 * p.y + g 9 * p.z, g 8 * p.x + g 9 * p.y + g 6 * p.z⟩

/-- The transpose of a motion's rotation, applied. -/
def Motion.rotT (m : Motion) (p : V3) : V3 := ⟨m.c0.dot p, m.c1.dot p, m.c2.dot p⟩

/-- M(θ)[a][b]: the sum over the links of their kinetic terms, which the composite-rigid-body method forms (R252). -/
def ArmModel.massM (m : ArmModel) (ms : List Motion) (a b : Nat) : Rat :=
  ratSum ((upto m.nj).map (fun i =>
    if i < a ∨ i < b then 0
    else
      have c := movePt ms i (m.centre i)
      have t := ms.getD i Motion.one
      have wa := (m.carried ms a).1
      have wb := (m.carried ms b).1
      m.mass i * (m.jac ms i a c).dot (m.jac ms i b c) + wa.dot (t.rot (m.inertia i (t.rotT wb)))))

/-- The gravity torque of joint j. -/
def ArmModel.gravT (m : ArmModel) (ms : List Motion) (j : Nat) : Rat :=
  have g := v3At m.grav 0 4
  Neg.neg (ratSum ((upto m.nj).map (fun i => m.mass i * (m.jac ms i j (movePt ms i (m.centre i))).dot g)))

/-- The exponent of a frame word (R253). -/
def frameExp (o : Nat) : Int :=
  if o < 8 then 3 else if o < 16 then 5 else if o < 448 then 3 else if o < 512 then 7 else if o < 520 then 11
  else if o < 688 then 3 else 5

/-! ### Snapshot and frame (R250, R253-R255) -/

/-- The class B and S schedule reads the planned words of arm a (R220). -/
def State.namesQueue (s : State) (a : Nat) : Bool :=
  s.cfg.face.runs.any (fun r => decide (r.kind < 2) && (upto r.count).any (fun i =>
    have o := (r.word : Int) + (i : Int) * r.stride
    decide ((1024 * a + 528 : Nat) ≤ o ∧ o < (1024 * a + 848 : Nat))))

/-- The measurement snapshot for the Roughing stage at an L3 boundary (R250). -/
def State.roughSnapshot (s : State) : State :=
  if !(s.imgValid && s.domOn pdROUGH) then s
  else
    have axes := (upto 64).filter (fun a => s.axUsed a && decide ((s.axTopo a).arm < 8))
    have t := { s with rough := { s.rough with st := 1, bNs := s.ns, seq := s.f SYS.CYCLE_STAT'L3_SEQ, slots := s.trj.entries, asmDone := false } }
    have t := t.each axes fun a t =>
      have c := (t.axTopo a).fb
      { t with rough := { t.rough with pos := t.rough.pos.set a (t.posBnd c), spd := t.rough.spd.set a (t.rdI (FB.SPEED c)) } }
    have t := t.iff (axes.any (fun a => t.b (FB.FB_STAT'FB_FAULT (t.axTopo a).fb))) (·.set ROUGH.ROUGH_ERR'SNAP_FAULT 1)
    t.set ROUGH.ROUGH_STAT'BUSY 1

/-- A planned entry of the snapshot that may be read (R220, R254). -/
def State.planned (s : State) (a m : Nat) : Option (List TrjRec) :=
  have b := s.rough.bNs / 50000 + 20 + m
  have e := s.rough.slots.get (128 * a + b % 128)
  if e.bn = b ∧ (e.st = 3 ∨ e.st = 4 ∨ (e.st = 1 ∧ s.namesQueue a)) then some e.recs else none

/-- The planned entry m, or the nearest earlier readable one of the 20 (R254). -/
def State.plannedNear (s : State) (a : Nat) : Nat → Option (List TrjRec)
  | 0 => s.planned a 0
  | m + 1 => match s.planned a (m + 1) with | some r => some r | none => s.plannedNear a m

/-- The words of an arm's frame region as (offset, value), and whether an entry was missing (R253, R254). -/
def State.frameOf (s : State) (a : Nat) : List (Nat × Rat) × Bool :=
  have m := s.cfg.models.getD a default
  if !m.used then ([], false)
  else
    have ax := s.qAxes a
    have pos := fun j => s.rough.pos.get (ax.getD j 64)
    have th := (upto m.nj).map (fun j => m.theta j (pos j))
    have ms := m.motions th
    have nj := upto m.nj
    have caps := (upto 8).filter (fun c => c < m.caps.length)
    have base := nj.flatMap (fun j => [(j, th.getD j 0), (8 + j, m.omega j (s.rough.spd.get (ax.getD j 64)))])
    have pts := caps.flatMap (fun c => (upto 2).flatMap (fun e =>
      have cp := m.caps.getD c []
      have k := (cp.getD 0 0).toNat
      have p := movePt ms k (v3At cp (1 + 3 * e) 3)
      (upto 3).map (fun r => (16 + 6 * c + 3 * e + r, p.get r)) ++
        (upto 3).flatMap (fun r => nj.map (fun j => (64 + 48 * c + 24 * e + 8 * r + j, (m.jac ms k j p).get r)))))
    have mm := nj.flatMap (fun i => nj.map (fun j => (448 + 8 * i + j, m.massM ms i j)))
    have gt := nj.map (fun j => (512 + j, m.gravT ms j))
    have rad := caps.map (fun c => (520 + c, wordVal ((m.caps.getD c []).getD 7 0) 3))
    have pl := (upto 20).flatMap (fun q =>
      match s.plannedNear a q with
      | some rs => nj.flatMap (fun j =>
          [(528 + 8 * q + j, m.theta j ((rs.getD j default).p)), (688 + 8 * q + j, m.omega j ((rs.getD j default).v))])
      | none => nj.map (fun j => (528 + 8 * q + j, th.getD j 0)))
    (base ++ pts ++ mm ++ gt ++ rad ++ pl, (upto 20).any (fun q => (s.plannedNear a q).isNone))

/-- The frame is published in one step (R255). -/
def State.framePublish (s : State) : State :=
  if !(s.domOn pdROUGH) ∨ s.rough.st ≠ 1 then s
  else
    have t := s.each (upto 8) fun a t =>
      have fr := t.frameOf a
      have t := t.each (upto 1024) fun o t => t.wrN (ROUGH.FRAME a o) 0
      have t := t.each fr.1 fun ov t =>
        have w := deliver (frameExp ov.1) ov.2
        (t.wrI (ROUGH.FRAME a ov.1) w.1).iff w.2 (·.set ROUGH.ROUGH_ERR'SAT 1)
      t.iff fr.2 (·.set ROUGH.ROUGH_ERR'GAP 1)
    have gap := (upto 8).any (fun a => (s.frameOf a).2)
    have t := { t with rough := { t.rough with st := 2, gap := gap } }
    have t := (t.set ROUGH.ROUGH_STAT'FRAME_VALID 1).set ROUGH.ROUGH_STAT'FRAME_SEQ s.rough.seq
    have t := (t.set ROUGH.ROUGH_TIME'NS (s.ns - s.rough.bNs)).hist 11 (s.ns - s.rough.bNs)
    have t := t.work 12
    if t.domOn pdMEM then
      have f := t.f CHUCK.CHUCK_CTRL'ROUGH_FLOW
      t.hwEnqueue 0 f [f, 0, s.rough.seq, 0, 0, 0, 0, 0]
    else t

/-- The Roughing stage publishes a new frame (R255). -/
def execFramePublish (s : State) : Host.Outcome State Fault Refusal := .next s.framePublish

/-! ### Assembly (R257) -/

def State.faceVal (s : State) (i : Nat) : Int := (s.face.vals.get i).toInt

def State.setFaceVal (s : State) (i : Nat) (x : Int) : State :=
  { s with face := { s.face with vals := s.face.vals.set i (BitVec.ofInt 32 x) } }

def State.faceVec (s : State) (v i : Nat) : Int := (s.face.vecs.get (16384 * v + i)).toInt

def State.setFaceVec (s : State) (v i : Nat) (x : Int) : State :=
  { s with face := { s.face with vecs := s.face.vecs.set (16384 * v + i) (BitVec.ofInt 32 x) } }

/-- The exponent of a value-memory word: the E_M of its entry's tile. -/
def FaceSched.valExp (f : FaceSched) (i : Nat) : Int :=
  match f.tiles.find? (fun t => decide (t.base ≤ i ∧ i < t.base + t.cols.length)) with | some t => t.eM | none => 0

/-- The value of element `i` of a run. -/
def State.runValue (s : State) (r : ARun) (i : Nat) : Rat :=
  have w := if r.wgroup < 64 then paramVal (s.cfg.weights.weight.getD r.wgroup 0) else 1
  have o := ((r.word : Int) + (i : Int) * r.stride).toNat
  have src := match r.kind with
    | 0 => wordVal (s.rdI (ROUGH.FRAME (o / 1024) (o % 1024))) (frameExp (o % 1024))
    | 1 => -(wordVal (s.rdI (ROUGH.FRAME (o / 1024) (o % 1024))) (frameExp (o % 1024)))
    | _ => paramVal r.word
  w * src

/-- One run (R257). -/
def State.runStep (s : State) (r : ARun) : State :=
  have f := s.cfg.face
  s.each (upto r.count) fun i t =>
    have d := r.dest + i
    have e := if r.target = 0 then f.valExp d else (f.expOf r.target).getD d 0
    have w := deliver e (s.runValue r i)
    have t := if r.target = 0 then t.setFaceVal d w.1 else t.setFaceVec r.target d w.1
    if w.2 then { t with face := { t.face with asmOvf := true } } else t

/-- Assembly of the class S problem. -/
def State.assemble (s : State) : State :=
  have t := { s with face := { s.face with asmOvf := false } }
  have t := t.each s.cfg.face.runs fun r t => t.runStep r
  have t := { t with rough := { t.rough with st := 0, asmDone := true } }
  (t.set ROUGH.ROUGH_STAT'BUSY 0).set ROUGH.ROUGH_TIME'NS (t.ns - t.rough.bNs)

end Sys2Proof.Machine
end

