-- ==== Sys2Proof/Machine/Cascade.lean ====
section
/-!
DEFINITION. Frames of the Fyver and steady links, and the consensus split of a cascade
(spec/19_redundant_pairs_cascades.md, R464, R468-R470; log entry 26).
-/
namespace Sys2Proof.Machine
open Sys2Proof

/-! ### Frames (R464) -/

/-- This module's SRC byte: position and member. -/
def State.fyvSrc (s : State) : Nat := s.f FYV.CASC_CFG'POS + 4 * s.f FYV.PAIR_STAT'MEMBER

/-- A frame of this module; `ns` is its departure time, 0 except in the time frames. -/
def State.fyvFrame (s : State) (ty dst ns : Nat) (payload : List Byte) : List Byte :=
  have h := [b8 ty, b8 s.fyvSrc, b8 dst, 0] ++ toLE 2 payload.length ++ toLE 2 (s.f SYS.CYCLE_STAT'L3_SEQ) ++ toLE 4 ns ++ toLE 4 0
  h ++ payload ++ toLE 4 (crc32c (h ++ payload))

/-- A frame leaves on a link that is UP; links 0-3 are FYV[0..3], 4 is the steady link. -/
def State.fyvSend (s : State) (link : Nat) (fr : List Byte) : State :=
  if s.domOn pdLINK ∧ s.b (FYV.LINK_STAT'UP link) then
    { s with fyv := { s.fyv with sent := s.fyv.sent.set (256 * link + leAt fr 0 1) fr } }
  else s

/-- Signed 32-bit words as bytes, and back. -/
def wordsLE (l : List Int) : List Byte := l.flatMap (fun x => toLE 4 (uN 32 x))
def wordsAt (l : List Byte) (o n : Nat) : List Int := (upto n).map (fun i => sxN 32 (leAt l (o + 4 * i) 4))

/-! ### The exchange of a round (R468-R470) -/

/-- The round window W in ns (R469). -/
def State.consW (s : State) : Nat := (s.cfg.solveDl - s.cfg.roughEnd) / (1000 * max 1 s.cfg.casc.rounds) * 1000

/-- E x: the X words of the shared unknowns in consensus-index order. -/
def State.consEx (s : State) : List Int := s.cfg.casc.shared.map (fun p => s.faceVec vX p.1)

/-- q0 + CONS_RHO × (u − z̄) into Q of every shared unknown (R469, step 5). -/
def State.consQ (s : State) : State :=
  have f := s.cfg.face
  s.each ((upto s.cfg.casc.shared.length).zip s.cfg.casc.shared) fun kp t =>
    have i := kp.2.1
    have eq := (f.expOf vQ).getD i 0
    have ex := (f.expOf vX).getD i 0
    have x := wordVal (s.fyv.consQ0.get kp.1) eq +
      paramVal s.cfg.casc.rho * (wordVal (s.fyv.consU.get kp.1) ex - wordVal (s.fyv.consZ.get kp.2.2) ex)
    t.setFaceVec vQ i (deliver eq x).1

/-- Before assembly the shared unknowns hold q0; after it q0 is what assembly left there, and Q follows (R468, R469). -/
def State.consAssemble (s : State) (asm : State → State) : State :=
  have sh := (upto s.cfg.casc.shared.length).zip s.cfg.casc.shared
  if s.cfg.casc.rounds = 0 then asm s
  else
    have t := asm (s.each sh fun kp t => t.setFaceVec vQ kp.2.1 (s.fyv.consQ0.get kp.1))
    have q := sh.foldl (fun m kp => m.set kp.1 (t.faceVec vQ kp.2.1)) t.fyv.consQ0
    { t with fyv := { t.fyv with consQ0 := q } }.consQ

/-- CONS_DOWN arrives, or the master has averaged: u and Q of the shared unknowns (R469, step 5). -/
def State.consApply (s : State) (z : Sparse Int) : State :=
  if s.fyv.consRound = 0 then s
  else
    have sh := (upto s.cfg.casc.shared.length).zip s.cfg.casc.shared
    have ex := s.consEx
    have u := sh.foldl (fun m kp => m.set kp.1 (satI 32 (s.fyv.consU.get kp.1 + ex.getD kp.1 0 - z.get kp.2.2))) s.fyv.consU
    have res := normInf (sh.map (fun kp => wordVal (ex.getD kp.1 0 - z.get kp.2.2) ((s.cfg.face.expOf vX).getD kp.2.1 0)))
    have t := { s with fyv := { s.fyv with consU := u, consZ := z, consRound := 0, consDone := s.fyv.consDone + 1 } }
    (t.wrN FYV.CONS_RES (toParam res)).consQ

/-- Job `r` of the L3 cycle has ended: E x goes to the master (R469, step 3). -/
def State.consJobEnd (s : State) (r b : Nat) : State :=
  have t := { s with fyv := { s.fyv with consRound := r, consB := b, consUp := ⟨[]⟩, consGot := [] } }
  if t.cfg.casc.pos = 0 then t
  else
    have fr := t.fyvFrame 0x10 0x08 0 (wordsLE t.consEx)
    (t.fyvSend 0 fr).fyvSend 1 fr

/-- The mean of each consensus index over the values received for it (R469, step 4). -/
def State.consMean (s : State) : Sparse Int :=
  have vals := ((s.cfg.casc.shared.map (·.2)).zip s.consEx) ++
    s.fyv.consGot.flatMap (fun p => (s.cfg.casc.maps.getD p []).zip (s.fyv.consUp.get p))
  ((vals.map (·.1)).eraseDups).foldl (fun m c =>
    have l := (vals.filter (fun v => v.1 == c)).map (·.2)
    m.set c (rdiv l.sum (max 1 l.length))) ⟨[]⟩

/-- The master averages and sends CONS_DOWN (R469, R470): at once when every CONS_UP has arrived, else at the latest
instant of step 4. -/
def State.consAverage (s : State) : State :=
  if !(s.domOn pdLINK && s.domOn pdFACE) ∨ s.cfg.casc.pos ≠ 0 ∨ s.fyv.consRound = 0 then s
  else
    have missed := s.cfg.casc.npos - 1 - s.fyv.consGot.length
    have t := if missed = 0 then s else s.advanceTo (s.fyv.consB + s.cfg.roughEnd + s.fyv.consRound * s.consW - us 20)
    have z := t.consMean
    have fr := t.fyvFrame 0x11 (8 + (t.cfg.casc.npos - 1)) 0 (wordsLE ((upto 2048).map (fun c => z.get c)))
    (((t.set FYV.CONS_STAT'MISSED missed).fyvSend 2 fr).fyvSend 3 fr).consApply z

/-- The master averages CONS_UP values and sends CONS_DOWN (R469). -/
def execConsensusAverage (s : State) : Host.Outcome State Fault Refusal := .next s.consAverage

/-- A job starts: an exchange still open is late and its values are dropped (R470). -/
def State.consJobStart (s : State) : State :=
  if s.fyv.consRound = 0 then s
  else { s with fyv := { s.fyv with consRound := 0 } }.set FYV.CONS_STAT'CONS_LATE 1

end Sys2Proof.Machine
end

