-- ==== Sys2Proof/Machine/Face.lean ====
section
/-!
DEFINITION. The Faceplate's jobs: assembly and native start, submissions, the compatibility feed, warm starts,
deadlines, results (spec/11_faceplate_operation.md, R256-R274; log entries 23 and 24).
-/
namespace Sys2Proof.Machine
open Sys2Proof

def State.setS (s : State) (j : SJob) : State := { s with face := { s.face with s := j } }
def State.setB_ (s : State) (j : BJob) : State := { s with face := { s.face with b := j } }
def State.setBq (s : State) (j : BJob) : State := { s with face := { s.face with bq := j } }

/-- FACE_STAT shows the jobs. -/
def State.faceShow (s : State) : State :=
  have j := s.face.s
  have t := (s.setB FACE.FACE_STAT'S_BUSY (j.st == 3)).setB FACE.FACE_STAT'B_BUSY (s.face.b.st == 3)
  (t.setB FACE.FACE_STAT'S_SUSP (j.st == 3 && j.susp)).setB FACE.FACE_STAT'DEFERRED (j.st == 2 || s.face.b.st == 2)

/-! ### Buffers -/

/-- `n` buffers from `b` exist and are owned by FACE. -/
def State.faceOwns (s : State) (b n : Nat) : Bool :=
  decide (b + n ≤ 2048) && (upto n).all (fun i => s.owner (b + i) == ownFACE)

/-- The buffers among `n` from `b` that FACE owns return to their previous owner. -/
def State.faceReturn (s : State) (b n : Nat) : State :=
  s.each (upto n) fun i t => t.iff (decide (b + i < 2048) && t.owner (b + i) == ownFACE) (·.returnBuf (b + i))

/-- A result set passes to its consumer; its header is readable from then on (R272). -/
def State.facePass (s : State) (b n consumer : Nat) : State :=
  s.each (upto n) fun i t => t.iff (t.owner (b + i) == ownFACE) (·.passBuf (b + i) consumer)

/-- A result set is written, `o` bytes into its first buffer (R272). -/
def State.faceWrite (s : State) (b o : Nat) (data : List Byte) : State :=
  s.each (upto ((o + data.length + 4095) / 4096)) fun i t =>
    if i = 0 then t.devWrite ownFACE b o (data.take (4096 - o))
    else t.devWrite ownFACE (b + i) 0 ((data.drop (4096 * i - o)).take 4096)

/-- Buffer `b` begins a result set. -/
def State.noteHdr (s : State) (b : Nat) : State :=
  if s.face.hdrs.contains b then s else { s with face := { s.face with hdrs := s.face.hdrs ++ [b] } }

/-- Buffers of a class S result set (R270). -/
def State.setBufs (s : State) : Nat := s.f FACE.FACE_SIZE'S_SET_BUFS

/-! ### The problem in memory -/

/-- The value memory as the passes read it. -/
def State.faceVals (s : State) : Nat → Int := fun i => s.faceVal i

/-- Vector and value memory as a solve's working state. -/
def State.loadSolve (s : State) : Solve :=
  { v := (upto 16).map (fun v => (upto (s.cfg.face.len v)).map (fun i => s.faceVec v i)), pre := s.face.pre,
    ovf := s.face.s.ovf, brk := 0, floorBlk := 0, np := 0, prods := [] }

/-- The solve's vectors kept in vector memory. -/
def State.storeSolve (s : State) (r : Solve) : State :=
  have t := s.each (upto 16) fun v t =>
    t.each ((upto (r.vec v).length).zip (r.vec v)) fun ix t => t.setFaceVec v ix.1 ix.2
  { t with face := { t.face with pre := r.pre } }

/-! ### Warm starts (R269) -/

def State.zeroStart (s : State) : State :=
  have f := s.cfg.face
  s.each [vX, vZ, vY] fun v t => t.each (upto (f.len v)) fun i t => t.setFaceVec v i 0

/-- X, Z and Y from a result set. -/
def State.readStart (s : State) (b : Nat) : State :=
  have f := s.cfg.face
  have a := smwAt b + 0x40
  have get := fun (v o : Nat) (t : State) => t.each (upto (f.len v)) fun i t => t.setFaceVec v i (sxN 32 (s.ldn (a + 4 * (o + i)) 4))
  get vY (f.n + f.m) (get vZ f.n (get vX 0 s))

/-- The starting iterate of the job. -/
def State.warmStart (s : State) : State :=
  have j := s.face.s
  match j.warm with
  | 0 => if s.face.prevOk then s else s.zeroStart.setS { j with wCold := true }
  | 1 =>
    have own := s.faceOwns j.warmBuf s.setBufs
    if own ∧ s.ldn (smwAt j.warmBuf + 0x24) 8 = s.cfg.face.hash then
      (s.readStart j.warmBuf).faceReturn j.warmBuf s.setBufs
    else
      ((s.zeroStart.setS { j with wCold := true, wRej := true }).set FACE.FACE_ERR'WARM_REJECT 1).iff own
        (·.faceReturn j.warmBuf s.setBufs)
  | _ => s.zeroStart.setS { j with wCold := true }

/-! ### Changed entries (R263) -/

/-- Row and column of value-memory word `i` of phase `ph`. -/
def FaceSched.placeOf (f : FaceSched) (ph i : Nat) (inSegs : List Nat) : Option (Nat × Nat) :=
  match f.tiles.find? (fun t => t.phase == ph && decide (t.base ≤ i ∧ i < t.base + t.cols.length)) with
  | some t => some (t.out, (segStarts 0 inSegs).getD t.seg 0 + t.cols.getD (i - t.base) 0)
  | none => none

/-- The phase 2 copy of an A entry: the transposition map. -/
def FaceSched.copyOf (f : FaceSched) (i : Nat) : Option Nat :=
  match f.placeOf 1 i f.segN with
  | none => none
  | some (r, c) =>
    have starts := segStarts 0 f.segM
    f.tiles.findSome? (fun t =>
      if t.phase = 2 ∧ t.out = c then
        ((upto t.cols.length).find? (fun k => starts.getD t.seg 0 + t.cols.getD k 0 == r)).map (t.base + ·)
      else none)

/-- The entries of the buffers after the descriptor, or none where a check fails. -/
def State.deltaEntries (s : State) : Option (List (Nat × Nat × Int)) :=
  have j := s.face.s
  have f := s.cfg.face
  have a := smwAt (j.buf + 1)
  have n := s.ldn a 4
  if j.nbuf = 0 ∨ 4096 * j.nbuf < 16 + 8 * n ∨ crc32c (s.bytes (a + 16) (8 * n)) ≠ s.ldn (a + 4) 4 then none
  else
    have es := (upto n).map (fun k =>
      have w := s.ldn (a + 16 + 8 * k) 4
      (w / 2 ^ 20, w % 2 ^ 20, sxN 32 (s.ldn (a + 20 + 8 * k) 4)))
    if es.all (fun e => match e.1 with
      | 0 => decide (e.2.1 < f.nnzP + f.nnzA)
      | 5 => decide (e.2.1 < f.n)
      | 6 => decide (e.2.1 < f.m)
      | 7 => decide (e.2.1 < f.m)
      | _ => false) then some es else none

/-- The changed entries applied in order; the answer says whether the checks passed. -/
def State.feed (s : State) : Bool × State :=
  have j := s.face.s
  if j.feed ≠ 1 then (true, s)
  else match s.deltaEntries with
  | none => (false, s)
  | some es => (true, s.each es fun e t =>
      if e.1 = 0 then
        have t := t.setFaceVal e.2.1 e.2.2
        match s.cfg.face.copyOf e.2.1 with
        | some c => if s.cfg.face.nnzP ≤ e.2.1 then t.setFaceVal c e.2.2 else t
        | none => t
      else t.setFaceVec e.1 e.2.1 e.2.2)

/-! ### Results (R270) -/

/-- The header of a class S result set. -/
def State.sHeader (s : State) (status seq iter resIter : Nat) (x : Resid) (r : Solve) : List Byte :=
  have j := s.face.s
  have fl := (if r.ovf then 256 else 0) + (if j.wRej then 512 else 0) + (if j.wCold then 1024 else 0) +
    (if j.late then 2048 else 0) + (if j.gap then 4096 else 0) + 2 ^ 15
  toLE 2 seq ++ toLE 2 (status + fl) ++ toLE 2 iter ++ toLE 2 resIter ++
    toLE 4 (toParam x.rp) ++ toLE 4 (toParam x.rd) ++ toLE 4 (toParam x.ep) ++ toLE 4 (toParam x.ed) ++
    toLE 2 r.brk ++ toLE 2 r.floorBlk ++ toLE 4 j.startNs ++ toLE 4 s.ns ++ toLE 8 s.cfg.face.hash ++
    toLE 2 (if j.ownSet then j.l3seq else 0) ++ List.replicate 18 0

/-- The descriptor and the changed entries go back to their owner. -/
def State.sInputsReturn (s : State) : State :=
  have j := s.face.s
  if j.ownSet ∨ j.buf = 4096 then s else (s.faceReturn j.buf (1 + j.nbuf)).setS { j with buf := 4096 }

/-- The next round's job, where this one was not the last (R469). -/
def State.nextRound (s : State) (j : SJob) : State :=
  if j.round = 0 ∨ s.cfg.casc.rounds ≤ j.round then s.setS default
  else s.setS { (default : SJob) with
    st := 1, ownSet := true, resBuf := j.resBuf, consumer := j.consumer, issNs := j.issNs, l3seq := j.l3seq,
    deadline := j.issNs + s.cfg.roughEnd + (j.round + 1) * s.consW - us 60, round := j.round + 1 }

/-- The class S job ends with `status`: result, counts, tokens, event (R266, R270, R272, R274). `payload`: the iterate is
written too. -/
def State.sEnd (s : State) (status iter resIter : Nat) (x : Resid) (r : Solve) (payload : Bool) : State :=
  have j := s.face.s
  have t := s.sInputsReturn
  have seq := (t.face.sSeq + 1) % 65536
  have t := { t with face := { t.face with sSeq := seq, prevOk := decide (status ≤ 2) } }
  have t := t.work 11 iter
  have t := t.each r.prods fun p t => t.hist 6 p
  have t := if j.st = 2 then t.ledgerCancel 1 0 else if j.st = 3 then t.ledgerRelease 1 0 else t
  if status ≤ 4 ∧ 0 < j.round ∧ j.round < t.cfg.casc.rounds then
    ((t.consJobEnd j.round j.issNs).nextRound j).faceShow
  else
    have hd := t.sHeader status seq iter resIter x r
    have t := t.iff payload (fun t => t.faceWrite j.resBuf 0x40
      (wordsLE (r.vec vX) ++ wordsLE (r.vec vZ) ++ wordsLE (r.vec vY)))
    have t := (t.faceWrite j.resBuf 0 hd).noteHdr j.resBuf
    have t := t.facePass j.resBuf t.setBufs j.consumer
    have t := (t.set FACE.FACE_STAT'S_SEQ seq).wrN FACE.S_LAST (65536 * iter + leAt hd 2 2)
    have t := if payload then (t.hist 4 iter).hist 5 (t.ns - j.startNs) else t
    have t := t.iff (decide (status ≤ 4 ∧ 0 < j.round)) (·.consJobEnd j.round j.issNs)
    ((t.setS default).raise 72).faceShow

def noResid : Resid := ⟨0, 0, 0, 0⟩

/-- The job ends without an iteration at a deadline: the starting iterate with its residuals (R267), or, where the job
never got its tokens, the iterate alone. -/
def State.sNoIter (s : State) : State :=
  have f := s.cfg.face
  have w := s.face.s.weights
  have r := s.loadSolve
  have e := r.finish f w s.faceVals
  ((s.storeSolve e.2).sat FACE.FACE_CNT'DEADLINE_CNT).sEnd 3 0 0 e.1 e.2 true

/-- The run of a class S job begins (R233, R236, R263, R269): weights latched, starting iterate, changed entries,
preconditioner. It waits for a batch that runs alone. -/
def State.sRun (s : State) : State :=
  have j := s.face.s
  have t := s.setS { j with st := 3, startNs := s.ns, weights := s.cfg.weights, susp := s.face.b.st == 3 }
  have t := t.warmStart
  have fd := t.feed
  have t := fd.2.sInputsReturn
  if fd.1 then t.faceShow
  else (t.set FACE.FACE_ERR'FEED_ERROR 1).sEnd 4 0 0 noResid { t.loadSolve with ovf := false } false

/-- A class S job starts (R256, R267, R274): at once with DEADLINE_NO_ITER past its deadline; else with its tokens, or
deferred. -/
def State.sStart (s : State) : State :=
  have j := s.face.s
  have t := (s.iff (decide (0 < j.round)) (·.consJobStart)).setS
    { j with due := false, gap := j.ownSet && s.rough.gap, ovf := j.ownSet && s.face.asmOvf }
  if j.deadline ≤ t.ns then
    have t := t.setS { t.face.s with startNs := t.ns, weights := t.cfg.weights }
    t.warmStart.sNoIter
  else
    have q := t.ledgerRequest 1 0 (t.f FACE.FACE_TOKENS'S_TOKENS)
    if q.1 then q.2.sRun else (q.2.setS { q.2.face.s with st := 2 }).faceShow

/-! ### Native jobs (R256, R259, R273, R469) -/

/-- The automatic job of an L3 boundary is issued or skipped. -/
def State.faceIssue (s : State) : State :=
  if !(s.domOn pdFACE && s.b FACE.FACE_CTRL'S_AUTO && s.imgValid && modeDrives s.mode) ∨ s.cfg.face.n = 0 then s
  else
    have buf := s.f FACE.S_RES_BASE'BASE + s.face.ring * s.setBufs
    have rounds := s.cfg.casc.rounds
    if s.face.s.st ≠ 0 ∨ !s.faceOwns buf s.setBufs then s.sat FACE.FACE_CNT'SKIP_CNT
    else
      have dl := if rounds = 0 then s.cfg.solveDl else s.cfg.roughEnd + s.consW - us 60
      have t := s.setS { (default : SJob) with
        st := 1, ownSet := true, resBuf := buf, consumer := s.f FACE.FACE_CTRL'S_CONSUMER, deadline := s.ns + dl,
        issNs := s.ns, l3seq := s.f SYS.CYCLE_STAT'L3_SEQ, buf := 4096, round := if rounds = 0 then 0 else 1 }
      { t with face := { t.face with ring := (s.face.ring + 1) % (s.f FACE.FACE_CTRL'S_RES_N_M1 + 1) } }

/-- At ROUGH_END the class S solve starts, or waits for its assembly (R256). -/
def State.solveStart (s : State) : State :=
  have j := s.face.s
  if !s.domOn pdFACE ∨ j.st ≠ 1 ∨ !j.ownSet ∨ 1 < j.round then s
  else
    have t := s.advanceTo (j.issNs + s.cfg.roughEnd)
    if t.rough.asmDone then t.sStart else t.setS { j with due := true }

/-- At ROUGH_END the class S solve starts (R256). -/
def execSolveStart (s : State) : Host.Outcome State Fault Refusal := .next s.solveStart

/-- A consensus round's job starts at its window instant (R469, R470). -/
def State.consRoundStart (s : State) : State :=
  have j := s.face.s
  if !s.domOn pdFACE ∨ j.st ≠ 1 ∨ j.round = 0 then s
  else
    have t := s.advanceTo (j.issNs + s.cfg.roughEnd + (j.round - 1) * s.consW)
    if t.rough.asmDone then t.sStart else t.setS { j with due := true }

/-- A consensus round's job starts (R469). -/
def execConsensusRoundStart (s : State) : Host.Outcome State Fault Refusal := .next s.consRoundStart

/-- Assembly completes; a solve that waits for it starts late (R256, R257). -/
def State.assemblyDone (s : State) : State :=
  if !(s.domOn pdROUGH && s.domOn pdFACE) ∨ s.rough.st ≠ 2 then s
  else
    have t := s.consAssemble (·.assemble)
    if t.face.s.st = 1 ∧ t.face.s.due then
      ((t.setS { t.face.s with late := true }).set FACE.FACE_ERR'ROUGH_LATE 1).sStart
    else t

/-- Assembly of the class S problem completes (R256). -/
def execAssemblyDone (s : State) : Host.Outcome State Fault Refusal := .next s.assemblyDone

/-! ### The end of a class S job (R264-R267) -/

/-- The job runs to convergence or ADMM_MAX. -/
def State.sJobEnd (s : State) : State :=
  have j := s.face.s
  if !s.domOn pdFACE ∨ j.st ≠ 3 ∨ j.susp then s
  else
    have f := s.cfg.face
    have r := s.loadSolve.begin_ f j.weights s.faceVals
    have e := Solve.run f j.weights s.faceVals j.weights.admmMax 0 (noResid, 0) r
    (s.storeSolve e.2.2.2).sEnd (if e.2.2.1 then 0 else 1) e.1 e.2.1.2 e.2.1.1 e.2.2.2 true

/-- The class S job ends by convergence or iteration cap (R266). -/
def execClassSJobEnd (s : State) : Host.Outcome State Fault Refusal := .next s.sJobEnd

/-- The deadline's end of a running job after `iter` complete iterations; a job that converged earlier has ended as
CLASS_S_JOB_END has it. The status is the first of R266 that applies: OK where the test at the deadline converges. -/
def State.sFinish (s : State) (iter : Nat) : State :=
  have j := s.face.s
  have f := s.cfg.face
  have r := s.loadSolve.begin_ f j.weights s.faceVals
  have e := Solve.run f j.weights s.faceVals (min iter j.weights.admmMax) 0 (noResid, 0) r
  if e.2.2.1 ∨ j.weights.admmMax ≤ e.1 then
    (s.storeSolve e.2.2.2).sEnd (if e.2.2.1 then 0 else 1) e.1 e.2.1.2 e.2.1.1 e.2.2.2 true
  else
    have x := e.2.2.2.finish f j.weights s.faceVals
    ((s.storeSolve x.2).sat FACE.FACE_CNT'DEADLINE_CNT).sEnd (if x.1.ok then 0 else if e.1 = 0 then 3 else 2) e.1 e.1 x.1 x.2 true

/-- The deadline passes while the tokens are still deferred (R274). -/
def State.sDeferMiss (s : State) : State :=
  have t := ((s.sat FACE.FACE_CNT'DEFER_CNT).set FACE.FACE_ERR'DEADLINE_MISS 1).raise 74
  have t := t.setS { t.face.s with startNs := t.ns, weights := t.cfg.weights }
  t.warmStart.sNoIter

/-- A class S deadline passes (R267, R274); one that passes while the job waits for its assembly ends the job with the
starting iterate (log entry 24). -/
def State.sDeadline (s : State) (iter : Nat) : State :=
  have j := s.face.s
  if !s.domOn pdFACE ∨ j.st = 0 then s
  else
    have t := s.advanceTo j.deadline
    match j.st with
    | 1 => if j.due then
        ((t.setS { t.face.s with startNs := t.ns, weights := t.cfg.weights, late := true }).set FACE.FACE_ERR'ROUGH_LATE 1).warmStart.sNoIter
      else s
    | 2 => t.sDeferMiss
    | _ => if j.susp then t.setS { j with deadIter := iter + 1 } else t.sFinish iter

/-- A class S deadline passes (R267). -/
def execSDeadline (iter : Nat) (s : State) : Host.Outcome State Fault Refusal := .next (s.sDeadline iter)

/-- Class S resumes after a batch; a deadline that passed meanwhile takes effect (R242, R267). -/
def State.sResume (s : State) : State :=
  have j := s.face.s
  if j.st = 3 ∧ j.susp then
    have t := s.setS { j with susp := false, deadIter := 0 }
    if j.deadIter = 0 then t else t.sFinish (j.deadIter - 1)
  else s

/-- A job that still runs after `iter` complete iterations: the iterations done (fewer where it would have ended before), the
last test, the working state. -/
def State.sPartial (s : State) (iter : Nat) : Nat × (Resid × Nat) × Solve :=
  have j := s.face.s
  have f := s.cfg.face
  have r := s.loadSolve.begin_ f j.weights s.faceVals
  have go := fun n => Solve.run f j.weights s.faceVals n 0 (noResid, 0) r
  have e := go (min iter (j.weights.admmMax - 1))
  have e := if e.2.2.1 then go (e.1 - 1) else e
  (e.1, e.2.1, e.2.2.2)

/-- The class S job ends with ABORTED: its header alone is written, with what the iterations completed so far gave (R262,
R270). -/
def State.abortS (s : State) (iter : Nat) : State :=
  if s.face.s.st = 0 then s
  else if s.face.s.st = 3 then
    have e := s.sPartial iter
    (s.storeSolve e.2.2).sEnd 5 e.1 e.2.1.2 e.2.1.1 e.2.2 false
  else s.sEnd 5 0 0 noResid { s.loadSolve with prods := [] } false

/-- The job is aborted by what does not state how far it is: the iterations completed are a free value (R262). -/
def State.abortSFree (s : State) : State :=
  if s.face.s.st = 3 then
    have r := s.fresh 12
    r.2.abortS r.1
  else s.abortS 0

/-! ### Class B (R261, R268, R271) -/

/-- The batch memory of a batch: the input words of each slot. -/
def State.bInput (s : State) (buf : Nat) : List (List Int) :=
  ((s.cfg.face.slots.zip (inOffsets s.cfg.face))).map (fun so =>
    (upto so.1.inWords).map (fun i => sxN 32 (s.ldn (smwAt buf + so.2 + 4 * i) 4)))

/-- The batch begins: input copied and its buffers returned; class S is suspended (R242, R261). -/
def State.bRun (s : State) : State :=
  have b := s.face.b
  have t := s.setB_ { b with st := 3, startNs := s.ns, input := s.bInput b.buf }
  have t := t.faceReturn b.buf (t.f FACE.FACE_SIZE'B_IN_BUFS)
  have t := if t.face.s.st = 3 then t.setS { t.face.s with susp := true } else t
  t.faceShow

/-- A ready batch starts: under the class S reservation, with tokens of its own, or deferred (R242, R274). -/
def State.bStart (s : State) : State :=
  have b := s.face.b
  if !s.domOn pdFACE ∨ b.st ≠ 1 then s
  else if s.face.s.st = 3 then s.bRun
  else
    have q := s.ledgerRequest 2 0 (s.f FACE.FACE_TOKENS'B_TOKENS)
    if q.1 then (q.2.setB_ { q.2.face.b with own := true }).bRun else (q.2.setB_ { q.2.face.b with st := 2 }).faceShow

/-- A ready batch starts (R242). -/
def execBatchStart (s : State) : Host.Outcome State Fault Refusal := .next s.bStart

/-- The batch that waited takes the place of the one that ended. -/
def State.bNext (s : State) : State :=
  (({ s with face := { s.face with b := s.face.bq, bq := default } }).sResume).faceShow

/-- The batch's result set (R271): header code, slots finished. The status word of a slot that is NOT_DONE keeps the SEQ
of the batch that wrote its data. -/
def State.bEnd (s : State) (code : Nat) (done : Nat → Bool) : State :=
  have b := s.face.b
  have f := s.cfg.face
  have base := s.f FACE.B_RES_CFG'B_RES_BASE
  have seq := (s.face.bSeq + 1) % 65536
  have n := f.slots.length
  have nd := ((upto n).filter (fun k => !done k)).length
  have t := { s with face := { s.face with bSeq := seq } }
  have t := t.each ((upto n).zip (f.slots.zip (outOffsets f))) fun kso t =>
    have o := kso.2.2
    if done kso.1 then
      have r := solveB f kso.2.1 (b.input.getD kso.1 [])
      have oc := (if r.ovf then 2 else 0) + (if r.floored then 1 else 0)
      t.faceWrite (base + o / 4096) (o % 4096) (toLE 4 (65536 * seq + 256 * oc) ++ wordsLE r.words)
    else t.faceWrite (base + o / 4096) (o % 4096) (toLE 2 1)
  have t := (t.faceWrite base 0 (toLE 2 seq ++ toLE 2 (code + 2 ^ 15) ++ toLE 2 nd ++ toLE 2 0 ++ toLE 4 t.ns ++ toLE 4 0)).noteHdr base
  have t := t.facePass base (t.f FACE.FACE_SIZE'B_OUT_BUFS) b.consumer
  have t := (t.wrN FACE.B_LAST (65536 * seq + nd)).work 11 (n - nd)
  have t := if b.st = 3 then t.hist 7 (t.ns - b.startNs) else t
  have t := if b.st = 2 then t.ledgerCancel 2 0 else if b.own then t.ledgerRelease 2 0 else t
  ((t.setB_ default).raise 73).bNext

/-- The batch completes (R271). -/
def State.bDone (s : State) : State :=
  if !s.domOn pdFACE ∨ s.face.b.st ≠ 3 then s else s.bEnd 0 (fun _ => true)

/-- A batch completes and its result set passes to CONSUMER (R271). -/
def execBatchEnd (s : State) : Host.Outcome State Fault Refusal := .next s.bDone

/-- The slots of `done` that can have finished: slots go to 16 lane groups in slot order, so that at most 15 slots before a
finished one are unfinished (R242). -/
def dealt (done : Nat → Bool) (k : Nat) : Bool := done k && decide (((upto k).filter (fun j => !done j)).length ≤ 15)

/-- A class B deadline passes, of the batch at the front or of the one behind it (R268, R274). -/
def State.bDeadline (s : State) (queued : Bool) (done : BitVec 256) : State :=
  if !s.domOn pdFACE then s
  else if queued then
    have q := s.face.bq
    if q.st = 0 then s
    else
      have front := s.face.b
      have t := s.advanceTo q.deadline
      have t := t.faceReturn q.buf (t.f FACE.FACE_SIZE'B_IN_BUFS)
      have t := ((t.setB_ q).setBq default).sat FACE.FACE_CNT'DEADLINE_CNT
      have t := { t with face := { t.face with b := q, bq := front, s := { t.face.s with susp := false } } }
      have t := t.bEnd 1 (fun _ => false)
      { t with face := { t.face with s := { t.face.s with susp := s.face.s.susp } } }.faceShow
  else
    have b := s.face.b
    if b.st = 0 then s
    else
      have t := s.advanceTo b.deadline
      have t := if b.st = 3 then t else t.faceReturn b.buf (t.f FACE.FACE_SIZE'B_IN_BUFS)
      have t := if b.st = 2 then ((t.sat FACE.FACE_CNT'DEFER_CNT).set FACE.FACE_ERR'DEADLINE_MISS 1).raise 74 else t
      have t := t.sat FACE.FACE_CNT'DEADLINE_CNT
      t.bEnd 1 (fun k => b.st == 3 && dealt (fun j => bit done.toNat j) k)

/-- A class B deadline marks unfinished problems NOT_DONE (R268). -/
def execBDeadline (queued : Bool) (done : BitVec 256) (s : State) : Host.Outcome State Fault Refusal :=
  .next (s.bDeadline queued done)

/-- The batch at the front ends with ABORTED; the one behind it takes its place. -/
def State.abortFront (s : State) : State :=
  have b := s.face.b
  if b.st = 0 then s
  else (if b.st = 3 then s else s.faceReturn b.buf (s.f FACE.FACE_SIZE'B_IN_BUFS)).bEnd 5 (fun _ => false)

/-- Running and pending batches end with ABORTED (R262). -/
def State.abortB (s : State) : State := s.abortFront.abortFront

/-- Every Faceplate job ends with ABORTED (R262, R533). -/
def State.faceAbortAll (s : State) : State := if !s.domOn pdFACE then s else s.abortSFree.abortB

/-! ### Submissions (R260-R262) -/

def State.submitResult (s : State) (r : Nat) : State :=
  have t := s.set FACE.FACE_STAT'SUBMIT_RESULT r
  if r = 0 then t else t.refusal 11

/-- A deadline in NS32 as an instant (R434). -/
def State.nsOf (s : State) (d : Nat) : Nat := (((s.ns : Nat) : Int) + ns32Diff d s.ns32).toNat

/-- FACE_CMD.S_SUBMIT (R260, R262). -/
def State.sSubmit (s : State) (buf : Nat) : State :=
  have a := smwAt buf
  have g := fun o n => s.ldn (a + o) n
  have own := s.faceOwns buf 1
  have nbuf := if own then g 3 1 else 0
  have warm := g 2 1
  have wb := g 8 2
  have rb := g 10 2
  have con := g 12 1
  have all := own && s.faceOwns buf (1 + nbuf) && (warm != 1 || s.faceOwns wb s.setBufs)
  have fmt := g 0 1 == 0x53 && (g 1 1 == 1 || g 1 1 == 2) && decide (warm ≤ 2) && decide (con ≤ 16) && g 13 19 == 0
  have code :=
    if s.face.s.st ≠ 0 then 1 else if s.b FACE.FACE_CTRL'S_AUTO then 2 else if !all then 3 else if !fmt then 4
    else if !(s.imgValid && modeDrives s.mode) then 5 else if s.cfg.face.n = 0 then 6
    else if !s.faceOwns rb s.setBufs then 7 else 0
  if code ≠ 0 then
    have t := s.faceReturn buf (1 + nbuf)
    (t.iff (own && warm == 1) (·.faceReturn wb s.setBufs)).submitResult code
  else
    (s.setS { (default : SJob) with
      st := 1, ownSet := false, feed := g 1 1, warm := warm, buf := buf, nbuf := nbuf, warmBuf := wb, resBuf := rb,
      consumer := con, deadline := s.nsOf (g 4 4), issNs := s.ns }).sStart.submitResult 0

/-- FACE_CMD.B_SUBMIT (R261, R262). -/
def State.bSubmit (s : State) (buf : Nat) : State :=
  have a := smwAt buf
  have g := fun o n => s.ldn (a + o) n
  have n := s.f FACE.FACE_SIZE'B_IN_BUFS
  have own := s.faceOwns buf (max 1 n)
  have fmt := g 0 1 == 0x42 && g 1 3 == 0 && decide (g 8 1 ≤ 16) && g 9 23 == 0
  have code :=
    if s.face.bq.st ≠ 0 ∨ s.face.b.st = 1 ∨ s.face.b.st = 2 then 1 else if !own then 3 else if !fmt then 4
    else if !(s.imgValid && modeDrives s.mode) then 5 else if s.cfg.face.slots.length = 0 then 6
    else if !s.faceOwns (s.f FACE.B_RES_CFG'B_RES_BASE) (s.f FACE.FACE_SIZE'B_OUT_BUFS) then 7 else 0
  if code ≠ 0 then (s.faceReturn buf (max 1 n)).submitResult code
  else
    have j : BJob := { (default : BJob) with st := 1, buf := buf, consumer := g 8 1, deadline := s.nsOf (g 4 4) }
    (if s.face.b.st = 0 then s.setB_ j else s.setBq j).submitResult 0

/-- FACE_CMD.S_SUBMIT submits a class S job (R260). -/
def execSSubmit (w : Req) (buf : Fin 2048) (s : State) : Host.Outcome State Fault Refusal :=
  .next (s.regCmd w FACE.FACE_CMD (·.sSubmit buf))

/-- FACE_CMD.B_SUBMIT submits a batch (R261). -/
def execBSubmit (w : Req) (buf : Fin 2048) (s : State) : Host.Outcome State Fault Refusal :=
  .next (s.regCmd w FACE.FACE_CMD (·.bSubmit buf))

/-- FACE_CMD.ABORT_S ends the class S job (R262). -/
def execAbortS (w : Req) (iter : Nat) (s : State) : Host.Outcome State Fault Refusal :=
  .next (s.regCmd w FACE.FACE_CMD (·.abortS iter))

/-- FACE_CMD.ABORT_B ends running and pending batches (R262). -/
def execAbortB (w : Req) (s : State) : Host.Outcome State Fault Refusal := .next (s.regCmd w FACE.FACE_CMD (·.abortB))

/-- A write of FACE_CMD: every command bit that is set (log entry 24). -/
def State.faceCmdWrite (s : State) (v : Word) : State :=
  have t := s.iff (bit v.toNat 29) (·.abortSFree)
  have t := t.iff (bit v.toNat 28) (·.abortB)
  have t := t.iff (bit v.toNat 31) (·.sSubmit (bitsOf v 10 0))
  t.iff (bit v.toNat 30) (·.bSubmit (bitsOf v 10 0))

/-- The ledger grants tokens to a Faceplate job (R274). -/
def State.faceGranted (s : State) (cls : Nat) : State :=
  if cls = 1 ∧ s.face.s.st = 2 then s.sRun
  else if cls = 2 ∧ s.face.b.st = 2 then (s.setB_ { s.face.b with own := true }).bRun
  else s

end Sys2Proof.Machine
end

