-- ==== Sys2Proof/Machine/Flags.lean ====
section
/-!
DEFINITION. The flags of a gouge core's status register SR and their computation (spec/12_gouge_cores.md, R279, R291,
R292, R294, R299, R301).
-/
namespace Sys2Proof.Machine
open Sys2Proof

def srZ : Nat := 0
def srN : Nat := 1
def srC : Nat := 2
def srV : Nat := 3
def srU : Nat := 4
def srSAT : Nat := 5
def srIE : Nat := 8
def srPRIV : Nat := 9

/-- SR with bit `b` set to `v`. -/
def srPut (sr : Word) (b : Nat) (v : Bool) : Word := w32 (setBit sr.toNat b v)

/-- A bit of SR. -/
def srGet (sr : Word) (b : Nat) : Bool := bit sr.toNat b

/-- What a write of SR leaves: reserved bits read 0. -/
def srMask (v : Word) : Word := v &&& 0x33F

/-- SAT is set by a saturation and never cleared by one (R279). -/
def srSat (sr : Word) (o : Bool) : Word := if o then srPut sr srSAT true else sr

/-- Z and N of a g-register result (R294). -/
def srZN (sr : Word) (r : Word) : Word := srPut (srPut sr srZ (r == 0)) srN r.msb

/-- Flags of a sum (R299): carry out of bit 31, signed overflow; Z and N of the result `r`. -/
def flagsAdd (sr a b r : Word) : Word :=
  srPut (srPut (srZN sr r) srC (decide (2 ^ 32 ≤ a.toNat + b.toNat))) srV
    (decide (a.toInt + b.toInt ≠ (a + b).toInt))

/-- Flags of a difference: whether C is a borrow or its complement is not stated (log entry 27). -/
def flagsSub (sr a b r : Word) : Word :=
  srPut (srPut (srZN sr r) srC (decide (a.toNat < b.toNat) == Config.subCarryIsBorrow)) srV
    (decide (a.toInt - b.toInt ≠ (a - b).toInt))

/-- Flags of an accumulator result (R294): Z, N and U from the 72 bits, V on saturation. -/
def flagsAcc (sr : Word) (r : Int) (sat : Bool) : Word :=
  have s := srPut (srPut sr srZ (decide (r = 0))) srN (decide (r < 0))
  have s := srPut s srU (decide (r < -(2 ^ 63) ∨ 2 ^ 63 ≤ r))
  srSat (srPut s srV sat) sat

/-- The conditions of R301; codes 0x0D and above are reserved. -/
def condHolds (sr : Word) (c : Nat) : Bool :=
  have z := srGet sr srZ
  have n := srGet sr srN
  have v := srGet sr srV
  match c with
  | 0 => true
  | 1 => z
  | 2 => !z
  | 3 => n != v
  | 4 => n == v
  | 5 => !z && n == v
  | 6 => z || n != v
  | 7 => srGet sr srC
  | 8 => !srGet sr srC
  | 9 => v
  | 10 => !v
  | 11 => srGet sr srU
  | 12 => !srGet sr srU
  | _ => false

end Sys2Proof.Machine
end

