-- ==== Sys2Proof/Machine/Operands.lean ====
section
/-!
DEFINITION. Operand forms of the gouge cores: instruction fields, registers under rotation, pointers and their
modification (spec/12_gouge_cores.md, R279, R281-R285, R289, R296-R302).
-/
namespace Sys2Proof.Machine
open Sys2Proof

/-! ### Instructions (R296-R302) -/

/-- A parallel move (R297). -/
structure CMove where
  store : Bool
  reg : Nat                    -- logical g register
  ptr : Nat                    -- i0-i7
  md : Nat
  deriving DecidableEq, Repr, Inhabited

/-- An arithmetic operation with its moves: the A1 code, destination, sources as register numbers, the SB field. -/
structure CArith where
  op : Nat
  d : Nat
  a : Nat
  b : Nat
  x : Option CMove
  y : Option CMove
  deriving DecidableEq, Repr, Inhabited

/-- A decoded instruction of a gouge core. -/
inductive CIns
  | arith (c : CArith)
  | ldi (rn sub : Nat) (imm : Nat)
  | ldih (rn sub : Nat) (imm : Nat)
  | movc (rn sub srn ssub : Nat)
  | ldx (g : Nat) (store : Bool) (ptr : Nat) (y : Bool) (disp : Int)
  | ldp (g ptr md : Nat)
  | bra (cond target : Nat)
  | call (cond target : Nat)
  | rts
  | rti
  | loopi (rot : Bool) (skip len count : Nat)
  | loopg (rot : Bool) (skip len g : Nat)
  | jmpr (g : Nat)
  | trap (code : Nat)
  | lexit
  | bxv (g ptr : Nat) (y : Bool) (md count : Nat)
  | wait
  | halt
  | sync
  | nopB
  deriving DecidableEq, Repr

/-- Bits `hi:lo` of an instruction word. -/
def insBits (w hi lo : Nat) : Nat := w / 2 ^ lo % 2 ^ (hi + 1 - lo)

/-- An X move field; 0 is no move. -/
def xMoveOf (f : Nat) : Option CMove :=
  if f = 0 then none
  else some { store := bit f 7, reg := 16 + insBits f 6 4, ptr := insBits f 3 2, md := insBits f 1 0 }

/-- A Y move field. -/
def yMoveOf (f : Nat) : Option CMove :=
  if f = 0 then none
  else some { store := bit f 7, reg := 24 + insBits f 6 4, ptr := 4 + insBits f 3 2, md := insBits f 1 0 }

/-- Operations whose destination is an accumulator. -/
def accOp (op : Nat) : Bool := decide (1 ≤ op ∧ op ≤ 0xE) || decide (0x28 ≤ op ∧ op ≤ 0x2B)

/-- EXT, EXTI and EXTD: SA names an accumulator, and its upper bits must be 0 (R298). -/
def accSource (op : Nat) : Bool := decide (0x24 ≤ op ∧ op ≤ 0x26)

/-- The A1 codes of R299. -/
def a1Code (op : Nat) : Bool := decide (op ≤ 0xE) || decide (0x10 ≤ op ∧ op ≤ 0x2B)

/-- A register number and SUB that R279 gives a register. -/
def rnValid (rn sub : Nat) : Bool :=
  decide (rn < 0x38) || (decide (rn < 0x3C) && decide (sub ≤ 2)) || (rn == 0x3C && decide (sub ≤ 8))

/-- Class A0 (R297). -/
def decA0 (w : Nat) : Option CIns :=
  have op := insBits w 28 25
  have k := if bit w 24 then 16 else 0
  if op = 0xF then none
  else some (.arith { op := op, d := insBits w 23 22, a := k + insBits w 21 19, b := k + 8 + insBits w 18 16,
                      x := xMoveOf (insBits w 15 8), y := yMoveOf (insBits w 7 0) })

/-- Class A1 (R298). -/
def decA1 (w : Nat) : Option CIns :=
  have op := insBits w 28 23
  have d := insBits w 22 18
  have a := insBits w 17 13
  if !a1Code op ∨ accOp op ∧ 4 ≤ d ∨ accSource op ∧ 4 ≤ a then none
  else some (.arith { op := op, d := d, a := a, b := insBits w 12 8, x := xMoveOf (insBits w 7 0), y := none })

/-- Class L (R300). -/
def decL (w : Nat) : Option CIns :=
  have rn := insBits w 25 20
  have sub := insBits w 19 16
  have imm := insBits w 15 0
  match insBits w 28 26 with
  | 0 => if rnValid rn sub then some (.ldi rn sub imm) else none
  | 1 => if rnValid rn sub then some (.ldih rn sub imm) else none
  | 2 =>
    have srn := insBits w 5 0
    have ssub := insBits w 11 8
    if rnValid rn sub ∧ rnValid srn ssub ∧ insBits w 15 12 = 0 ∧ insBits w 7 6 = 0 then some (.movc rn sub srn ssub) else none
  | 3 => if rn < 32 then some (.ldx rn (bit w 19) (insBits w 18 16) (bit w 15) (sxN 15 imm)) else none
  | 4 => if rn < 32 ∧ bit w 19 = false ∧ insBits w 13 0 = 0 then some (.ldp rn (insBits w 18 16) (insBits w 15 14)) else none
  | _ => none

/-- Class C (R301). -/
def decC (w : Nat) : Option CIns :=
  match insBits w 28 25 with
  | 0 => if insBits w 19 14 = 0 ∧ insBits w 24 20 ≤ 0xC then some (.bra (insBits w 24 20) (insBits w 13 0)) else none
  | 1 => if insBits w 19 14 = 0 ∧ insBits w 24 20 ≤ 0xC then some (.call (insBits w 24 20) (insBits w 13 0)) else none
  | 2 => if insBits w 24 0 = 0 then some .rts else none
  | 3 => if insBits w 24 0 = 0 then some .rti else none
  | 4 => some (.loopi (bit w 24) (insBits w 23 21) (insBits w 20 14 + 1) (insBits w 13 0))
  | 5 => if insBits w 8 0 = 0 then some (.loopg (bit w 24) (insBits w 23 21) (insBits w 20 14 + 1) (insBits w 13 9)) else none
  | 6 => if insBits w 19 0 = 0 then some (.jmpr (insBits w 24 20)) else none
  | 7 => if insBits w 24 8 = 0 then some (.trap (insBits w 7 0)) else none
  | 8 => if insBits w 24 0 = 0 then some .lexit else none
  | _ => none

/-- Class B (R302). -/
def decB (w : Nat) : Option CIns :=
  match insBits w 28 25 with
  | 0 =>
    have n := insBits w 10 0
    if insBits w 13 11 = 0 ∧ 1 ≤ n ∧ n ≤ 1024 then
      some (.bxv (insBits w 24 20) (insBits w 19 17) (bit w 16) (insBits w 15 14) n) else none
  | 1 => if insBits w 24 0 = 0 then some .wait else none
  | 2 => if insBits w 24 0 = 0 then some .halt else none
  | 3 => if insBits w 24 0 = 0 then some .sync else none
  | 4 => if insBits w 24 0 = 0 then some .nopB else none
  | _ => none

/-- The instruction of a word; none is an illegal instruction (R296). -/
def decodeCore (w : Nat) : Option CIns :=
  match insBits w 31 29 with
  | 0 => decA0 w
  | 1 => decA1 w
  | 2 => decL w
  | 3 => decC w
  | 4 => decB w
  | _ => none

/-! ### Registers (R279, R289) -/

/-- The physical register of a logical g register (R289). -/
def physG (rb n : Nat) : Nat := if n < 16 then n else 16 + (n - 16 + rb) % 16

/-- A g register under rotation base `rb`. -/
def GCore.rg (c : GCore) (rb n : Nat) : Word := c.g.get (physG rb n)

/-- A g register written. -/
def GCore.wg (c : GCore) (rb n : Nat) (v : Word) : GCore := { c with g := c.g.set (physG rb n) v }

/-- An accumulator. -/
def GCore.ra (c : GCore) (n : Nat) : Int := c.acc.get n

/-- An accumulator written, modulo 2^72. -/
def GCore.wa (c : GCore) (n : Nat) (v : Int) : GCore := { c with acc := c.acc.set n (sxN 72 (uN 72 v)) }

/-- LCNT, LTOP or LBOT (`k` = 0, 1, 2). -/
def GCore.loopReg (c : GCore) (k : Nat) : Nat :=
  match c.loops with
  | l :: _ => (match k with | 0 => l.cnt | 1 => l.top | _ => l.bot)
  | [] => c.idle.getD k 0

/-- LCNT, LTOP or LBOT written. -/
def GCore.setLoopReg (c : GCore) (k v : Nat) : GCore :=
  match c.loops with
  | l :: t => { c with loops := (match k with | 0 => { l with cnt := v } | 1 => { l with top := v } | _ => { l with bot := v }) :: t }
  | [] => { c with idle := (upto 3).map (fun j => if j = k then v else c.idle.getD j 0) }

/-- A register by RN and SUB; `ipend` is the level of the interrupt lines. -/
def GCore.readRN (c : GCore) (rb : Nat) (ipend : Nat) (rn sub : Nat) : Word :=
  if rn < 0x20 then c.rg rb rn
  else if rn < 0x28 then c.i.get (rn - 0x20)
  else if rn < 0x30 then c.m.get (rn - 0x28)
  else if rn < 0x38 then c.am.get (rn - 0x30) &&& 0xC000FFFF
  else if rn < 0x3C then
    have a := uN 72 (c.ra (rn - 0x38))
    (match sub with | 0 => w32 a | 1 => w32 (a / 2 ^ 32) | _ => BitVec.ofInt 32 (sxN 8 (a / 2 ^ 64)))
  else match sub with
    | 0 => c.sr
    | 1 => w32 rb
    | 5 => c.imask
    | 6 => w32 ipend
    | 7 => c.exc
    | 8 => c.epc
    | k => w32 (c.loopReg (k - 2))

/-- A register written by RN and SUB; RB is written by the caller; IPEND is read-only. -/
def GCore.writeRN (c : GCore) (rb : Nat) (rn sub : Nat) (v : Word) : GCore :=
  if rn < 0x20 then c.wg rb rn v
  else if rn < 0x28 then { c with i := c.i.set (rn - 0x20) v }
  else if rn < 0x30 then { c with m := c.m.set (rn - 0x28) v }
  else if rn < 0x38 then { c with am := c.am.set (rn - 0x30) v }
  else if rn < 0x3C then
    have n := rn - 0x38
    have a := uN 72 (c.ra n)
    have r := match sub with
      | 0 => a / 2 ^ 32 * 2 ^ 32 + v.toNat
      | 1 => a / 2 ^ 64 * 2 ^ 64 + v.toNat * 2 ^ 32 + a % 2 ^ 32
      | _ => v.toNat % 256 * 2 ^ 64 + a % 2 ^ 64
    c.wa n r
  else match sub with
    | 0 => { c with sr := srMask v }
    | 1 => c
    | 5 => { c with imask := v &&& 0xFFFF }
    | 6 => c
    | 7 => { c with exc := v }
    | 8 => { c with epc := v }
    | k => c.setLoopReg (k - 2) v.toNat

/-- Registers whose write needs PRIV = 1 (R303). -/
def privReg (rn sub : Nat) : Bool := rn == 0x3C && (sub == 0 || sub == 5 || sub == 7 || sub == 8)

/-! ### Pointers (R281-R285) -/

/-- The value of am_n is one that R281 and R282 permit. -/
def amValid (am : Word) : Bool :=
  have v := am.toNat
  have len := v % 65536
  insBits v 29 16 == 0 &&
  match insBits v 31 30 with
  | 0 => len == 0
  | 1 => decide (2 ≤ len)
  | 2 => decide (1 ≤ len ∧ len ≤ 16)
  | _ => false

/-- The smallest k with 2^k ≥ l, among k ≤ 16. -/
def modBits (l : Nat) : Nat := ((upto 17).find? (fun k => decide (l ≤ 2 ^ k))).getD 16

/-- Bits w−1:0 in reverse order. -/
def revBits (w n : Nat) : Nat := (upto w).foldl (fun r k => r + (if bit n k then 2 ^ (w - 1 - k) else 0)) 0

/-- A pointer after post-modification by `d`. -/
def postMod (am i : Word) (d : Int) : Word :=
  have len := am.toNat % 65536
  match insBits am.toNat 31 30 with
  | 1 =>
    have k := modBits len
    have base := i.toNat / 2 ^ k * 2 ^ k
    w32 (base + (((i.toNat - base : Nat) : Int) + d) % ((max 1 len : Nat) : Int) |>.toNat)
  | 2 =>
    have n := len % 32
    have lo := revBits n (i.toNat % 2 ^ n)
    have r := revBits n ((lo + revBits n (uN 32 d % 2 ^ n)) % 2 ^ n)
    w32 (i.toNat / 2 ^ n * 2 ^ n + r)
  | _ => BitVec.ofInt 32 (i.toNat + d)

/-- The amount that MOD adds. -/
def GCore.modAmount (c : GCore) (ptr md : Nat) : Int :=
  match md with | 0 => 0 | 1 => 1 | 2 => -1 | _ => (c.m.get ptr).toInt

/-- The modification is one through an illegal address mode (R283). -/
def GCore.modIllegal (c : GCore) (ptr md : Nat) : Bool := md != 0 && !amValid (c.am.get ptr)

/-- The pointer after an access with modification MOD. -/
def GCore.advance (c : GCore) (ptr md : Nat) : GCore :=
  if md = 0 then c else { c with i := c.i.set ptr (postMod (c.am.get ptr) (c.i.get ptr) (c.modAmount ptr md)) }

end Sys2Proof.Machine
end

