-- ==== Sys2Proof/Machine/GougeAlu.lean ====
section
/-!
DEFINITION. The arithmetic operations of the gouge cores (spec/12_gouge_cores.md, R291-R295, R299), one definition per
operation.
-/
namespace Sys2Proof.Machine
open Sys2Proof

/-- What an operation reads: its sources, the sources with bit 0 of the register number inverted, the SB field, the
destination and source numbers, the accumulators, SR. -/
structure AluIn where
  a : Word
  b : Word
  a' : Word
  b' : Word
  imm : Nat
  d : Nat
  sa : Nat
  acc : Nat → Int
  sr : Word

/-- What it gives: a g result, accumulators written, SR. -/
structure AluOut where
  g : Option Word
  accs : List (Nat × Int)
  sr : Word
  deriving DecidableEq, Repr, Inhabited

/-- A g result that sets Z and N (R294). -/
def AluIn.toG (x : AluIn) (r : Word) : AluOut := ⟨some r, [], srZN x.sr r⟩

/-- A saturated g result that sets Z, N and SAT. -/
def AluIn.toGSat (x : AluIn) (r : Int) : AluOut :=
  have w := BitVec.ofInt 32 (satI 32 r)
  ⟨some w, [], srSat (srZN x.sr w) (decide (satI 32 r ≠ r))⟩

/-- An accumulator result limited to 72 bits, with its flags (R291, R294). -/
def AluIn.toAcc (x : AluIn) (r : Int) : AluOut :=
  have v := satI 72 r
  ⟨none, [(x.d, v)], flagsAcc x.sr v (decide (v ≠ r))⟩

/-- Two accumulator results, acc_n and acc_n′: Z, N and U from acc_n, V and SAT if either saturates (log entry 27). -/
def AluIn.toAcc2 (x : AluIn) (r r' : Int) : AluOut :=
  have v := satI 72 r
  have v' := satI 72 r'
  ⟨none, [(x.d, v), (x.d ^^^ 1, v')], flagsAcc x.sr v (decide (v ≠ r) || decide (v' ≠ r'))⟩

/-- A fractional product in Q9.63 (R291). -/
def fracMul (a b : Word) : Int := a.toInt * b.toInt * 2

/-- An exact integer product. -/
def intMul (a b : Word) : Int := a.toInt * b.toInt

/-- The high and low halves of a word as Q1.15 (R292). -/
def hiHalf (a : Word) : Int := sxN 16 (a.toNat / 65536)
def loHalf (a : Word) : Int := sxN 16 a.toNat

/-- The lanes of an accumulator (R292). -/
def hiLane (v : Int) : Int := v / 2 ^ 36
def loLane (v : Int) : Int := sxN 36 (uN 36 v)

/-- An accumulator from its lanes. -/
def ofLanes (h l : Int) : Int := h * 2 ^ 36 + (uN 36 l : Nat)

/-- The lanes plus the products of halves, each saturated in its lane; whether one saturated. -/
def laneMac (v : Int) (a b : Word) : Int × Bool :=
  have h := hiLane v + hiHalf a * hiHalf b * 2
  have l := loLane v + loHalf a * loHalf b * 2
  (ofLanes (satI 36 h) (satI 36 l), decide (satI 36 h ≠ h) || decide (satI 36 l ≠ l))

def aluNop (x : AluIn) : AluOut := ⟨none, [], x.sr⟩
def aluMpy (x : AluIn) : AluOut := x.toAcc (fracMul x.a x.b)
def aluMac (x : AluIn) : AluOut := x.toAcc (x.acc x.d + fracMul x.a x.b)
def aluMsu (x : AluIn) : AluOut := x.toAcc (x.acc x.d - fracMul x.a x.b)
def aluMpyi (x : AluIn) : AluOut := x.toAcc (intMul x.a x.b)
def aluMaci (x : AluIn) : AluOut := x.toAcc (x.acc x.d + intMul x.a x.b)
def aluMsui (x : AluIn) : AluOut := x.toAcc (x.acc x.d - intMul x.a x.b)
def aluMac2 (x : AluIn) : AluOut := x.toAcc2 (x.acc x.d + fracMul x.a x.b) (x.acc (x.d ^^^ 1) + fracMul x.a' x.b')
def aluMac2i (x : AluIn) : AluOut := x.toAcc2 (x.acc x.d + intMul x.a x.b) (x.acc (x.d ^^^ 1) + intMul x.a' x.b')
def aluDmpy (x : AluIn) : AluOut :=
  have r := laneMac 0 x.a x.b
  ⟨none, [(x.d, r.1)], flagsAcc x.sr r.1 r.2⟩
def aluDmac (x : AluIn) : AluOut :=
  have r := laneMac (x.acc x.d) x.a x.b
  ⟨none, [(x.d, r.1)], flagsAcc x.sr r.1 r.2⟩
def aluDmac2 (x : AluIn) : AluOut :=
  have r := laneMac (x.acc x.d) x.a x.b
  have r' := laneMac (x.acc (x.d ^^^ 1)) x.a' x.b'
  ⟨none, [(x.d, r.1), (x.d ^^^ 1, r'.1)], flagsAcc x.sr r.1 (r.2 || r'.2)⟩
def aluAdda (x : AluIn) : AluOut := x.toAcc (x.acc x.d + x.a.toInt * 2 ^ 32)
def aluSuba (x : AluIn) : AluOut := x.toAcc (x.acc x.d - x.a.toInt * 2 ^ 32)
def aluClra (x : AluIn) : AluOut := x.toAcc 0
def aluAdd (x : AluIn) : AluOut := ⟨some (x.a + x.b), [], flagsAdd x.sr x.a x.b (x.a + x.b)⟩
def aluSub (x : AluIn) : AluOut := ⟨some (x.a - x.b), [], flagsSub x.sr x.a x.b (x.a - x.b)⟩
def aluAdds (x : AluIn) : AluOut :=
  have n := x.a.toInt + x.b.toInt
  have r := BitVec.ofInt 32 (satI 32 n)
  ⟨some r, [], srSat (flagsAdd x.sr x.a x.b r) (decide (satI 32 n ≠ n))⟩
def aluSubs (x : AluIn) : AluOut :=
  have n := x.a.toInt - x.b.toInt
  have r := BitVec.ofInt 32 (satI 32 n)
  ⟨some r, [], srSat (flagsSub x.sr x.a x.b r) (decide (satI 32 n ≠ n))⟩
def aluAnd (x : AluIn) : AluOut := x.toG (x.a &&& x.b)
def aluOr (x : AluIn) : AluOut := x.toG (x.a ||| x.b)
def aluXor (x : AluIn) : AluOut := x.toG (x.a ^^^ x.b)
def aluAndn (x : AluIn) : AluOut := x.toG (x.a &&& ~~~x.b)
def aluAsl (x : AluIn) : AluOut := x.toG (x.a <<< x.imm)
def aluAsr (x : AluIn) : AluOut := x.toG (x.a.sshiftRight x.imm)
def aluLsr (x : AluIn) : AluOut := x.toG (x.a >>> x.imm)
def aluAsls (x : AluIn) : AluOut := x.toGSat (x.a.toInt * 2 ^ x.imm)
def aluMulr (x : AluIn) : AluOut := x.toGSat (rshr (fracMul x.a x.b) 32)
def aluMuli (x : AluIn) : AluOut := x.toG (x.a * x.b)
def aluMin (x : AluIn) : AluOut := x.toG (if x.a.slt x.b then x.a else x.b)
def aluMax (x : AluIn) : AluOut := x.toG (if x.a.slt x.b then x.b else x.a)
def aluAbs (x : AluIn) : AluOut := x.toGSat (x.a.toInt.natAbs : Int)
def aluNeg (x : AluIn) : AluOut := x.toGSat (-x.a.toInt)
def aluCmp (x : AluIn) : AluOut := ⟨none, [], flagsSub x.sr x.a x.b (x.a - x.b)⟩
def aluCmpi (x : AluIn) : AluOut :=
  have b := BitVec.ofInt 32 (sxN 5 x.imm)
  ⟨none, [], flagsSub x.sr x.a b (x.a - b)⟩

/-- An extraction (R293): no flag but SAT. -/
def AluIn.extract (x : AluIn) (s : Nat) : AluOut :=
  have n := rshr (x.acc x.sa) s
  ⟨some (BitVec.ofInt 32 (satI 32 n)), [], srSat x.sr (decide (satI 32 n ≠ n))⟩
def aluExt (x : AluIn) : AluOut := x.extract (32 - x.imm)
def aluExti (x : AluIn) : AluOut := x.extract x.imm
def aluExtd (x : AluIn) : AluOut :=
  have h := rshr (hiLane (x.acc x.sa)) 16
  have l := rshr (loLane (x.acc x.sa)) 16
  ⟨some (w32 (uN 16 (satI 16 h) * 65536 + uN 16 (satI 16 l))), [],
    srSat x.sr (decide (satI 16 h ≠ h) || decide (satI 16 l ≠ l))⟩

/-- The bits below bit 31 that equal bit 31, counted down from bit 30 (R295). -/
def normCount (a : Word) : Nat :=
  have n := a.toNat
  ((upto 31).find? (fun k => bit n (30 - k) != bit n 31)).getD 31
def aluNorm (x : AluIn) : AluOut := x.toG (w32 (normCount x.a))
def aluAsra (x : AluIn) : AluOut := x.toAcc (rshr (x.acc x.d) x.imm)
def aluAsla (x : AluIn) : AluOut := x.toAcc (x.acc x.d * 2 ^ x.imm)
def aluAddaa (x : AluIn) : AluOut := x.toAcc (x.acc x.d + x.acc (x.sa % 4))
def aluLda (x : AluIn) : AluOut := x.toAcc (x.a.toInt * 2 ^ 32)

/-- The operation of an A1 code (R299). -/
def aluOf (op : Nat) : AluIn → AluOut :=
  match op with
  | 0x01 => aluMpy | 0x02 => aluMac | 0x03 => aluMsu | 0x04 => aluMpyi | 0x05 => aluMaci | 0x06 => aluMsui
  | 0x07 => aluMac2 | 0x08 => aluMac2i | 0x09 => aluDmpy | 0x0A => aluDmac | 0x0B => aluDmac2 | 0x0C => aluAdda
  | 0x0D => aluSuba | 0x0E => aluClra | 0x10 => aluAdd | 0x11 => aluSub | 0x12 => aluAdds | 0x13 => aluSubs
  | 0x14 => aluAnd | 0x15 => aluOr | 0x16 => aluXor | 0x17 => aluAndn | 0x18 => aluAsl | 0x19 => aluAsr
  | 0x1A => aluLsr | 0x1B => aluAsls | 0x1C => aluMulr | 0x1D => aluMuli | 0x1E => aluMin | 0x1F => aluMax
  | 0x20 => aluAbs | 0x21 => aluNeg | 0x22 => aluCmp | 0x23 => aluCmpi | 0x24 => aluExt | 0x25 => aluExti
  | 0x26 => aluExtd | 0x27 => aluNorm | 0x28 => aluAsra | 0x29 => aluAsla | 0x2A => aluAddaa | 0x2B => aluLda
  | _ => aluNop

end Sys2Proof.Machine
end

