-- ==== Sys2Proof/Machine/Gouge.lean ====
section
/-!
DEFINITION. The gouge cores' state, exceptions, debug and watchdog (spec/12_gouge_cores.md, R278-R309; log entry 27).
-/
namespace Sys2Proof.Machine
open Sys2Proof

def State.core (s : State) (n : Nat) : GCore := s.gc.cores.get n
def State.setCore (s : State) (n : Nat) (c : GCore) : State := { s with gc := { s.gc with cores := s.gc.cores.set n c } }

/-- STATE of GC_STAT. -/
def gsRESET : Nat := 0
def gsHALTED : Nat := 1
def gsRUNNING : Nat := 2
def gsWAITING : Nat := 3
def gsFAULT : Nat := 4

def State.coreSt (s : State) (n : Nat) : Nat := s.f (GC.GC_STAT'STATE n)
def State.corePC (s : State) (n : Nat) : Nat := s.f (GC.GC_PC'PC n)
def State.coreRB (s : State) (n : Nat) : Nat := s.f (GC.GC_STAT'RB n)
def State.setPC (s : State) (n pc : Nat) : State := s.set (GC.GC_PC'PC n) pc

/-- Call stack entries in use, the reserve entry among them (R304). -/
def GCore.depth (c : GCore) : Nat := c.stack.length + (if c.reserve.isSome then 1 else 0)

/-- GC_STAT shows the loop level, the call depth and the loop cache. -/
def State.coreShow (s : State) (n : Nat) : State :=
  have c := s.core n
  have t := (s.set (GC.GC_STAT'LOOP_DEPTH n) c.loops.length).set (GC.GC_STAT'CALL_DEPTH n)
    c.depth
  t.setB (GC.GC_STAT'LCACHE n) (match c.loops with
    | l :: _ => l.cached && decide (l.top ≤ s.corePC n ∧ s.corePC n ≤ l.bot) && s.coreSt n == gsRUNNING
    | [] => false)

/-- First byte of core `n`'s P, X or Y memory (`sp` = 0, 1, 2) in BAR0 (R278). -/
def coreMem (n sp : Nat) : Nat := 0x02800000 + 0x80000 * n + 0x20000 * sp

/-- The watchdog's time counted so far. -/
def State.wdCount (s : State) (n : Nat) : Nat :=
  have c := s.core n
  if s.coreSt n = gsHALTED then c.wdUsed else c.wdUsed + (s.ns - c.wdFrom)

/-- The core stops or changes state: the watchdog's count pauses while HALTED (R307); a job in service is lost when the
core leaves RUNNING or WAITING (R327). -/
def State.coreGo (s : State) (n st cause : Nat) : State :=
  have old := s.coreSt n
  have used := s.wdCount n
  have t := s.setCore n { s.core n with wdUsed := used, wdFrom := s.ns, stepping := (s.core n).stepping && st != gsHALTED }
  have t := (t.set (GC.GC_STAT'STATE n) st).set (GC.GC_STAT'HALT_CAUSE n) cause
  have lost := (old == gsRUNNING || old == gsWAITING) && st != gsRUNNING && st != gsWAITING
  ((t.iff lost (·.jobLost n)).coreShow n).chuckStall

/-- The core halts with a cause (R308). -/
def State.coreHalt (s : State) (n cause : Nat) : State := s.coreGo n gsHALTED cause

/-! ### Exceptions (R304) -/

/-- The state that an entry saves. -/
def State.stackEnt (s : State) (n pc : Nat) : StackEnt :=
  have c := s.core n
  { full := true, pc := pc, sr := c.sr, loops := c.loops, idle := c.idle }

/-- Entry to vector `v`, with the stack entry already chosen by the caller: IE cleared, PRIV set, PC = 2 v. -/
def State.enterVector (s : State) (n v : Nat) (c : GCore) : State :=
  have sr := srPut (srPut c.sr srIE false) srPRIV true
  have t := (s.setCore n { c with sr := sr }).setPC n (2 * v)
  (if s.coreSt n = gsWAITING then t.coreGo n gsRUNNING 0 else t).coreShow n

/-- An exception of vector 1-7 raised at P address `pc`, returning to `ret` (R304): EXC takes `code`. In the reserve
entry it halts the core with DOUBLE. -/
def State.coreExc (s : State) (n v code pc ret : Nat) : State :=
  have c := s.core n
  have t := ((s.set (GC.GC_EXC'VECTOR n) v).set (GC.GC_EXC'CAUSE n) (if v = 2 then code else 0)).set (GC.GC_EXC'ADDR n) pc
  if c.reserve.isSome then (t.coreGo n gsFAULT 6).raise (80 + n)
  else
    have e := s.stackEnt n ret
    have c := { c with exc := w32 code, epc := w32 ret }
    t.enterVector n v (if c.stack.length < 16 then { c with stack := e :: c.stack } else { c with reserve := some e })

/-! ### Reset and boot (R306) -/

/-- The core's registers after a core reset. -/
def GCore.fresh (n : Nat) (old : GCore) : GCore :=
  { (default : GCore) with lfsr := 0xACE1 ^^^ n, wdFrom := old.wdFrom, wdUsed := old.wdUsed }

/-- The core follows its field of GC_BOOT_CFG. -/
def State.coreStart (s : State) (n : Nat) : State :=
  have t := (s.setCore n (GCore.fresh n (s.core n))).set (GC.GC_STAT'RB n) 0
  if bitsOf (t.rd GC.GC_BOOT_CFG) (2 * n + 1) (2 * n) = 1 then (t.setPC n 0x4000).coreGo n gsRUNNING 0
  else (t.setPC n 0).coreHalt n 7

/-- At the release of its domain a core halts with BOOT_WAIT or starts its boot ROM (R306). -/
def execCoreBoot (n : Fin 16) (s : State) : Host.Outcome State Fault Refusal :=
  .next (if s.domOn (pdGC (n / 4)) ∧ s.coreSt n = gsRESET then s.coreStart n else s)

/-- GC_CTRL.SOFT_RST; the watchdog's count so far stands (R307). -/
def State.coreSoftRst (s : State) (n : Nat) : State :=
  have s := s.setCore n { s.core n with wdUsed := s.wdCount n, wdFrom := s.ns }
  have t := (s.iff (s.coreSt n == gsRUNNING || s.coreSt n == gsWAITING) (·.jobLost n)).set (GC.GC_STAT'STATE n) gsRESET
  t.coreStart n

/-- GC_CTRL.SOFT_RST resets a core and restarts it under GC_BOOT_CFG (R306). -/
def execGcSoftRst (w : Req) (n : Fin 16) (s : State) : Host.Outcome State Fault Refusal :=
  .next (s.regCmd w (GC.GC_CTRL n) (·.coreSoftRst n))

/-- GC_CTRL.HALT. -/
def State.coreHaltReq (s : State) (n : Nat) : State :=
  if s.coreSt n = gsRUNNING ∨ s.coreSt n = gsWAITING then s.coreHalt n 1 else s

/-- GC_CTRL.HALT halts a core at the next boundary (R308). -/
def execGcHalt (w : Req) (n : Fin 16) (s : State) : Host.Outcome State Fault Refusal :=
  .next (s.regCmd w (GC.GC_CTRL n) (·.coreHaltReq n))

/-- GC_CTRL.RUN. -/
def State.coreRun (s : State) (n : Nat) : State := if s.coreSt n = gsHALTED then s.coreGo n gsRUNNING 0 else s

/-- GC_CTRL.RUN resumes a halted core at GC_PC (R308). -/
def execGcRun (w : Req) (n : Fin 16) (s : State) : Host.Outcome State Fault Refusal :=
  .next (s.regCmd w (GC.GC_CTRL n) (·.coreRun n))

/-- GC_CTRL.STEP: a HALTED core runs and halts after one instruction (R308). -/
def State.coreStepReq (s : State) (n : Nat) : State :=
  if s.coreSt n = gsHALTED then (s.setCore n { s.core n with stepping := true }).coreGo n gsRUNNING 0 else s

/-- A write of GC_PC. -/
def State.corePCWrite (s : State) (n : Nat) (v : Word) : State :=
  if s.coreSt n = gsHALTED then (s.setPC n (bitsOf v 14 0)).coreShow n else s

/-- A write of GC_PC, accepted only while HALTED (R308). -/
def execGcPcWrite (w : Req) (n : Fin 16) (v : Word) (s : State) : Host.Outcome State Fault Refusal :=
  .next (s.regCmd w (GC.GC_PC n) (·.corePCWrite n v))

/-- The interrupt lines of core `n`: INT[i] is active while an enabled, pending event is routed to it (R506). -/
def State.intLines (s : State) (n : Nat) : Nat :=
  (upto 256).foldl (fun m e =>
    if s.evtPending e ∧ s.evtEnabled e ∧ s.f (EVT.EVT_ROUTE'KIND e) = 2 ∧ s.f (EVT.EVT_ROUTE'CORE e) = n then
      setBit m (s.f (EVT.EVT_ROUTE'LINE e)) true else m) 0

/-- A register of the programmer's model. -/
def State.coreReg (s : State) (n rn sub : Nat) : Word :=
  (s.core n).readRN (s.coreRB n) (if rn = 0x3C ∧ sub = 6 then s.intLines n else 0) rn sub

/-- A register of the programmer's model written. -/
def State.setCoreReg (s : State) (n rn sub : Nat) (v : Word) : State :=
  if rn = 0x3C ∧ sub = 1 then s.set (GC.GC_STAT'RB n) (v.toNat % 16)
  else s.setCore n ((s.core n).writeRN (s.coreRB n) rn sub v)

/-- A write of GC_DBG_DATA. -/
def State.coreDbgWrite (s : State) (n : Nat) (v : Word) : State :=
  have rn := s.f (GC.GC_DBG_SEL'RN n)
  have sub := s.f (GC.GC_DBG_SEL'SUB n)
  if s.coreSt n = gsHALTED ∧ rnValid rn sub then (s.setCoreReg n rn sub v).coreShow n else s

/-- A write of the debug-selected register while HALTED (R308). -/
def execGcDbgDataWrite (w : Req) (n : Fin 16) (v : Word) (s : State) : Host.Outcome State Fault Refusal :=
  .next (s.regCmd w (GC.GC_DBG_DATA n) (·.coreDbgWrite n v))

/-- A read of GC_DBG_DATA: the selected register while HALTED. -/
def State.coreDbgRead (s : State) (n : Nat) : Nat :=
  have rn := s.f (GC.GC_DBG_SEL'RN n)
  have sub := s.f (GC.GC_DBG_SEL'SUB n)
  if s.coreSt n = gsHALTED ∧ rnValid rn sub then (s.coreReg n rn sub).toNat else 0

/-! ### P memory writes (R278) -/

/-- Is PC in the boot ROM. -/
def State.inBootRom (s : State) (n : Nat) : Bool := decide (0x4000 ≤ s.corePC n ∧ s.corePC n < 0x4100)

/-- The loop cache has lost the bodies of these loops: they go on from P memory (R290). -/
def uncached (l : List LoopLvl) : List LoopLvl := l.map (fun l => { l with cached := false, noCache := true })

def StackEnt.uncache (e : StackEnt) : StackEnt := { e with loops := uncached e.loops }

/-- A write to P memory invalidates the core's loop cache, for the loops saved on the call stack too (R278, R290). -/
def State.lcacheOff (s : State) (n : Nat) : State :=
  have c := s.core n
  (s.setCore n { c with loops := uncached c.loops, stack := c.stack.map StackEnt.uncache, reserve := c.reserve.map StackEnt.uncache }).coreShow n

/-- A window write of a P word by requester `w`: performed only where R278 allows it. -/
def State.pWrite (s : State) (w : Req) (n a : Nat) (v : Word) : State :=
  if s.coreSt n = gsRESET ∨ s.coreSt n = gsHALTED ∨ (reqCode w = n ∧ s.inBootRom n) then
    (s.stn (coreMem n 0 + 4 * a) 4 v.toNat).lcacheOff n
  else s.accError w (coreMem n 0 + 4 * a) true 3

/-- A window write to core P memory (R278). -/
def execPMemoryWrite (w : Req) (n : Fin 16) (a : Fin 16384) (v : Word) (s : State) : Host.Outcome State Fault Refusal :=
  .next (s.regCmd w (coreMem n 0 + 4 * a) (·.pWrite w n a v))

/-! ### Watchdog (R307) -/

/-- A write of GC_WDOG_KICK by its core. -/
def State.wdogKick (s : State) (n : Nat) (v : Word) : State :=
  if bitsOf v 15 0 = 0xC0DE then s.setCore n { s.core n with wdUsed := 0, wdFrom := s.ns } else s

/-- A write of GC_WDOG_CFG: EN locks itself; the count starts when EN is set. -/
def State.wdogCfgWrite (s : State) (n : Nat) (v : Word) : State :=
  have on := s.b (GC.GC_WDOG_CFG'EN n)
  have t := s.plainWrite (GC.GC_WDOG_CFG n) v
  if !on ∧ t.b (GC.GC_WDOG_CFG'EN n) then t.wdogKick n 0xC0DE else t

/-- A write of 0xC0DE to GC_WDOG_KICK restarts the core watchdog (R307). -/
def execWdogKick (w : Req) (n : Fin 16) (v : Word) (s : State) : Host.Outcome State Fault Refusal :=
  .next (s.regCmd w (GC.GC_WDOG_KICK n) (·.wdogKick n v))

/-! ### Interrupts and debug events (R304, R305, R308) -/

/-- The lowest enabled, active interrupt line. -/
def State.nextInt (s : State) (n : Nat) : Option Nat :=
  have p := s.intLines n &&& (s.core n).imask.toNat
  (upto 16).find? (fun i => bit p i)

/-- The first enabled breakpoint that matches PC: 1 halts, 2 takes vector 7, 0 none. -/
def State.bpMatch (s : State) (n : Nat) : Nat :=
  match (upto 4).find? (fun b => s.b (GC.GC_BP'EN n b) && s.f (GC.GC_BP'ADDR n b) == s.corePC n) with
  | some b => if s.b (GC.GC_BP'DBG_EXC n b) then 2 else 1
  | none => 0

/-- An access to `a` in space `sp` (0 X, 1 Y, 2 P data) matches a watchpoint: 1 halts, 2 takes vector 7. -/
def State.wpMatch (s : State) (n sp a : Nat) (write : Bool) : Nat :=
  match (upto 2).find? (fun k =>
      have m := s.f (GC.GC_WP_CFG'MASK n k)
      s.b (GC.GC_WP_CFG'EN n k) && s.f (GC.GC_WP_CFG'SPACE n k) == sp &&
        bit (s.f (GC.GC_WP_CFG'RW_SEL n k)) (if write then 1 else 0) &&
        s.rdN (GC.GC_WP_ADDR n k) / 2 ^ m == a / 2 ^ m) with
  | some k => if s.b (GC.GC_WP_CFG'DBG_EXC n k) then 2 else 1
  | none => 0

/-- An enabled pending interrupt enters its vector, if an entry of the call stack is free; a breakpoint or watchpoint that has
matched comes first (R304, R308; that one which halts does so too is the model's choice, log entry 27). -/
def State.intEntry (s : State) (n : Nat) : State :=
  have c := s.core n
  match s.nextInt n with
  | none => s
  | some i =>
    if c.wp = 0 ∧ s.bpMatch n = 0 ∧ srGet c.sr srIE ∧ c.stack.length < 16 ∧ c.reserve.isNone then
      have t := s.enterVector n (16 + i) { c with stack := s.stackEnt n (s.corePC n) :: c.stack }
      have h := t.f (PERF.HIST_CFG'SEL 9)
      if h = n then
        have q := t.fresh 16
        q.2.hist 9 q.1
      else t
    else s

/-- An enabled pending interrupt line enters its vector (R304). -/
def execInterruptEntry (n : Fin 16) (s : State) : Host.Outcome State Fault Refusal :=
  .next (if s.domOn (pdGC (n / 4)) ∧ (s.coreSt n = gsRUNNING ∨ s.coreSt n = gsWAITING) then s.intEntry n else s)

/-- An enabled interrupt is pending: a core in WAIT resumes (R302, R305). -/
def execWaitResume (n : Fin 16) (s : State) : Host.Outcome State Fault Refusal :=
  .next (if s.domOn (pdGC (n / 4)) ∧ s.coreSt n = gsWAITING ∧ (s.nextInt n).isSome then s.coreGo n gsRUNNING 0 else s)

/-- The match at hand acts: a watchpoint that has matched, else a breakpoint at PC (R308). -/
def State.debugStop (s : State) (n : Nat) : State :=
  have c := s.core n
  have w := c.wp
  have k := if w ≠ 0 then w else s.bpMatch n
  have t := s.setCore n { c with wp := 0 }
  match k with
  | 0 => s
  | 1 => t.coreHalt n (if w ≠ 0 then 4 else 3)
  | _ => t.coreExc n 7 0 (if w ≠ 0 then c.wpPc else s.corePC n) (s.corePC n)

/-- A breakpoint or watchpoint match halts the core or raises vector 7 (R308). -/
def execBreakpointHalt (n : Fin 16) (s : State) : Host.Outcome State Fault Refusal :=
  .next (if s.domOn (pdGC (n / 4)) ∧ s.coreSt n = gsRUNNING then s.debugStop n else s)

/-- An ECC error is counted (R309). -/
def State.eccNote (s : State) (n sp : Nat) (double : Bool) : State :=
  (s.sat (if double then GC.GC_ECC'UNCORR_CNT n else GC.GC_ECC'CORR_CNT n)).set (GC.GC_ECC'LAST_SPACE n) sp

end Sys2Proof.Machine
end

