-- ==== Sys2Proof/Machine/Perf.lean ====
section
/-!
DEFINITION. Performance counters, the counter snapshot and the tag records (spec/23_counters.md, R511-R517; log entry
41).
-/
namespace Sys2Proof.Machine
open Sys2Proof

/-- The power domain of block `b` of R511. The counters of GC, whose registers lie in four clusters and AON, are taken to
lie in AON. -/
def blkDom (b : Nat) : Nat := if b < 4 ∨ b = 13 then pdAON else domOfAddr (0x100000 * (b - 3))

/-- PC[b][c] as it reads. Counters 0-2 count clocks, which the model does not: they are free values. 0 while the block's
domain is off. -/
def State.pcRead (s : State) (b c : Nat) : Nat × State :=
  if !s.domOn (blkDom b) then (0, s)
  else if c < 3 then s.fresh 48
  else (s.perf.pc.get (8 * b + c), s)

/-- A register of the bins. -/
def isBin (a : Nat) : Bool := decide (PERF.HIST_BIN 0 0 ≤ a ∧ a ≤ PERF.HIST_BIN 15 63)

/-- All counters, one by one, as they read at the latch. -/
def State.pcLatch (s : State) : List Nat → Sparse Nat → Sparse Nat × State
  | [], m => (m, s)
  | k :: t, m =>
    have q := s.pcRead (k / 8) (k % 8)
    q.2.pcLatch t (m.set k q.1)

/-- First buffer of the next set of the ring (R512). -/
def State.snapBuf (s : State) : Nat :=
  s.f PERF.SNAP_BASE'BASE + 2 * (if s.perf.snapIdx ≤ s.f PERF.PERF_CTRL'SNAP_N_M1 then s.perf.snapIdx else 0)

/-- Both buffers of the next set are owned by DEVICE. -/
def State.snapFree (s : State) : Bool :=
  decide (s.snapBuf + 1 < 2048) && s.owner s.snapBuf == ownDEVICE && s.owner (s.snapBuf + 1) == ownDEVICE

/-- The snapshot latch at an L3 boundary, and the clears that wait for it (R512, R514). -/
def State.perfLatch (s : State) : State :=
  if !s.domOn pdMEM then s
  else
    have s := if !s.b PERF.PERF_CTRL'SNAP_EN then s
      else if s.snapFree then
        have q := s.pcLatch (upto 200) ⟨[]⟩
        have valid := (upto 25).foldl (fun m b => setBit m b (s.released (blkDom b))) 0
        { q.2 with perf := { q.2.perf with latchPc := q.1, latchHist := ⟨s.regs.cells.filter (fun c => isBin c.1)⟩, latchValid := valid, latchSeq := s.f SYS.CYCLE_STAT'L3_SEQ, latchNs := s.ns, snapAt := s.snapBuf, snapBusy := true } }
      else s.sat PERF.PERF_STAT'SNAP_SKIP
    have s := if s.perf.clrPend then { s with perf := { s.perf with pc := ⟨[]⟩, clrPend := false } } else s
    if s.perf.histClrPend then { s with regs := s.regs.clearIf isBin, perf := { s.perf with histClrPend := false } } else s

/-- The first buffer of a set (R513). -/
def PerfH.snapHead (p : PerfH) : List Byte :=
  toLE 2 p.latchSeq ++ toLE 2 0 ++ toLE 6 (p.latchNs / 1000000000) ++ toLE 2 0 ++ toLE 4 (p.latchNs % 1000000000)
    ++ toLE 4 p.latchValid ++ toLE 44 0 ++ (upto 200).flatMap (fun k => toLE 8 (p.latchPc.get k))

/-- The second buffer of a set: bin k of histogram h at 256 h + 4 k. -/
def PerfH.snapBins (p : PerfH) : List Byte :=
  (upto 1024).flatMap fun k => toLE 4 ((p.latchHist.getD (PERF.HIST_BIN 0 0 + 4 * k) 0).toNat)

/-- The set has been written: it passes to SNAP_TO, and the ring advances (R512). -/
def State.snapDone (s : State) : State :=
  if !s.perf.snapBusy then s
  else
    have b := s.perf.snapAt
    have dst := s.f PERF.PERF_CTRL'SNAP_TO
    have t := (s.devWrite ownDEVICE b 0 s.perf.snapHead).devWrite ownDEVICE (b + 1) 0 s.perf.snapBins
    have t := t.each [b, b + 1] fun i u => if u.owner i = ownDEVICE then u.passBuf i dst else u
    have i := if s.perf.snapIdx < s.f PERF.PERF_CTRL'SNAP_N_M1 then s.perf.snapIdx + 1 else 0
    have t := { t with perf := { t.perf with snapBusy := false, snapIdx := i } }
    ((t.set PERF.PERF_STAT'L3_SEQ s.perf.latchSeq).work 24).raise 224

def execSnapshotWriteDone (s : State) : Host.Outcome State Fault Refusal := .next s.snapDone

/-- A write of PERF_CTRL: CLR and HIST_CLR wait for the next L3 boundary (R514). -/
def State.perfCtrlWrite (s : State) (v : Word) : State :=
  have t := s.plainWrite PERF.PERF_CTRL v
  { t with perf := { t.perf with clrPend := t.perf.clrPend || bit v.toNat 31, histClrPend := t.perf.histClrPend || bit v.toNat 30 } }

/-- A write of PERF_CTRL with CLR = 1 (R514). -/
def execPerfClr (w : Req) (v : BitVec 32) (s : State) : Host.Outcome State Fault Refusal :=
  .next (s.regCmd w PERF.PERF_CTRL (·.perfCtrlWrite (v ||| 0x80000000)))

/-- A write of PERF_CTRL with HIST_CLR = 1 (R514). -/
def execPerfHistClr (w : Req) (v : BitVec 32) (s : State) : Host.Outcome State Fault Refusal :=
  .next (s.regCmd w PERF.PERF_CTRL (·.perfCtrlWrite (v ||| 0x40000000)))

/-- A read of TAG_PC: the record's times are latched for the requester, and the record is freed (R516). -/
def State.tagRead (s : State) (w : Req) (n : Nat) : State :=
  have lost := s.f (PERF.TAG_PC'TAG_LOST n) * 65536
  match (s.core n).tag with
  | none => (((s.latch w (PERF.TAG_T n) 0).latch w (PERF.TAG_D n) 0).latch w (PERF.TAG_D2 n) 0).answer (.data lost)
  | some r =>
    have t := s.setCore n { s.core n with tag := none }
    have t := ((t.latch w (PERF.TAG_T n) r.t).latch w (PERF.TAG_D n) r.d).latch w (PERF.TAG_D2 n) r.d2
    t.answer (.data (2 ^ 31 + 2 ^ 30 * r.aborted.toNat + 2 ^ 29 * r.supp.toNat + lost + r.pc % 2 ^ 15))

def execTagPcRead (w : Req) (n : Fin 16) (s : State) : Host.Outcome State Fault Refusal :=
  .next (s.regRead w (PERF.TAG_PC n) (·.tagRead w n))

end Sys2Proof.Machine
end

