-- ==== Sys2Proof/Machine/NandBase.lean ====
section
/-!
DEFINITION. The flash array, its operations and the two append rings (spec/21_storage.md, R477-R493; log entry 28).
-/
namespace Sys2Proof.Machine
open Sys2Proof

/-! ### Partitions (R481, R484) -/

/-- First block, number of blocks and minimum of good blocks of a partition. -/
def partRange (p : Nat) : Nat × Nat × Nat :=
  match p with
  | 0 => (0, 4, 2) | 1 => (4, 8, 1) | 2 => (12, 8, 1) | 3 => (20, 32, 4) | 4 => (52, 128, 2) | 5 => (180, 256, 16)
  | _ => (436, 3660, 64)

/-- The partition of a block. -/
def blockPart (b : Nat) : Nat :=
  if b < 4 then 0 else if b < 12 then 1 else if b < 20 then 2 else if b < 52 then 3 else if b < 180 then 4
  else if b < 436 then 5 else 6

def State.nblk (s : State) (b : Nat) : NBlock := s.nand.blocks.get b
def State.setNblk (s : State) (b : Nat) (x : NBlock) : State := { s with nand := { s.nand with blocks := s.nand.blocks.set b x } }

/-- Listed blocks of a partition. -/
def State.partBlocks (s : State) (p : Nat) : List NBlock :=
  (s.nand.blocks.cells.filter (fun c => blockPart c.1 == p)).map (·.2)

/-- PART_STAT, FAILED, LIFE_WARN and BAD_CNT follow the array. -/
def State.partShow (s : State) (p : Nat) : State :=
  have l := s.partBlocks p
  have r := partRange p
  have good := r.2.1 - (l.filter (·.bad)).length
  have rem := 100 - min 100 ((100 * (l.map (·.erase)).sum + 3000 * r.2.1 - 1) / (3000 * r.2.1))
  have mx := l.foldl (fun m b => max m b.erase) 0
  have t := ((s.set (NAND.PART_STAT'GOOD p) good).set (NAND.PART_STAT'MAX_ERASE p) (min mx 0xFFF)).set
    (NAND.PART_STAT'REMAIN_PCT p) rem
  have bad := decide (good < r.2.2)
  have t := if bad ∧ !s.fbit NAND.NAND_STAT'FAILED p then (t.setBitF NAND.NAND_STAT'FAILED p true).raise 220 else t
  if rem ≤ 10 ∧ !t.b NAND.NAND_STAT'LIFE_WARN then (t.set NAND.NAND_STAT'LIFE_WARN 1).raise 220 else t

/-! ### Rings (R486-R488) -/

def State.ring (s : State) (p : Nat) : NRing := if p = 5 then s.nand.safe else s.nand.cyc
def State.setRing (s : State) (p : Nat) (r : NRing) : State :=
  { s with nand := if p = 5 then { s.nand with safe := r } else { s.nand with cyc := r } }

/-- Entries that a page holds. -/
def ringCap (p : Nat) : Nat := if p = 5 then 512 else 256

def State.durable (s : State) (p : Nat) : Nat := s.rdN (NAND.DURABLE_LO p) + 2 ^ 32 * s.rdN (NAND.DURABLE_HI p)
def State.setDurable (s : State) (p n : Nat) : State := (s.wrN (NAND.DURABLE_LO p) n).wrN (NAND.DURABLE_HI p) (n / 2 ^ 32)
def State.oldest (s : State) (p : Nat) : Nat := s.rdN (NAND.OLDEST_LO p) + 2 ^ 32 * s.rdN (NAND.OLDEST_HI p)
def State.setOldest (s : State) (p n : Nat) : State := (s.wrN (NAND.OLDEST_LO p) n).wrN (NAND.OLDEST_HI p) (n / 2 ^ 32)

/-! ### Operations -/

def State.setNand (s : State) (x : NandH) : State := { s with nand := x }

/-- The pages of a block that hold data. -/
def State.blockPages (s : State) (b : Nat) : List NPage :=
  (s.nand.pages.cells.filter (fun c => c.1 / 256 == b)).map (·.2)

/-- Good blocks of a partition, the ones after block `b` first. -/
def State.goodAfter (s : State) (p b : Nat) : List Nat :=
  have r := partRange p
  have l := (upto r.2.1).map (· + r.1)
  ((l.filter (fun k => decide (b < k))) ++ l.filter (fun k => decide (k ≤ b))).filter (fun k => !(s.nblk k).bad)

/-- The block that the next page of a partition goes to: the one in use while it has room; then the next in turn
(rings, DUMP), or for CAL the erased block of lowest erase count, else the oldest (R483, R491). -/
def State.nextBlock (s : State) (p : Nat) : Option Nat :=
  have o := s.nand.open_.get p
  have b := o - 1
  if o ≠ 0 ∧ !(s.nblk b).bad ∧ !(s.nblk b).closed ∧ (s.nblk b).next < 256 then some b
  else if p = 3 then
    have g := s.goodAfter 3 0
    have e := g.filter (fun k => (s.nblk k).next == 0)
    match e with
    | k :: t => some (t.foldl (fun m x => if (s.nblk x).erase < (s.nblk m).erase then x else m) k)
    | [] =>
      have seq := fun k => ((s.blockPages k).map (·.pseq)).min?.getD 0
      match g with
      | k :: t => some (t.foldl (fun m x => if seq x < seq m then x else m) k)
      | [] => none
  else (s.goodAfter p (if o = 0 then (partRange p).1 - 1 else b)).head?

/-- The partition and ledger class of an operation (R563). -/
def NOp.part : NOp → Nat
  | .ring p => p
  | .rec_ p _ _ => p
  | .image slot _ => 1 + slot
  | .scrub b => blockPart b
  | .erase b => blockPart b
def NOp.cls (o : NOp) : Nat := if o.part = 5 then 0 else 4

/-- The operation is part of a scrub, or an erase that is done again: it yields to every append (R485). -/
def NOp.low : NOp → Bool
  | .scrub _ | .erase _ => true
  | _ => false

/-- The rank of an operation: the appends of SAFELOG go before every other operation (R487), then whatever is no scrub,
then SAFELOG's own scrubs, then the others (R485). -/
def NOp.rank (o : NOp) : Nat := 2 * o.low.toNat + (o.cls != 0).toNat

/-- The first operation to start: the oldest of the lowest rank. -/
def pickOp (l : List NOp) : Option NOp := ((upto 4).findSome? (fun r => l.find? (fun o => o.rank == r)))

/-- The operation in hand begins: a ring's buffer becomes the page being programmed. -/
def State.nandBegin (s : State) : State :=
  have t := { s with nand := { s.nand with run := true } }
  have t := t.set NAND.NAND_STAT'DEFERRED 0
  match t.nand.cur with
  | some (.ring p) =>
    have r := t.ring p
    t.setRing p { r with buf := r.buf.drop (ringCap p), fly := r.buf.take (ringCap p) }
  | _ => t

/-- The block that takes the pages of a scrubbed block (R485): in a ring the next good block ahead of the one in use, else
an erased good block. -/
def State.scrubTarget (s : State) (b : Nat) : Option Nat :=
  have p := blockPart b
  if p = 5 ∨ p = 6 then (s.goodAfter p (if s.nand.open_.get p = 0 then b else s.nand.open_.get p - 1)).find? (fun k => k != b)
  else (s.goodAfter p b).find? (fun k => (s.nblk k).next == 0)

/-- The next operation starts, with its token or deferred (R487); in the standby module none starts (R452). -/
def State.nandKick (s : State) : State :=
  if !s.domOn pdFLASH ∨ !s.b NAND.NAND_STAT'MOUNTED ∨ s.standby ∨ s.nand.cur.isSome then s
  else match pickOp s.nand.ops with
  | none => s.setB NAND.NAND_STAT'BUSY s.nand.rdBusy
  | some o =>
    have nb := match o with
      | .image _ _ => (s.goodAfter o.part ((partRange o.part).1 - 1)).head?
      | .scrub b => some ((s.scrubTarget b).getD b)
      | .erase b => some b
      | _ => s.nextBlock o.part
    match nb with
    | none => s
    | some b =>
      have needErase := match o with
        | .ring _ => decide (0 < (s.nblk b).next) && s.nand.open_.get o.part != b + 1
        | .rec_ _ _ _ => decide (0 < (s.nblk b).next) && s.nand.open_.get o.part != b + 1
        | .scrub k => b != k && decide (0 < (s.nblk b).next)
        | _ => false
      have op := if needErase then NOp.erase b else o
      have ops := if needErase then s.nand.ops else s.nand.ops.erase o
      have t := { s with nand := { s.nand with ops := ops, cur := some op, run := false, blk := b } }
      have q := (t.set NAND.NAND_STAT'BUSY 1).ledgerRequest op.cls 0 1
      if q.1 then q.2.nandBegin else q.2.set NAND.NAND_STAT'DEFERRED 1

/-- An operation that still waits for its token gives way to one that goes before it (R485, R487). -/
def State.nandYield (s : State) (n : NOp) : State :=
  match s.nand.cur with
  | some o =>
    if s.nand.run ∨ o.rank ≤ n.rank then s
    else { s with nand := { s.nand with cur := none, ops := o :: s.nand.ops } }.ledgerCancel o.cls 0
  | none => s

/-- An operation is queued, in its rank. -/
def State.nandQueue (s : State) (o : NOp) : State :=
  have t := s.nandYield o
  { t with nand := { t.nand with ops := t.nand.ops ++ [o] } }.nandKick

/-- The block is to be scrubbed, if it is not yet (R485). -/
def State.scrubQueue (s : State) (b : Nat) : State :=
  if (s.blockPages b).isEmpty ∨ s.nand.ops.contains (.scrub b) ∨ s.nand.cur = some (.scrub b) then s else s.nandQueue (.scrub b)

/-- `k` pages of a block have been read, with at most `bits` corrected bits in a codeword (R485). -/
def State.blockRead (s : State) (b k bits : Nat) : State :=
  have t := s.setNblk b { s.nblk b with reads := (s.nblk b).reads + k }
  if s.rdN NAND.RD_LIMIT ≤ (t.nblk b).reads ∨ s.f NAND.NAND_CFG'SCRUB_BITS ≤ bits then t.scrubQueue b else t

/-- What the ECC of a read counts (R479). -/
def State.eccCount (s : State) (unc corr : Nat) : State :=
  have t := (s.sat NAND.ECC_CNT'UNCORR_CW unc).sat NAND.ECC_CNT'CORR40 corr
  t.iff (decide (0 < unc)) (·.set NAND.NAND_ERR'UNCORR 1)

/-- A ring's buffer is to be programmed. -/
def State.ringFlush (s : State) (p : Nat) : State :=
  if (s.ring p).buf.isEmpty ∨ s.nand.ops.contains (.ring p) ∨ (s.nand.cur = some (.ring p) ∧ !s.nand.run) then s
  else s.nandQueue (.ring p)

/-- DT as the six bytes of seconds, and the nanoseconds. -/
def State.secBytes (s : State) : List Byte := toLE 6 (s.ns / 1000000000)
def State.nsBytes (s : State) : List Byte := toLE 4 (s.ns % 1000000000)

/-- A LOSS entry of a ring (R489, R490). -/
def State.lossEntry (s : State) (p first cnt : Nat) : List Byte :=
  if p = 5 then
    have b := [b8 0x53, 0] ++ toLE 2 0xF ++ toLE 4 cnt ++ s.secBytes ++ [b8 s.mode, 0] ++ s.nsBytes ++
      toLE 4 (s.rdN SYS.IMG_SAFE_ID) ++ toLE 4 first
    b ++ toLE 4 (crc32c b)
  else
    have b := [b8 0x4C, 0, 0, 0] ++ toLE 8 first ++ toLE 4 cnt ++ s.secBytes ++ [0, 0] ++ s.nsBytes ++ List.replicate 32 0
    b ++ toLE 4 (crc32c b)

/-- An entry is appended to a ring, or dropped and counted (R481, R487). -/
def State.ringAppend (s : State) (p : Nat) (e : List Byte) : State :=
  if !s.domOn pdFLASH then s
  else
    have r := s.ring p
    have need := if r.dropCnt = 0 then 1 else 2
    if !s.b NAND.NAND_STAT'MOUNTED ∨ s.fbit NAND.NAND_STAT'FAILED p ∨ ringCap p < r.buf.length + need then
      have t := s.setRing p { r with dropCnt := r.dropCnt + 1, dropFirst := if r.dropCnt = 0 then r.last + 1 else r.dropFirst }
      (t.set NAND.NAND_ERR'DROP 1).sat (if p = 5 then NAND.DROP_CNT'SAFELOG else NAND.DROP_CNT'CYCLE)
    else
      have loss := if r.dropCnt = 0 then [] else [RingEnt.mk (r.last + 1) (s.lossEntry p r.dropFirst r.dropCnt) s.ns]
      have es := loss ++ [RingEnt.mk (r.last + need) e s.ns]
      have t := s.setRing p { r with buf := r.buf ++ es, last := r.last + need, dropCnt := 0, dropFirst := 0 }
      have t := { t with nand := { t.nand with upper := true } }
      if r.buf.length + need = ringCap p then t.ringFlush p else t

/-- A safety log entry (R490); `who`: bit 0 dead centre, bit 1 live centre. -/
def State.safeLog (s : State) (who code arg data : Nat) : State :=
  have b := [b8 0x53, b8 who] ++ toLE 2 code ++ toLE 4 arg ++ s.secBytes ++ [b8 s.mode, 0] ++ s.nsBytes ++
    toLE 4 (s.rdN SYS.IMG_SAFE_ID) ++ toLE 4 data
  s.ringAppend 5 (b ++ toLE 4 (crc32c b))

/-- FLUSH_MS after the first entry of a ring's buffer its programme is due (R487). -/
def State.flushTimeout (s : State) (cycle : Bool) : State :=
  have p := if cycle then 6 else 5
  match (s.ring p).buf.head? with
  | none => s
  | some e => if !s.domOn pdFLASH then s else (s.advanceTo (e.ns + ms (s.f NAND.NAND_CFG'FLUSH_MS))).ringFlush p

/-- FLUSH_MS after the first entry the ring buffer is programmed (R487). -/
def execFlushTimeout (cycle : Bool) (s : State) : Host.Outcome State Fault Refusal := .next (s.flushTimeout cycle)

/-! ### Completion (R478, R482, R486) -/

/-- The operation in hand is over: its token is released and the next one starts. -/
def State.nandDone (s : State) : State :=
  match s.nand.cur with
  | none => s
  | some o => (({ s with nand := { s.nand with cur := none, run := false } }.ledgerRelease o.cls 0)).nandKick

/-- A page is programmed into block `b`. -/
def State.pagePut (s : State) (p b first count : Nat) (part_ : Bool) (data : List Byte) : State :=
  have x := s.nblk b
  have q := s.nand.pseq.get p + 1
  have pg : NPage := { part := p, partialPage := part_, pseq := q, first := first, count := count, data := data }
  have t := s.setNblk b { x with next := x.next + 1 }
  { t with nand := { t.nand with pages := t.nand.pages.set (256 * b + x.next) pg, pseq := t.nand.pseq.set p q,
                                 open_ := t.nand.open_.set p (b + 1) } }

/-- The block is grown-bad and never used again (R482). -/
def State.retire (s : State) (b : Nat) : State :=
  have t := if (s.nblk b).bad then s else (s.setNblk b { s.nblk b with bad := true }).sat NAND.BAD_CNT'GROWN
  t.partShow (blockPart b)

/-- The oldest RSEQ that a ring holds. -/
def State.oldestShow (s : State) (p : Nat) : State :=
  have l := (s.nand.pages.cells.filter (fun c => c.2.part == p)).map (fun c => c.2.first)
  s.setOldest p (match l.min? with | some n => n | none => s.durable p + 1)

/-- A page programme of the operation in hand succeeds. -/
def State.progOk (s : State) (o : NOp) : State :=
  have b := s.nand.blk
  match o with
  | .ring p =>
    have r := s.ring p
    match r.fly with
    | [] => s
    | e :: _ =>
      have t := s.pagePut p b e.rseq r.fly.length (decide (r.fly.length < ringCap p)) (r.fly.flatMap (·.bytes))
      have t := t.setRing p { r with fly := [] }
      have t := t.setDurable p (e.rseq + r.fly.length - 1)
      have t := t.each r.fly fun x t => t.hist 15 ((t.ns - x.ns) / 1000)
      (t.oldestShow p).work 22
  | .rec_ p d _ => (s.pagePut p b 0 d.length false d).work 22
  | .scrub b =>
    have p := blockPart b
    have k := s.nand.blk
    if k = b ∨ (s.nblk k).next ≠ 0 then s
    else
      have ps := s.nand.pages.cells.filter (fun c => c.1 / 256 == b)
      have t := ps.foldl (fun (t : State) c =>
        { t with nand := { t.nand with pages := t.nand.pages.set (256 * k + c.1 % 256) c.2 } }.work 22) s
      have t := t.setNblk k { t.nblk k with next := (s.nblk b).next }
      have t := if t.nand.open_.get p = b + 1 ∨ p = 5 ∨ p = 6 then { t with nand := { t.nand with open_ := t.nand.open_.set p (k + 1) } } else t
      { t with nand := { t.nand with ops := NOp.erase b :: t.nand.ops } }
  | _ => s

/-- A programme completes (R482, R486): on a failure the block is retired and the content is programmed again. -/
def State.programmeDone (s : State) (ok : Bool) : State :=
  if !s.domOn pdFLASH ∨ !s.nand.run then s
  else match s.nand.cur with
  | none => s
  | some (.erase _) => s
  | some (.image _ _) => s
  | some o =>
    if ok then ((s.progOk o).partShow o.part).nandDone
    else
      have t := (s.set NAND.NAND_ERR'PROG_FAIL 1).retire s.nand.blk
      match (if o.low then some (t.nand.blk) else t.nextBlock o.part) with
      | some b => if (t.nblk b).next = 0 ∧ !o.low then { t with nand := { t.nand with blk := b } } else
          have t := match o with
            | .ring p => t.setRing p { t.ring p with buf := (t.ring p).fly ++ (t.ring p).buf, fly := [] }
            | _ => t
          { t with nand := { t.nand with ops := o :: t.nand.ops } }.nandDone
      | none => t.nandDone

/-- A page programme completes (R486). -/
def execNandProgrammeDone (ok : Bool) (s : State) : Host.Outcome State Fault Refusal := .next (s.programmeDone ok)

/-- Records of a CAL block that are copied forward before it is erased, those that a scrub has copied apart (R491). -/
def State.calKeep (s : State) (b : Nat) : List (List Byte) :=
  have all := s.nand.pages.cells.filter (fun c => c.2.part == 3)
  have ref := s.nand.refs.cells.flatMap (·.2)
  ((s.nand.pages.cells.filter (fun c => c.1 / 256 == b && c.2.part == 3)).filter (fun c =>
    have id := leAt c.2.data 2 2
    !(all.any (fun d => d.1 / 256 != b && d.2.pseq == c.2.pseq)) && (ref.contains id ||
      leAt c.2.data 0 1 == 2 && all.all (fun d =>
        !(leAt d.2.data 0 1 == 2 && leAt d.2.data 4 8 == leAt c.2.data 4 8) || decide (leAt d.2.data 2 2 ≤ id))))).map
    (fun c => c.2.data)

/-- A block erase completes or fails (R482). In a ring the entries of retired blocks go with those that are younger; SAFELOG
reports that its oldest entries are gone (R490). -/
def State.eraseDone (s : State) (ok : Bool) : State :=
  if !s.domOn pdFLASH ∨ !s.nand.run then s
  else match s.nand.cur with
  | some (.erase b) =>
    if ok then
      have p := blockPart b
      have keep := if p = 3 then s.calKeep b else []
      have old := s.oldest p
      have top := ((s.blockPages b).map (·.first)).foldl max 0
      have gone := fun (k : Nat) => k / 256 == b || (decide (p = 5 ∨ p = 6) && blockPart (k / 256) == p && (s.nblk (k / 256)).bad &&
        decide ((s.nand.pages.get k).first ≤ top))
      have x := s.nblk b
      have t := s.setNblk b { x with erase := x.erase + 1, reads := 0, next := 0, closed := false }
      have t := { t with nand := { t.nand with
        pages := t.nand.pages.clearIf gone, torn := t.nand.torn.filter (fun k => k / 256 != b),
        ops := keep.map (fun d => NOp.rec_ 3 d 0) ++ t.nand.ops } }
      have t := if p = 5 ∨ p = 6 then t.oldestShow p else t
      have t := t.iff (decide (p = 5) && t.oldest p != old) (·.raise 220)
      (t.partShow p).nandDone
    else ((s.set NAND.NAND_ERR'ERASE_FAIL 1).retire b).nandDone
  | _ => s

/-- A block erase completes or fails (R482). -/
def execNandEraseDone (ok : Bool) (s : State) : Host.Outcome State Fault Refusal := .next (s.eraseDone ok)

/-- The ledger grants a NAND operation its token. -/
def State.nandGranted (s : State) (cls : Nat) : State :=
  match s.nand.cur with
  | some o => if o.cls = cls ∧ !s.nand.run then s.nandBegin else s
  | none => s

/-! ### Mount (R488) -/

/-- A ring mounts. -/
def State.ringMount (s : State) (p : Nat) : State :=
  have ps := s.nand.pages.cells.filter (fun c => c.2.part == p)
  have top := ps.foldl (fun (m : Option (Nat × NPage)) c => match m with
    | none => some c
    | some d => if d.2.pseq < c.2.pseq then some c else some d) none
  have dur := match top with | some c => c.2.first + c.2.count - 1 | none => 0
  have t := (s.setDurable p dur).oldestShow p
  have t := match top with
    | some c =>
      have b := c.1 / 256
      have torn := t.nand.torn.any (fun k => k / 256 == b && decide (c.1 < k))
      (t.setNblk b { t.nblk b with closed := (t.nblk b).closed || torn })
    | none => t
  have r := t.ring p
  if r.bufBad then
    have e := RingEnt.mk (dur + 1) (t.lossEntry p (dur + 1) 0xFFFFFFFF) t.ns
    have t := t.setRing p { (default : NRing) with last := dur + 1, buf := [e] }
    t.set NAND.NAND_ERR'MOUNT_LOSS 1
  else
    have es := (r.fly ++ r.buf).filter (fun e => decide (dur < e.rseq))
    t.setRing p { r with buf := es, fly := [], last := es.foldl (fun m e => max m e.rseq) dur }

/-- At the release of the FLASH domain an operation cut short by the loss of power leaves its page or block undefined,
and both rings mount (R478, R488). -/
def State.nandMount (s : State) : State :=
  have t := (s.ringMount 5).ringMount 6
  have t := t.each (upto 7) fun p t => t.partShow p
  have bad := (t.nand.boot0, t.nand.boot1)
  have pref := if bad.2.good && (!bad.1.good || decide (bad.1.cnt < bad.2.cnt)) then bad.2.pref else bad.1.pref
  have t := (t.set NAND.NAND_STAT'MOUNTED 1).set NAND.NAND_STAT'PREF_SLOT pref
  ((t.ringFlush 5).ringFlush 6).nandKick

/-- What a reset of the FLASH domain leaves of an operation in progress (R478, R483, R494): a page neither erased nor
valid, an erase that is done again with the highest recorded count, or an invalid image slot. Nothing else waits. -/
def State.nandAbort (s : State) : State :=
  have b := s.nand.blk
  have tear := fun (ring : Bool) =>
    have x := s.nblk b
    have t := s.setNblk b { x with next := x.next + 1, closed := x.closed || ring }
    { t with nand := { t.nand with torn := t.nand.torn ++ [256 * b + x.next] } }
  have t := if !s.nand.run then s
    else match s.nand.cur with
    | some (.ring _) => tear true
    | some (.rec_ _ _ _) => tear false
    | some (.scrub k) => if k = b then s else tear false
    | some (.image slot _) =>
      { s with nand := { s.nand with pages := s.nand.pages.clearIf (fun k => blockPart (k / 256) == 1 + slot) } }
    | some (.erase b) =>
      have mx := (s.partBlocks (blockPart b)).foldl (fun m x => max m x.erase) 0
      have t := s.setNblk b { s.nblk b with erase := mx, reads := 0 }
      { t with nand := { t.nand with pages := t.nand.pages.clearIf (fun k => k / 256 == b) } }
    | none => s
  have again := if !s.nand.run then [] else match s.nand.cur with | some (.erase b) => [NOp.erase b] | _ => []
  have t := match s.nand.cur with
    | some o => (t.ledgerRelease o.cls 0).ledgerCancel o.cls 0
    | none => t
  { t with nand := { t.nand with ops := again, cur := none, run := false, rdBusy := false } }

end Sys2Proof.Machine
end

