-- ==== Sys2Proof/Machine/PowerState.lean ====
section
/-!
DEFINITION. The power state in P0 to P2 (spec/26_power.md, R559-R562; log entry 44). P3 belongs to M11 and stands with the
mode requests.
-/
namespace Sys2Proof.Machine
open Sys2Proof

/-- Domains whose clocks stop in P1, and those that are off in P2 (R559). -/
def p1Stopped (d : Nat) : Bool := decide (7 ≤ d ∧ d ≤ 10) || d == pdFACE || d == pdROUGH || d == pdHOST
def p2Off (d : Nat) : Bool := decide (7 ≤ d ∧ d ≤ 10) || d == pdFACE || d == pdROUGH

/-- A request stands for a target outside M1 and M9: the module is to be in P0 (R562). -/
def State.awayReq (s : State) : Bool :=
  s.f SYS.MODE_STAT'REQ_STATE != 0 && s.f SYS.MODE_STAT'REQ_TARGET != 1 && s.f SYS.MODE_STAT'REQ_TARGET != 9

/-- The power state that mode, LAT_TOL and requests select (R559, R560, R562). -/
def State.powWant (s : State) : Nat :=
  if s.mode = 11 then 3
  else if (s.mode = 1 ∨ s.mode = 9) ∧ !s.awayReq then
    if s.f PWR.LAT_TOL'US < 2 then 0 else if s.f PWR.LAT_TOL'US < 150 then 1 else 2
  else 0

/-- The power state becomes `p` (R560). -/
def State.powSet (s : State) (p : Nat) : State :=
  have t := { (s.set PWR.PWR_STAT'STATE p) with pwr := { s.pwr with restarted := 0 } }
  (t.work 3).raise 10

/-- Domains switched on or off. -/
def State.domPower (s : State) (l : List Nat) (on : Bool) : State :=
  (s.each l fun d t => (t.setBitF PWR.PWR_STAT'DOM_ON d on).setBitF CLK.CLK_STAT'CLK_GOOD d on).chuckStall

/-- In P2 the domains are off with their state retained; a job in service is lost (R327, R559). -/
def State.enterP2 (s : State) : State :=
  have t := s.each (upto 16) fun n u => u.iff (u.f (GC.GC_STAT'STATE n) == 2 || u.f (GC.GC_STAT'STATE n) == 3) (·.jobLost n)
  t.domPower ((upto 16).filter p2Off) false

/-- The choice of the power state is made again (R560): a deeper state is entered at once, a shallower one by a wake. -/
def State.powEval (s : State) : State :=
  have w := s.powWant
  have c := s.f PWR.PWR_STAT'STATE
  have t := s.set PWR.PWR_STAT'TARGET w
  if w = 3 ∨ c = 3 then t
  else if c < w then (if w = 2 then t.enterP2 else t).powSet w |>.set PWR.PWR_STAT'WAKING 0
  else t.setB PWR.PWR_STAT'WAKING (decide (w < c))

/-- A write of LAT_TOL (R560). -/
def State.latTolWrite (s : State) (w : Req) (v : Word) : State :=
  if s.hostOrSupv w then (s.plainWrite PWR.LAT_TOL v).powEval
  else (s.set PWR.LEDGER_ERR'WR_REFUSED 1).refusal 3

/-- A write of LEDGER_CFG (R560, R564). -/
def State.ledgerCfgWrite (s : State) (w : Req) (v : Word) : State :=
  if s.hostOrSupv w then (s.plainWrite PWR.LEDGER_CFG v).ledgerSync
  else (s.set PWR.LEDGER_ERR'WR_REFUSED 1).refusal 3

end Sys2Proof.Machine
end

