-- ==== Sys2Proof/Machine/Mode.lean ====
section
/-!
DEFINITION. The change of mode itself (spec/24_modes.md, R518-R533): what every entry and exit does, whichever path
leads to it. The requests and the votes stand in later files.
-/
namespace Sys2Proof.Machine
open Sys2Proof

/-- An entry of the safety log whose ARG the spec gives; where it gives none, ARG is free, and so is DATA, whose content
R490 does not state (log entry 29). `who`: 1 dead centre, 2 live centre, 3 both. -/
def State.safeNote (s : State) (who code : Nat) (arg : Option Nat) : State :=
  let (a, t) := match arg with | some x => (x, s) | none => s.fresh 32
  let (d, t) := t.fresh 32
  t.safeLog who code a d

/-- Types of tunable sections marked "At L3 boundary" (R35). -/
def runWritable (ty : Nat) : Bool := [0x6, 0xD, 0xE, 0xF].contains ty

/-- Tunable types (R35). -/
def tunable (ty : Nat) : Bool := runWritable ty || [0x7, 0x10].contains ty

/-- The modes in which the GO of a patch of this type is accepted (R46). -/
def patchModes (ty : Nat) : List Nat := if runWritable ty then [3, 5, 6, 7] else [3]

/-- A patch ends with RESULT, and its buffer goes back to its previous owner (R47). -/
def State.patchEnd (s : State) (result : Nat) : State :=
  have p := s.sys.patch
  have t := if s.owner p.buf = ownDEVICE then s.passBuf p.buf p.prevOwner else s
  have t := (t.set SYS.PATCH_STAT'RESULT result).set SYS.PATCH_STAT'STATE 0
  { t with sys := { t.sys with patch := default } }

/-- A patch that waits is discarded when the mode in force leaves its modes (R47). -/
def State.patchModeCheck (s : State) : State :=
  if s.f SYS.PATCH_STAT'STATE ≠ 0 ∧ !(patchModes s.sys.patch.ty).contains s.mode then s.patchEnd 0x30 else s

/-- The request that waits ends with a result. -/
def State.reqEnd (s : State) (result : Nat) : State :=
  (s.set SYS.MODE_STAT'RESULT result).set SYS.MODE_STAT'REQ_STATE 0

/-- Modes in which axes and stepper groups hold no EN, and Faceplate jobs end (R533). -/
def stillMode (m : Nat) : Bool := decide (m < 3) || m == 9 || m == 11

/-- Modes in which plans exist (R201, R219). -/
def planMode (m : Nat) : Bool := decide (4 ≤ m ∧ m ≤ 8) || m == 10

/-- The mode becomes `m` with CAUSE `cause` (R518, R533). `own`: the change is the one that was requested; any other
change preempts a request that waits (R522). The role that takes M4 to M3 squashes no plan (R530; log entry 45). -/
def State.modeSet (s : State) (m cause : Nat) (own : Bool) : State :=
  have old := s.mode
  if m = old then s
  else
    have s := if !own && s.b SYS.MODE_STAT'REQ_STATE then s.reqEnd 6 else s
    have s := { s with sys := { s.sys with reqPulse := false, bootPend := s.sys.bootPend || m == 0 } }
    have s := ((s.set SYS.MODE_STAT'PREV old).set SYS.MODE_STAT'MODE m).set SYS.MODE_STAT'CAUSE cause
    have s := s.iff (m == 8) (·.set SYS.MODE_STAT'HOLD_FROM old)
    have s := s.sat SYS.MODE_TIMEOUT'CHG_CNT
    have s := s.iff (old == 3 || stillMode m) (·.calModeLeft)
    have s := s.iff (stillMode m) (fun t => t.enClear.faceAbortAll)
    have s := s.iff (!planMode m && !(old == 4 && cause == 6 && m == 3)) (·.trjModeLeave)
    have s := s.patchModeCheck
    have s := s.iff (m == 9) (·.safeNote 3 4 none)
    have s := s.iff (m == 10) (·.safeNote 3 5 none)
    (s.raise 4).powEval

end Sys2Proof.Machine
end

