-- ==== Sys2Proof/Machine/Safe.lean ====
section
/-!
DEFINITION. The safety channels: inputs, functions, votes, contactors and locks (spec/14_safety_channels.md, R331-R361;
R394-R396 of spec/16_portals.md). The dead centre decides at the sample, the live centre in the task cycles that start at L2
boundaries; what a cycle decides stands at its start (log entry 30). `l` = false names the dead centre, true the live one.
-/
namespace Sys2Proof.Machine
open Sys2Proof

/-! ### Channels, inputs, functions as read -/

/-- The channel is healthy. -/
def State.chOk (s : State) (l : Bool) : Bool := s.b (if l then SAFE.SAFE_STAT'LIVE_OK else SAFE.SAFE_STAT'DEAD_OK)

/-- The channel whose evaluation stands for `l`: in M10 the healthy one stands for both (R359). -/
def State.chEff (s : State) (l : Bool) : Bool := if s.mode = 10 ∧ !s.chOk l ∧ s.chOk (!l) then !l else l

def chKey (l : Bool) (i : Nat) : Nat := if l then i + 24 else i

def State.fnc (s : State) (l : Bool) (f : Nat) : FnCh := s.safe.fn.get (chKey l f)
def State.setFnc (s : State) (l : Bool) (f : Nat) (x : FnCh) : State :=
  { s with safe := { s.safe with fn := s.safe.fn.set (chKey l f) x } }
def State.sic (s : State) (l : Bool) (i : Nat) : SiCh := s.safe.si.get (chKey l i)
def State.setSic (s : State) (l : Bool) (i : Nat) (x : SiCh) : State :=
  { s with safe := { s.safe with si := s.safe.si.set (chKey l i) x } }

def State.fnEn (s : State) (f : Nat) : Bool := s.b (SAFE.FN_CFG'EN f)
def State.siEn (s : State) (i : Nat) : Bool := s.b (SAFE.SI_CFG'EN i)
def State.siRole (s : State) (i : Nat) : Nat := s.f (SAFE.SI_CFG'ROLE i)
def State.siTarget (s : State) (i : Nat) : Nat := s.f (SAFE.SI_CFG'TARGET i)

/-- The filtered state of an input in a channel: true = run. -/
def State.filt (s : State) (l : Bool) (i : Nat) : Bool := s.b (if l then SAFE.SI_STAT'FILT_L i else SAFE.SI_STAT'FILT_D i)

/-- An input counts as run in a channel's evaluation: used, filtered run, no latched TEST_FAULT (R337). The live centre
evaluates what its task cycle has read (R331). -/
def State.siRun (s : State) (l : Bool) (i : Nat) : Bool :=
  s.siEn i && (if l then bit s.safe.liveIn i else s.filt false i) && !s.b (SAFE.SI_STAT'TEST_FAULT i)

/-- The inputs of a function. -/
def State.fnInputs (s : State) (f : Nat) : List Nat :=
  (upto 24).filter (fun i => s.siEn i && decide (s.siRole i < 4) && s.siTarget i == f)

/-- Channel `c` (0 = A) of function `f` is in run (R334, R345). An input that is not assigned counts as stop. -/
def State.fnChan (s : State) (l : Bool) (f c : Nat) : Bool :=
  if s.b (SAFE.FN_CFG'REMOTE f) then bit (s.safe.remote.get (chKey l f)) c
  else (s.fnInputs f).any (fun i => s.siRole i == c && s.siRun l i)

/-- LOCK_FB of portal `p` is in the run level (R384). -/
def State.lockFb (s : State) (l : Bool) (p : Nat) : Bool :=
  (upto 24).any (fun i => s.siRole i == 5 && s.siTarget i == p && s.siRun l i)

/-- GUARD[p] is in RUN in a channel. -/
def State.guardRun (s : State) (l : Bool) (p : Nat) : Bool := s.fnEn (4 + p) && (s.fnc l (4 + p)).st == 0

/-- The sensing edge of portal `p` is in the stop level in a channel (R393). -/
def State.edgeStop (s : State) (l : Bool) (p : Nat) : Bool :=
  (s.fnInputs (4 + p)).any (fun i => s.siRole i == 2) && !s.fnChan l (4 + p) 2

def State.portal (s : State) (p : Nat) : PortTopo := s.cfg.portals.getD p default

/-- T_OFF of an input in ns (R335, R342): of its function; RESET 0.5 ms; LOCK_FB as the guard of its portal. -/
def State.siToff (s : State) (i : Nat) : Nat :=
  if s.siRole i = 4 then 500000
  else 100000 * s.f (SAFE.FN_CFG'T_OFF (if s.siRole i = 5 then 4 + s.siTarget i else s.siTarget i))

/-- A function that is used stands outside RUN in a channel; ENABLE acts in M6 only (R344). -/
def State.fnDem (s : State) (l : Bool) (f : Nat) : Bool :=
  s.fnEn f && (s.fnc l f).st != 0 && (decide (f < 22) || s.mode == 6)

/-- The functions that mask a zone. -/
def State.zoneFns (s : State) (z : Nat) : List Nat := (upto 24).filter (fun f => s.fnEn f && s.fbit (SAFE.FN_CFG'ZONE_MASK f) z)

/-- The arms of a zone. -/
def State.zoneArms (s : State) (z : Nat) : List Nat := (upto 8).filter (fun a => s.fbit (SAFE.ZONE_CFG'ARM_MASK z) a)

/-! ### Interlock (R394-R396), votes (R346, R347) -/

/-- CLOSED_LOCKED(p) in a channel. -/
def State.closedLocked (s : State) (l : Bool) (p : Nat) : Bool := s.guardRun l p && s.lockFb l p

/-- SSM_SAFE(z). -/
def State.ssmSafe (s : State) (z : Nat) : Bool :=
  s.mode == 7 && bit s.cfg.safe.collab z && (s.zoneArms z).all (fun a => s.fbit SAFE.SSM_STAT'SSM_OK a)

/-- The portal interlock condition of zone z. -/
def State.interlock (s : State) (l : Bool) (z : Nat) : Bool :=
  s.ssmSafe z || (upto 8).all (fun p => !((s.portal p).used && (s.portal p).zone == z) || s.closedLocked l p)

/-- Contactor bits of CD_STAT: 0 DRIVE_HI, 1 DRIVE_LO_L, 2 EDM, 3 EDM_FAULT, 4 STALE. -/
def State.cdBit (s : State) (k i : Nat) : Bool := bit (s.rdN SAFE.CD_STAT) (8 * k + i)
def State.setCd (s : State) (k i : Nat) (b : Bool) : State := s.wrN SAFE.CD_STAT (setBit (s.rdN SAFE.CD_STAT) (8 * k + i) b)
def State.cdMask (s : State) (k : Nat) : Nat := s.f (SAFE.CD_CFG'ZONE_MASK k)

/-- Modes in which votes may be released (R346). -/
def voteMode (m : Nat) : Bool := decide (3 ≤ m ∧ m ≤ 8) || m == 10

/-- What the channel's own evaluation says of zone z, the mode left out. -/
def State.zoneFree (s : State) (l : Bool) (z : Nat) : Bool :=
  s.b (SAFE.ZONE_CFG'EN z)
  && (s.zoneFns z).all (fun f => !s.fnDem l f || (s.b (SAFE.FN_CFG'STOP_CAT f) && !bit s.safe.ss1Done z))
  && (s.zoneArms z).all (fun a => !s.fbit SAFE.ARM_SAFE'OVERSPEED a && !s.fbit SAFE.ARM_SAFE'HUB_STALE a)
  && s.interlock l z
  && !s.fbit SAFE.ZONE_STAT'OUT_FAULT z && !s.fbit SAFE.ZONE_FB'STO_FB_FAULT z
  && (upto 4).all (fun k => !(bit (s.cdMask k) z && s.cdBit k 3))

/-- A channel releases its vote for zone z (R346). -/
def State.zoneRel (s : State) (l : Bool) (z : Nat) : Bool :=
  have e := s.chEff l
  voteMode s.mode && s.released (if l then pdLIVE else pdDEAD) && s.chOk e && s.zoneFree e z

/-- The mask of the zones whose vote a channel holds at STO. -/
def State.voteMask (s : State) (l : Bool) : Nat :=
  (upto 8).foldl (fun m z => if s.zoneRel l z then m else m + 2 ^ z) 0

/-- SS1 timers of every zone (R347): a category 1 demand starts the timer; it has acted when SS1_T has passed
(SS1_TIMEOUT) or every arm of the zone has STANDSTILL. -/
def State.ss1Eval (s : State) : State :=
  s.each (upto 8) fun z t =>
    have dem := (t.zoneFns z).any (fun f => t.b (SAFE.FN_CFG'STOP_CAT f) && (t.fnDem (t.chEff false) f || t.fnDem (t.chEff true) f))
    if !dem then
      { (t.setBitF SAFE.ZONE_STAT'SS1_RUN z false) with
        safe := { t.safe with ss1Ns := t.safe.ss1Ns.set z 0, ss1Done := setBit t.safe.ss1Done z false } }
    else if bit t.safe.ss1Done z then t
    else if (t.zoneArms z).all (fun a => t.fbit SAFE.ARM_SAFE'STANDSTILL a) ∨ t.f (SAFE.ZONE_CFG'SS1_T z) = 0 then
      { (t.setBitF SAFE.ZONE_STAT'SS1_RUN z false) with safe := { t.safe with ss1Done := setBit t.safe.ss1Done z true } }
    else if t.safe.ss1Ns.get z = 0 then
      { (t.setBitF SAFE.ZONE_STAT'SS1_RUN z true) with safe := { t.safe with ss1Ns := t.safe.ss1Ns.set z (t.ns + 1) } }
    else t

/-- A channel may close its switch of LKD[p] (R395), on the votes in force. -/
def State.lkdOk (s : State) (l : Bool) (p : Nat) : Bool :=
  have z := (s.portal p).zone
  (s.portal p).used && s.b (PORT.PORT_STAT'UNLOCK_REQ p) &&
    ((s.fbit (if l then SAFE.ZONE_STAT'VOTE_B_L else SAFE.ZONE_STAT'VOTE_A) z &&
        (s.zoneArms z).all (fun a => s.fbit SAFE.ARM_SAFE'STANDSTILL a)) || s.ssmSafe z)

/-- Mask of the portals whose lock drive switch a channel closes. -/
def State.lkdMask (s : State) (l : Bool) : Nat := (upto 8).foldl (fun m p => if s.lkdOk l p then m + 2 ^ p else m) 0

/-! ### Contactors (R351) -/

/-- The drive switch of a channel. -/
def State.cdSwitch (s : State) (l : Bool) (k : Nat) : Bool := s.cdBit k l.toNat

/-- The drive carries current. -/
def State.cdOn (s : State) (k : Nat) : Bool := s.cdBit k 0 && s.cdBit k 1

/-- A zone of the mask is released by a channel. -/
def State.cdWanted (s : State) (l : Bool) (k : Nat) : Bool :=
  (upto 8).any (fun z => bit (s.cdMask k) z && !s.fbit (if l then SAFE.ZONE_STAT'VOTE_B_L else SAFE.ZONE_STAT'VOTE_A) z)

/-- The contactor opens at once: M9, or a fault that concerns it. -/
def State.cdDrop (s : State) (k : Nat) : Bool :=
  !s.b (SAFE.CD_CFG'EN k) || s.mode == 9 || s.cdBit k 3
  || (upto 8).any (fun z => bit (s.cdMask k) z && s.fbit SAFE.ZONE_FB'STO_FB_FAULT z)

/-- One contactor follows the votes. -/
def State.cdEval (s : State) (k : Nat) : State :=
  have was := s.cdOn k
  have close := fun (l : Bool) => !s.cdDrop k &&
    (if s.cdWanted l k then s.cdSwitch l k || s.cdBit k 2 || was
     else s.cdSwitch l k && s.f (SAFE.CD_CFG'CD_DELAY k) != 0)
  have t := (s.setCd k 0 (close false)).setCd k 1 (close true)
  have c := t.safe.cd.get k
  have since := fun (l : Bool) (old : Nat) => if t.cdWanted l k then 0 else if old = 0 then t.ns + 1 else old
  have c := { c with offNs := since false c.offNs, offNsL := since true c.offNsL }
  have sw := t.cdOn k != was
  have c := if sw then { c with swNs := t.ns, chk := true } else c
  { (t.iff sw (·.setCd k 4 false)) with safe := { t.safe with cd := t.safe.cd.set k c } }

/-! ### The evaluation as a whole -/

/-- Separation stop of an arm (R376). -/
def State.ssmStop (s : State) (a : Nat) : Bool :=
  s.b (SAFE.SSM_ARM_CFG'EN a) && bitsOf (s.rd SAFE.SSM_LEVEL) (4 * a + 2) (4 * a) == 0

/-- The stop demand of an arm (R348). -/
def State.armStop (s : State) (a : Nat) : Bool :=
  s.ssmStop a || s.fbit SAFE.ARM_SAFE'OVERSPEED a || s.fbit SAFE.ARM_SAFE'HUB_STALE a
  || (upto 8).any (fun z => s.fbit (SAFE.ZONE_CFG'ARM_MASK z) a &&
    (s.zoneFns z).any (fun f => s.fnDem (s.chEff false) f || s.fnDem (s.chEff true) f))

/-- SSM_OK of an arm (R380). -/
def State.ssmOk (s : State) (a : Nat) : Bool :=
  s.b (SAFE.SSM_ARM_CFG'EN a) && ((s.chOk false && s.chOk true) || s.mode == 10) && s.f SAFE.SSM_STAT'SENSOR_STALE == 0
  && !(s.safe.xPend && s.safe.xSsm)
  && !s.fbit SAFE.ARM_SAFE'OVERSPEED a && !s.fbit SAFE.ARM_SAFE'HUB_STALE a

/-- The cross-check keeps since when a difference stands (R357); a difference counts while both channels are healthy. -/
def State.xTrack (s : State) (c : Nat) (diff : Bool) : State :=
  have on := diff && s.chOk false && s.chOk true
  have v := if on then (if s.safe.xNs.get c = 0 then s.ns + 1 else s.safe.xNs.get c) else 0
  { s with safe := { s.safe with xNs := s.safe.xNs.set c v } }

/-- Filtered input states of a channel as SI_FILT shows them. -/
def State.siMask (s : State) (l : Bool) : Nat := (upto 24).foldl (fun m i => if s.filt l i then m + 2 ^ i else m) 0

/-- What each function shows (R363): the dead centre's state, or the healthy channel's. -/
def State.fnShow (s : State) (f : Nat) : State :=
  have x := s.fnc (s.chEff false) f
  have t := (s.set (SAFE.FN_STAT'STATE f) (if s.fnEn f then x.st else 7)).set (SAFE.FN_STAT'FAULT_CAUSE f) (if s.fnEn f then x.cause else 0)
  (t.setB (SAFE.FN_STAT'DEM_D f) (s.fnDem false f)).setB (SAFE.FN_STAT'DEM_L f) (s.fnDem true f || !s.released pdLIVE)

/-- The portal status bits that the channels determine. -/
def State.lockShow (s : State) : State :=
  s.each ((upto 8).filter (fun p => (s.portal p).used && s.domOn pdCTL)) fun p t =>
    ((t.setB (PORT.PORT_STAT'LKD_ON p) (bit t.safe.lkdD p && bit t.safe.lkdL p)).setB (PORT.PORT_STAT'LOCK_FB p)
      (t.lockFb false p)).setB (PORT.PORT_STAT'EDGE p) (t.edgeStop false p || t.edgeStop true p)

/-- Since when each vote output stands at STO by its channel's command (R349). -/
def State.outTrack (s : State) : State :=
  s.each (upto 16) fun o t =>
    have v := if !t.outSto o then 0 else if t.safe.rbNs.get o = 0 then t.ns + 1 else t.safe.rbNs.get o
    { t with safe := { t.safe with rbNs := t.safe.rbNs.set o v } }

/-- Every output of both channels follows from the state (R346-R351, R394-R396). A lock is judged on the vote in force
before the votes move (R396). -/
def State.safeEval (s : State) : State :=
  if !s.released pdDEAD ∧ !s.released pdLIVE then s
  else
    have old := s.rd SAFE.ZONE_STAT
    have t := s.each (upto 8) fun a u => u.setBitF SAFE.SSM_STAT'SSM_OK a (u.ssmOk a)
    have t := { t with safe := { t.safe with lkdD := t.lkdMask false, lkdL := t.lkdMask true } }
    have t := t.ss1Eval
    have demand := t.mode == 10 && (upto 8).any (fun z => t.b (SAFE.ZONE_CFG'EN z) && !t.zoneFree (t.chEff false) z)
    have t := { t with safe := { t.safe with xoffA := t.safe.xoffA || (demand && !t.chOk false), xoffB := t.safe.xoffB || (demand && !t.chOk true) } }
    have va := t.voteMask false
    have vb := t.voteMask true
    have t := (t.set SAFE.ZONE_STAT'VOTE_A (if t.safe.xoffA then 0xFF else va)).set SAFE.ZONE_STAT'VOTE_B_L (if t.safe.xoffB then 0xFF else vb)
    have t := { t with safe := { t.safe with lkdD := t.safe.lkdD &&& t.lkdMask false, lkdL := t.safe.lkdL &&& t.lkdMask true } }
    have t := t.each (upto 4) fun k u => u.cdEval k
    have t := t.each (upto 8) fun a u => u.setBitF SAFE.ARM_SAFE'STOP a (u.armStop a)
    have t := t.each (upto 24) fun f u => u.fnShow f
    have t := (t.set SAFE.SI_FILT'FILT (t.siMask false)).set SAFE.SI_FILT_L'FILT (t.siMask true)
    have t := t.lockShow
    have t := t.iff (t.domOn pdCTL) fun u => u.wrN PORT.PORT_ZONE
      ((upto 8).foldl (fun m z => m + (if u.interlock false z then 2 ^ z else 0) + (if u.interlock true z then 2 ^ (z + 8) else 0)) 0)
    have t := t.xTrack 1 ((upto 24).any (fun i => t.siEn i && t.filt false i != t.filt true i))
    have t := t.xTrack 2 ((upto 24).any (fun f => t.fnEn f && (t.fnc false f).st != (t.fnc true f).st))
    have t := t.xTrack 3 (va != vb || (upto 4).any (fun k => t.cdBit k 0 != t.cdBit k 1))
    (t.iff (t.rd SAFE.ZONE_STAT != old) (·.raise 176)).outTrack.stoTrack

/-- A change of mode, with the votes that follow at once (R521). -/
def State.modeTo (s : State) (m cause : Nat) (own : Bool) : State := (s.modeSet m cause own).safeEval

/-- A safety stop: M9 with CAUSE `cause`, held by safety (R349-R360). In M10 the failed channel's group is cut off
(R360). -/
def State.safetyStop (s : State) (cause : Nat) : State :=
  if !voteMode s.mode then (s.iff (s.mode == 9) (·.set SAFE.SAFE_STAT'SAFE_STOP 1)).safeEval
  else
    have t := { s with safe := { s.safe with
      xoffA := s.safe.xoffA || (s.mode == 10 && !s.chOk false), xoffB := s.safe.xoffB || (s.mode == 10 && !s.chOk true) } }
    ((t.set SAFE.SAFE_STAT'SAFE_STOP 1).raise 176).modeTo 9 cause false

/-- The first cross-check fault is recorded. -/
def State.xCause (s : State) (c : Nat) : State :=
  if s.b SAFE.SAFE_STAT'XCHK_CAUSE then s else s.set SAFE.SAFE_STAT'XCHK_CAUSE c

/-- A channel is marked failed (R358): M10 from M3-M8, M9 from M10 (R359, R360). -/
def State.channelFail (s : State) (l : Bool) (cause : Nat) : State :=
  have other := s.chOk (!l)
  have t := (s.xCause cause).set (if l then SAFE.SAFE_STAT'LIVE_OK else SAFE.SAFE_STAT'DEAD_OK) 0
  have t := { t with safe := { t.safe with failD := t.safe.failD || !l, failL := t.safe.failL || l } }
  have t := ((t.setB SAFE.SAFE_STAT'DEGRADED other).raise 176).safeNote (if l then 1 else 2) 0xD none
  if s.mode = 10 ∨ !other then t.safetyStop 3
  else if 3 ≤ s.mode ∧ s.mode ≤ 8 then
    have t := { t with safe := { t.safe with degNs := t.ns } }
    ((t.set SAFE.SAFE_STAT'DEG_LEFT (t.f SAFE.DEG_CFG'DEG_T)).raise 178).modeTo 10 4 false
  else t.safeEval

/-! ### Functions (R340-R345) -/

/-- A function in FAULT. -/
def FnCh.fault (cause : Nat) : FnCh := { (default : FnCh) with st := 3, cause := cause }

/-- Since when a disagreement lasts: kept while it stands. -/
def since (on : Bool) (old now : Nat) : Nat := if !on then 0 else if old = 0 then now + 1 else old

/-- ESTOP, GUARD, LC, ENABLE: one sample of channels A and B (R340, R344). The row that leads to DEMAND comes before the row of
TEST_FAULT (`tf`), and a function makes one transition at a sample. -/
def FnCh.next (x : FnCh) (auto a b tf : Bool) (now : Nat) : FnCh :=
  have moved := x.atNs == now + 1
  have y := { x with discNs := since (a != b) x.discNs now }
  match x.st with
  | 0 => if !(a && b) then { y with st := 1, cause := 0 } else if tf then FnCh.fault 2 else y
  | 1 => if moved then y else if tf then FnCh.fault 2 else if a && b then { y with st := if auto then 0 else 2 } else y
  | 2 => if !(a && b) then { y with st := 1 } else if tf then FnCh.fault 2 else y
  | _ => if !a && !b && !tf && !moved then { (default : FnCh) with st := 1 } else x

/-- TWOHAND (R343): hand 1 on A (NO) and B (NC), hand 2 on C and D. A FAULT ends when both hands are released (log entry
30). -/
def FnCh.twoHand (x : FnCh) (a b c d tf : Bool) (now : Nat) : FnCh :=
  have act1 := a && !b
  have act2 := c && !d
  have rel := !a && b && !c && d
  have moved := x.atNs == now + 1
  have y := { x with discNs := since (a == b) x.discNs now, disc2Ns := since (c == d) x.disc2Ns now }
  match x.st with
  | 0 => if !(act1 && act2) then { y with st := 1, armed := false, firstNs := 0 } else if tf then FnCh.fault 2 else y
  | 3 => if rel && !tf && !moved then { (default : FnCh) with st := 2, armed := true } else x
  | st =>
    if moved then y
    else if tf then FnCh.fault 2
    else if st = 1 then { y with st := 2, armed := rel, firstNs := 0 }
    else if rel then { y with armed := true, firstNs := 0 }
    else if !y.armed then y
    else
      have first := if y.firstNs = 0 then now + 1 else y.firstNs
      if act1 && act2 then
        if now + 1 ≤ first + 500000000 then { y with st := 0, armed := false, firstNs := 0 } else { y with armed := false }
      else if act1 || act2 then { y with firstNs := first } else y

/-- The frames of remote functions as a channel holds them. -/
def State.srx (s : State) (l : Bool) (f : Nat) : SafeRx := s.safe.rx.get (if l then f + 1024 else f)

/-- The instant at which a remote function times out in a channel: REM_TO cycles after the last accepted frame, of the frame
that has been out longest (R345). -/
def State.remDue (s : State) (l : Bool) (f : Nat) : Nat :=
  have start := if l then s.safe.remL else s.safe.remD
  have n := s.f SAFE.STILL_CFG'REM_TO
  have last := (s.cfg.safe.remote.filter (fun r => r.fn == f)).foldl (fun m r =>
    have v := max start (s.srx l r.frame).rxNs
    if m = 0 then v else min m v) 0
  (if last = 0 then start else last) - 1 + 250000 * (if n = 0 then 8 else n)

/-- One function in one channel at a sample. A remote function whose frames stay out goes to FAULT and stays there
(R345). -/
def State.fnNext (s : State) (l : Bool) (f : Nat) : FnCh :=
  have x := s.fnc l f
  have tf := (s.fnInputs f).any (fun i => s.b (SAFE.SI_STAT'TEST_FAULT i))
  if s.b (SAFE.FN_CFG'REMOTE f) ∧ s.remDue l f ≤ s.ns then (if x.st = 3 then x else FnCh.fault 3)
  else if f = 16 ∨ f = 17 then
    x.twoHand (s.fnChan l f 0) (s.fnChan l f 1) (s.fnChan l f 2) (s.fnChan l f 3) tf s.ns
  else x.next (s.b (SAFE.FN_CFG'AUTO_RST f) || decide (22 ≤ f)) (s.fnChan l f 0) (s.fnChan l f 1) tf s.ns

/-- A function's states in both channels move to `d` and `v`: counted, logged and reported (R490, EVT[177]). A function
FAULT in M10 is a further fault (R360). -/
def State.fnMove (s : State) (f : Nat) (d v : FnCh) : State :=
  have od := s.fnc false f
  have ol := s.fnc true f
  have enter := fun (k : Nat) => (decide (od.st ≠ k ∧ d.st = k)).toNat + 2 * (decide (ol.st ≠ k ∧ v.st = k)).toNat
  have stamp := fun (o x : FnCh) => if o.st = x.st then x else { x with atNs := s.ns + 1 }
  have t := (s.setFnc false f (stamp od d)).setFnc true f (stamp ol v)
  have t := t.iff (bit (enter 1) (s.chEff false).toNat) (·.sat (SAFE.FN_STAT'DEMAND_CNT f))
  have t := t.iff (enter 1 != 0) (fun u => (u.raise 177).safeNote (enter 1) 1 (some f))
  have t := t.iff (enter 3 != 0) (fun u => (u.raise 177).safeNote (enter 3) 2 (some f))
  t.iff (enter 3 != 0 && t.mode == 10) (·.safetyStop 3)

/-- A healthy channel evaluates every function. -/
def State.fnEval (s : State) (l : Bool) : State :=
  if !s.chOk l then s
  else s.each ((upto 24).filter s.fnEn) fun f t =>
    t.fnMove f (if l then t.fnc false f else t.fnNext false f) (if l then t.fnNext true f else t.fnc true f)

/-- The dead centre evaluates: functions, then the outputs of both channels. -/
def State.safeRun (s : State) : State := (s.fnEval false).safeEval

/-- The task cycle of the live centre that starts at the L2 boundary `b`, run once: it reads the filtered inputs and
evaluates (R331). -/
def State.liveCycle (s : State) (b : Nat) : State :=
  if b < s.safe.liveAt ∨ !s.released pdLIVE then s
  else
    have t := s.advanceTo b
    have t := { t with safe := { t.safe with liveAt := b + 1, liveIn := t.siMask true } }
    (t.fnEval true).safeEval

/-! ### Samples and filters (R332, R335) -/

/-- An input is the NC contact of a hand of TWOHAND: its filter works the other way round (R343). -/
def State.siNc (s : State) (i : Nat) : Bool :=
  (s.siRole i == 1 || s.siRole i == 3) && (s.siTarget i == 16 || s.siTarget i == 17)

/-- One input sampled by one channel whose domain runs. An input on a supply that has been switched off for good reads low
(R339). -/
def State.siSample (s : State) (l : Bool) (i : Nat) (lvl : Bool) : State :=
  if !s.released (if l then pdLIVE else pdDEAD) then s
  else
    have lvl := lvl && !(decide (s.f (SAFE.SI_CFG'SUPPLY i) < 8) && s.fbit SAFE.TPS_STAT'TPS_FAULT (s.f (SAFE.SI_CFG'SUPPLY i)))
    have run := lvl != s.siNc i
    have x := s.sic l i
    have x := { x with lowNs := if run then 0 else if x.lowNs = 0 then s.ns + 1 else x.lowNs, highN := if run then min 3 (x.highN + 1) else 0 }
    (s.setSic l i x).setB (if l then SAFE.SI_STAT'LVL_L i else SAFE.SI_STAT'LVL_D i) lvl

/-- The pulse slots of a supply (R336). -/
def pulseSlot (k n : Nat) : Bool :=
  if k < 4 then n == 10 * k + 2 else n == 10 * (k - 4) + 5 || n == 10 * (k - 4) + 7

/-- TEST_FAULT is latched on an input (R337). -/
def State.testLatch (s : State) (i cause : Nat) : State :=
  if s.b (SAFE.SI_STAT'TEST_FAULT i) then s
  else (((s.set (SAFE.SI_STAT'TEST_FAULT i) 1).set (SAFE.SI_STAT'TEST_CAUSE i) cause).raise 176).safeNote 3 0xA (some i)

/-- An error in the test pattern of an input (R337). -/
def State.testError (s : State) (i cause : Nat) : State :=
  have x := s.safe.test.get i
  have t := s.sat (SAFE.SI_STAT'TEST_ERR_CNT i)
  have t := { t with safe := { t.safe with test := t.safe.test.set i { x with perErr := true } } }
  if x.prevErr ∧ !x.perErr then t.testLatch i cause else t

/-- The test read of the slot that ends counts in a channel if the samples before and after it read high (R337). -/
def State.testJudge (s : State) (i : Nat) (before after : Bool) (slot : Nat) (lvl : Bool) : State :=
  have k := s.f (SAFE.SI_CFG'SUPPLY i)
  if !(before && after) ∨ 8 ≤ k ∨ !s.siEn i then s
  else if pulseSlot k slot && lvl then s.testError i 1
  else if !pulseSlot k slot && !lvl then s.testError i 2
  else if pulseSlot k slot then
    have x := s.safe.test.get i
    { s with safe := { s.safe with test := s.safe.test.set i { x with seen := x.seen + 1 } } }
  else s

/-- A 4 ms period of the pattern ends; it was correct where it shows no error and every pulse of the supply was seen by
each of `chans` channels. -/
def SiTest.period (x : SiTest) (k chans : Nat) : SiTest :=
  ⟨false, x.perErr, if !x.perErr ∧ chans * (if k < 4 then 1 else 2) ≤ x.seen then min 2 (x.okPer + 1) else 0, 0⟩

/-- EDM through its fixed 10 ms filter (R351). -/
def State.edmSample (s : State) (k : Nat) (lvl : Bool) : State :=
  have c := s.safe.cd.get k
  have c := if c.raw = lvl then c else { c with raw := lvl, rawNs := s.ns }
  have t := { s with safe := { s.safe with cd := s.safe.cd.set k c } }
  t.iff (decide (c.rawNs + 10000000 ≤ t.ns)) (·.setCd k 2 lvl)

/-- Output `o` is in the 200 µs of its dark test (R349). -/
def State.inDark (s : State) (o : Nat) : Bool := s.safe.dark == o + 1 && decide (s.ns + 1 < s.safe.darkNs + 200000)

/-- The vote outputs and the contactor drive switches as read back, the off pulse of a dark test left out (R349). -/
def State.readBack (s : State) (rb : BitVec 16) (cdRb : BitVec 8) : State :=
  have o := s.safe.dark - 1
  have rb := if s.inDark o ∧ !s.outSto o then rb &&& ~~~(1#16 <<< o) else rb
  { s with safe := { s.safe with rb := rb, cdRb := cdRb } }

/-- A supply as read back at a sample, outside its pulses (R339). -/
def State.tpsRead (s : State) (k : Nat) (lvl : Bool) : State :=
  if !s.released pdDEAD then s
  else
    have t := s.setBitF SAFE.TPS_STAT'LEVEL k (lvl && !s.fbit SAFE.TPS_STAT'TPS_FAULT k)
    { t with safe := { t.safe with tpsNs := t.safe.tpsNs.set k (since (!lvl) (s.safe.tpsNs.get k) s.ns) } }

/-- Heartbeats that arrive with a sample: bit 0 the dead centre's, bit 1 the live centre's. A channel is awaited from its first
sample on (R332). -/
def State.heartbeats (s : State) (hb : BitVec 2) : State :=
  have v := fun (d : Nat) (i old : Nat) => if s.released d && (hb.getLsbD i || old == 0) then s.ns + 1 else old
  { s with safe := { s.safe with hbD := v pdDEAD 0 s.safe.hbD, hbL := v pdLIVE 1 s.safe.hbL } }

/-- The time left in M10 is shown (R359). -/
def State.degShow (s : State) : State :=
  if s.mode = 10 then
    s.set SAFE.SAFE_STAT'DEG_LEFT (s.f SAFE.DEG_CFG'DEG_T - (s.ns - s.safe.degNs) / 1000000)
  else s

/-- The sample of both channels at instant `x`, a multiple of 100 µs: inputs as each channel's comparators read them, EDM,
supplies, vote outputs and drive switches as read back, heartbeats (R332, R337, R339, R349). A task cycle of the live centre
that starts up to `x` reads the sample before. -/
def State.safetySample (s : State) (x : Nat) (siD siL : BitVec 24) (edm : BitVec 4) (tps : BitVec 8) (rb : BitVec 16)
    (cdRb : BitVec 8) (hb : BitVec 2) : State :=
  if x % 100000 ≠ 0 ∨ x < s.safe.srcFrame ∨ (!s.released pdDEAD ∧ !s.released pdLIVE) then s
  else
    have s := (s.liveCycle (x / 250000 * 250000)).advanceTo x
    have last := s.safe.srcFrame
    have s := { s with safe := { s.safe with srcFrame := x + 1, pulseD := 0, pulseL := 0 } }
    have slot := x % 4000000 / 100000
    have judge := fun (before : State) (t : State) => match t.safe.tr with
      | none => t
      | some (n, d, l) =>
        if (n + 1) % 40 ≠ slot ∨ last + 100000 ≠ x + 1 then { t with safe := { t.safe with tr := none } } else
        have t := t.each (upto 24) fun i u =>
          have u := u.testJudge i (before.b (SAFE.SI_STAT'LVL_D i)) (u.b (SAFE.SI_STAT'LVL_D i)) n (d.getLsbD i)
          u.testJudge i (before.b (SAFE.SI_STAT'LVL_L i)) (u.b (SAFE.SI_STAT'LVL_L i)) n (l.getLsbD i)
        { t with safe := { t.safe with tr := none } }
    have t := s.each (upto 24) fun i u => (u.siSample false i (siD.getLsbD i)).siSample true i (siL.getLsbD i)
    have t := judge s t
    have t := t.iff (x / 4000000 != (last - 1) / 4000000) fun u => u.each (upto 24) fun i v =>
      { v with safe := { v.safe with test := v.safe.test.set i ((v.safe.test.get i).period (v.f (SAFE.SI_CFG'SUPPLY i))
        ((v.released pdDEAD).toNat + (v.released pdLIVE).toNat)) } }
    have t := t.each (upto 4) fun k u => u.edmSample k (edm.getLsbD k)
    have t := t.each (upto 8) fun k u => u.tpsRead k (tps.getLsbD k)
    ((t.readBack rb cdRb).heartbeats hb).degShow.safeRun

/-- The filter of an input lets its state turn to stop (R335; an NC contact of TWOHAND: R343). -/
def State.mayStop (s : State) (l : Bool) (i : Nat) : Bool :=
  have x := s.sic l i
  s.filt l i && s.siEn i &&
    (if s.siNc i then decide (3 ≤ x.highN) else decide (x.lowNs ≠ 0 ∧ x.lowNs + s.siToff i ≤ s.safe.srcFrame))

/-- The filter of an input lets its state turn to run. -/
def State.mayRun (s : State) (l : Bool) (i : Nat) : Bool :=
  have x := s.sic l i
  !s.filt l i && s.siEn i &&
    (if s.siNc i then decide (x.lowNs ≠ 0 ∧ x.lowNs + s.siToff i ≤ s.safe.srcFrame) else decide (3 ≤ x.highN))

/-- A filtered state of a channel has changed: the dead centre evaluates at once, the live centre in its next task cycle
(R331). -/
def State.chanRun (s : State) (l : Bool) : State := if l then s.safeEval else s.safeRun

/-- An input has read low for T_OFF: its filtered state turns to stop (R335). A RESET input ends a pulse, valid if it
lasted 0.1-2.0 s (R342). -/
def State.filterStop (s : State) (l : Bool) (i : Nat) : State :=
  have x := s.sic l i
  if !s.mayStop l i then s
  else
    have t := s.setB (if l then SAFE.SI_STAT'FILT_L i else SAFE.SI_STAT'FILT_D i) false
    if t.siRole i = 4 then
      have len := t.ns + 1 - x.rstNs
      have ok := decide (x.rstNs ≠ 0 ∧ 100000000 ≤ len ∧ len ≤ 2000000000) && !t.b (SAFE.SI_STAT'TEST_FAULT i)
      have g := t.siTarget i % 4
      have t := t.setSic l i { x with rstNs := 0 }
      (if !ok then t
       else if l then { t with safe := { t.safe with pulseL := setBit t.safe.pulseL g true } }
       else { t with safe := { t.safe with pulseD := setBit t.safe.pulseD g true } }).chanRun l
    else t.chanRun l

def execInputFilterStop (live : Bool) (i : Fin 24) (s : State) : Host.Outcome State Fault Refusal := .next (s.filterStop live i.val)

/-- Three consecutive high samples turn a filtered state to run (R335). -/
def State.filterRun (s : State) (l : Bool) (i : Nat) : State :=
  have x := s.sic l i
  if !s.mayRun l i then s
  else
    have t := s.setB (if l then SAFE.SI_STAT'FILT_L i else SAFE.SI_STAT'FILT_D i) true
    (if t.siRole i = 4 then t.setSic l i { x with rstNs := t.ns + 1 } else t).chanRun l

def execInputFilterRun (live : Bool) (i : Fin 24) (s : State) : Host.Outcome State Fault Refusal := .next (s.filterRun live i.val)

/-! ### Test pulses (R336-R339) -/

/-- A supply switches off at slot start + 20 µs of its pulse slots. -/
def State.tpsOff (s : State) (x k : Nat) : State :=
  if !s.released pdDEAD ∨ x < s.ns ∨ x % 100000 ≠ 20000 ∨ !pulseSlot k (x % 4000000 / 100000) then s
  else (s.advanceTo x).setBitF SAFE.TPS_STAT'LEVEL k false

def execTestPulseStart (x : Nat) (k : Fin 8) (s : State) : Host.Outcome State Fault Refusal := .next (s.tpsOff x k.val)

/-- A supply switches on again at slot start + 70 µs; one that stays low outside its pulses reads low. -/
def State.tpsOn (s : State) (x k : Nat) : State :=
  if !s.released pdDEAD ∨ x < s.ns ∨ x % 100000 ≠ 70000 then s
  else (s.advanceTo x).setBitF SAFE.TPS_STAT'LEVEL k (!s.fbit SAFE.TPS_STAT'TPS_FAULT k && s.safe.tpsNs.get k == 0)

def execTestPulseEnd (x : Nat) (k : Fin 8) (s : State) : Host.Outcome State Fault Refusal := .next (s.tpsOn x k.val)

/-- The test read of both channels at slot start + 55 µs; its slot's end judges it (R337). -/
def State.testRead (s : State) (x : Nat) (d l : BitVec 24) : State :=
  if !s.released pdDEAD ∨ x < s.ns ∨ x % 100000 ≠ 55000 then s
  else
    have t := s.advanceTo x
    { t with safe := { t.safe with tr := some (x % 4000000 / 100000, d, l) } }

def execTestRead (x : Nat) (d l : BitVec 24) (s : State) : Host.Outcome State Fault Refusal := .next (s.testRead x d l)

/-- A supply reports overload, or has stayed low outside its pulses for more than 200 µs: it switches off for good, and its
inputs have no test any more (R339, TEST_CAUSE SUPPLY; log entry 30). -/
def State.tpsFault (s : State) (k : Nat) (overload : Bool) : State :=
  if !s.released pdDEAD ∨ s.fbit SAFE.TPS_STAT'TPS_FAULT k ∨ (!overload ∧ s.safe.tpsNs.get k = 0) then s
  else
    have s := if overload then s else s.advanceTo (s.safe.tpsNs.get k + 200000)
    have t := ((s.setBitF SAFE.TPS_STAT'TPS_FAULT k true).setBitF SAFE.TPS_STAT'LEVEL k false).raise 176
    have t := t.each ((upto 24).filter (fun i => t.siEn i && t.f (SAFE.SI_CFG'SUPPLY i) == k)) fun i u => u.testLatch i 3
    (t.iff (t.mode == 10) (·.safetyStop 3)).safeRun

def execTpsFault (k : TpsFail) (s : State) : Host.Outcome State Fault Refusal :=
  .next (s.tpsFault k.k k.overload)

/-! ### Function timers and resets (R341-R345) -/

/-- Since when a function's inputs disagree: the earlier of both hands where both do. -/
def FnCh.discFrom (x : FnCh) : Nat :=
  if x.discNs = 0 then x.disc2Ns else if x.disc2Ns = 0 then x.discNs else min x.discNs x.disc2Ns

/-- The channels of a function have disagreed for T_DISC (R341): FAULT with cause DISCREPANCY, in the channel that has
seen it; the live centre sees it in a task cycle. -/
def State.discTimeout (s : State) (l : Bool) (f : Nat) : State :=
  have x := s.fnc l f
  if x.discFrom = 0 ∨ !s.fnEn f ∨ !s.chOk l ∨ x.st = 3 ∨ (x.st ≠ 1 ∧ f ≠ 16 ∧ f ≠ 17) then s
  else
    have due := x.discFrom - 1 + 10000000 * s.f (SAFE.FN_CFG'T_DISC f)
    have t := s.advanceTo (if l then (due + 249999) / 250000 * 250000 else due)
    have y := FnCh.fault 1
    (t.fnMove f (if l then t.fnc false f else y) (if l then y else t.fnc true f)).safeEval

def execDiscrepancyTimeout (live : Bool) (f : Fin 24) (s : State) : Host.Outcome State Fault Refusal :=
  .next (s.discTimeout live f.val)

/-- REM_TO cycles without an accepted frame: FAULT with cause REMOTE_TIMEOUT (R345), in the channel that has missed it; the
live centre sees it in a task cycle. -/
def State.remoteTimeout (s : State) (f : Nat) : State :=
  if !s.fnEn f ∨ !s.b (SAFE.FN_CFG'REMOTE f) ∨ (!s.chOk false ∧ !s.chOk true) then s
  else
    have due := fun (l : Bool) => if l then (s.remDue true f + 249999) / 250000 * 250000 else s.remDue false f
    have t := s.advanceTo (if !s.chOk false then due true else if !s.chOk true then due false else min (due false) (due true))
    have y := fun (l : Bool) => if t.chOk l ∧ due l ≤ t.ns ∧ (t.fnc l f).st ≠ 3 then FnCh.fault 3 else t.fnc l f
    (t.fnMove f (y false) (y true)).safeEval

def execRemoteTimeout (f : Fin 24) (s : State) : Host.Outcome State Fault Refusal := .next (s.remoteTimeout f.val)

/-- The reset group that clears an input's TEST_FAULT (R337): of its function, of the group itself, or of the guard. -/
def State.siGroup (s : State) (i : Nat) : Nat :=
  if s.siRole i = 4 then s.siTarget i % 4
  else s.f (SAFE.FN_CFG'RST_GRP (if s.siRole i = 5 then 4 + s.siTarget i else s.siTarget i))

/-- STO_FB of a zone's bricks disagrees with its voted STO. -/
def State.stoFbWrong (s : State) (z : Nat) : Bool :=
  (upto 16).any (fun n => (s.cfg.bricks.getD n default).used && (s.cfg.bricks.getD n default).zone == z
    && s.stoDiffers n)

/-- Whether the conditions of R361 hold. -/
def State.leaveOk (s : State) : Bool :=
  s.chOk false && s.chOk true && s.f SAFE.ZONE_STAT'OUT_FAULT == 0 && s.f SAFE.ZONE_FB'STO_FB_FAULT == 0
  && (upto 4).all (fun k => !s.cdBit k 3) && (upto 24).all (fun i => !s.b (SAFE.SI_STAT'TEST_FAULT i))
  && (upto 4).all (fun f => !s.fnEn f || [0, 2].contains (s.fnc false f).st && [0, 2].contains (s.fnc true f).st)

/-- The pulse of group 0 clears DEG_EXPIRED, OVERSPEED and the latches whose causes are gone; then, where the conditions
of R361 hold, SAFE_STOP, and the request that waits may go (R361, R525; log entry 30). -/
def State.cellReset (s : State) : State :=
  have t := ((s.set SAFE.SAFE_STAT'DEG_EXPIRED 0).set SAFE.ARM_SAFE'OVERSPEED 0).set SAFE.SSM_STAT'SSM_ENV 0
  have t := { t with safe := { t.safe with overL := 0 } }
  have t := t.each (upto 8) fun z u =>
    have u := u.each [z, z + 8] fun o v => v.iff (v.outSto o == v.safe.rb.getLsbD o)
      (fun w => { w with safe := { w.safe with outFlt := setBit w.safe.outFlt o false } })
    have u := u.setBitF SAFE.ZONE_STAT'OUT_FAULT z (bit u.safe.outFlt z || bit u.safe.outFlt (z + 8))
    u.iff (!u.stoFbWrong z) fun v => (v.setBitF SAFE.ZONE_FB'STO_FB_FAULT z false).setBitF SAFE.ZONE_FB'STO_FB_WARN z false
  have t := t.each (upto 4) fun k u => u.iff (u.cdBit k 2 == !u.cdOn k) (·.setCd k 3 false)
  have t := t.iff (t.f SAFE.ZONE_STAT'OUT_FAULT == 0 && t.chOk false && t.chOk true)
    (fun u => { u with safe := { u.safe with xoffA := false, xoffB := false } })
  if t.leaveOk then
    have t := t.set SAFE.SAFE_STAT'SAFE_STOP 0
    if t.f SYS.MODE_STAT'REQ_STATE = 2 ∧ !t.sys.reqPulse then { t with sys := { t.sys with reqPulse := true, reqNs := t.ns } } else t
  else t

/-- A valid reset pulse of group `g` acts at the sample that sees its end (R342): in each healthy channel that sees it on the
channel's own functions, and on what both channels share where every healthy channel sees it (log entry 30). -/
def State.resetPulse (s : State) (g : Nat) : State :=
  have sees := fun (l : Bool) => s.chOk l && bit (if l then s.safe.pulseL else s.safe.pulseD) g
  if !(sees false || sees true) then s
  else
    have all := (!s.chOk false || sees false) && (!s.chOk true || sees true)
    have t := { s with safe := { s.safe with pulseD := setBit s.safe.pulseD g false, pulseL := setBit s.safe.pulseL g false } }
    have t := t.iff all fun t => t.each ((upto 24).filter (fun i => t.b (SAFE.SI_STAT'TEST_FAULT i) && t.siGroup i == g && decide (2 ≤ (t.safe.test.get i).okPer)))
      fun i u => (u.set (SAFE.SI_STAT'TEST_FAULT i) 0).set (SAFE.SI_STAT'TEST_CAUSE i) 0
    have go := fun (u : State) (l : Bool) (f : Nat) =>
      if sees l && (u.fnc l f).st == 2 && u.fnChan l f 0 && u.fnChan l f 1 then { (default : FnCh) with st := 0 } else u.fnc l f
    have t := t.each ((upto 24).filter (fun f => t.fnEn f && t.f (SAFE.FN_CFG'RST_GRP f) == g && f != 16 && f != 17 && decide (f < 22)))
      fun f u => u.fnMove f (go u false f) (go u true f)
    have t := t.safeNote ((sees false).toNat + 2 * (sees true).toNat) 3 (some g)
    (t.iff (g == 0 && all) (·.cellReset)).safeEval

def execResetPulse (g : Fin 4) (s : State) : Host.Outcome State Fault Refusal := .next (s.resetPulse g.val)

/-- SS1_T has passed: the vote of the zone turns to STO (R347). -/
def State.ss1Timeout (s : State) (z : Nat) : State :=
  if s.safe.ss1Ns.get z = 0 ∨ bit s.safe.ss1Done z then s
  else
    have t := s.advanceTo (s.safe.ss1Ns.get z - 1 + ms (s.f (SAFE.ZONE_CFG'SS1_T z)))
    have t := { t with safe := { t.safe with ss1Done := setBit t.safe.ss1Done z true } }
    (t.setBitF SAFE.ZONE_STAT'SS1_RUN z false).safeEval

def execSs1Timeout (z : Fin 8) (s : State) : Host.Outcome State Fault Refusal := .next (s.ss1Timeout z.val)

/-! ### Outputs (R349-R351) -/

/-- A released vote output is switched off for its dark test; no two are off together (R349). -/
def State.darkStart (s : State) (o : Nat) : State :=
  if s.inDark (s.safe.dark - 1) ∨ s.outSto o ∨ !s.released (if o < 8 then pdDEAD else pdLIVE) then s
  else { s with safe := { s.safe with dark := o + 1, darkNs := s.ns + 1 } }

def execDarkTestStart (o : Fin 16) (s : State) : Host.Outcome State Fault Refusal := .next (s.darkStart o.val)

/-- The dark test ends after 200 µs: the output is released again. -/
def State.darkEnd (s : State) (o : Nat) : State :=
  if s.safe.dark = o + 1 then
    have t := s.advanceTo (s.safe.darkNs - 1 + 200000)
    { t with safe := { t.safe with dark := 0, darkNs := 0 } }
  else s

def execDarkTestEnd (o : Fin 16) (s : State) : Host.Outcome State Fault Refusal := .next (s.darkEnd o.val)

/-- An output reads released more than 1 ms after its command, or reads STO while released outside a dark test: the other
channel cuts its group off, and the module enters M9 (R349). -/
def State.outputFault (s : State) (o : Nat) : State :=
  have stuck := s.outSto o && !s.safe.rb.getLsbD o && s.safe.rbNs.get o != 0
  have dead := !s.outSto o && s.safe.rb.getLsbD o && !s.inDark o
  if !(stuck || dead) ∨ bit s.safe.outFlt o then s
  else
    have s := if stuck then s.advanceTo (s.safe.rbNs.get o + 1000000) else s
    have s := { s with safe := { s.safe with outFlt := setBit s.safe.outFlt o true } }
    have t := (s.setBitF SAFE.ZONE_STAT'OUT_FAULT (o % 8) true).safeNote (if o < 8 then 2 else 1) 7 (some (o % 8))
    have t := { t with safe := { t.safe with xoffA := t.safe.xoffA || decide (o < 8), xoffB := t.safe.xoffB || decide (8 ≤ o) } }
    (t.raise 176).safetyStop 3

def execOutputFault (o : Fin 16) (s : State) : Host.Outcome State Fault Refusal := .next (s.outputFault o.val)

/-- STO_FB has disagreed with the votes of a zone for 10 ms (R123, R350). -/
def State.stoMismatch (s : State) (n : Nat) : State :=
  have k := s.brick n
  if (s.bport n).stoNs = 0 ∨ !s.stoDiffers n then s
  else
    have t := (s.advanceTo ((s.bport n).stoNs - 1 + ms 10)).set (BLK.PORT_STAT'STO_DISAGREE n) 1
    if s.stoVoted k.zone = some true then
      have t := (t.setBitF SAFE.ZONE_FB'STO_FB_FAULT k.zone true).safeNote 3 9 (some k.zone)
      (t.raise 176).safetyStop 3
    else t.setBitF SAFE.ZONE_FB'STO_FB_WARN k.zone true

def execStoFbMismatch (n : Fin 16) (s : State) : Host.Outcome State Fault Refusal :=
  .next (if s.domOn pdLINK then s.stoMismatch n.val else s)

/-- EDM, with its 10 ms filter, is not at the matching level EDM_T after a switching (R351, R356). -/
def State.edmTimeout (s : State) (k : Nat) : State :=
  have c := s.safe.cd.get k
  if !c.chk ∨ !s.b (SAFE.CD_CFG'EN k) then s
  else
    have t := s.advanceTo (c.swNs + ms (s.f (SAFE.CD_CFG'EDM_T k) + 10))
    have t := { t with safe := { t.safe with cd := t.safe.cd.set k { c with chk := false } } }
    if t.cdBit k 2 = !t.cdOn k then t
    else (((t.setCd k 3 true).safeNote 3 8 (some k)).raise 176).safetyStop 3

def execEdmTimeout (k : Fin 4) (s : State) : Host.Outcome State Fault Refusal := .next (s.edmTimeout k.val)

/-- CD_DELAY after every zone of the mask went to STO, the switches open (R351). -/
def State.cdDelayEnd (s : State) (k : Nat) : State :=
  have c := s.safe.cd.get k
  have from_ := fun (l : Bool) => if s.cdSwitch l k then (if l then c.offNsL else c.offNs) else 0
  have first := if from_ false = 0 then from_ true else if from_ true = 0 then from_ false else min (from_ false) (from_ true)
  have delay := ms (100 * s.f (SAFE.CD_CFG'CD_DELAY k))
  if first = 0 then s
  else
    have t := s.advanceTo (first - 1 + delay)
    have was := t.cdOn k
    have t := t.each [false, true] fun l u => u.iff (decide (from_ l ≠ 0 ∧ from_ l + delay ≤ t.ns + 1)) (·.setCd k l.toNat false)
    have sw := t.cdOn k != was
    have c := if sw then { c with swNs := t.ns, chk := true } else c
    ({ (t.iff sw (·.setCd k 4 false)) with safe := { t.safe with cd := t.safe.cd.set k c } }).safeEval

def execContactorDelayEnd (k : Fin 4) (s : State) : Host.Outcome State Fault Refusal := .next (s.cdDelayEnd k.val)

/-- A contactor that has not switched for 24 h sets STALE (R351). -/
def State.cdStale (s : State) (k : Nat) : State :=
  if !s.b (SAFE.CD_CFG'EN k) ∨ s.cdBit k 4 then s
  else (s.advanceTo ((s.safe.cd.get k).swNs + 86400 * 1000000000)).setCd k 4 true

def execContactorStale (k : Fin 4) (s : State) : Host.Outcome State Fault Refusal := .next (s.cdStale k.val)

/-! ### Cross-check, self-test, DEGRADED (R357-R360) -/

/-- A channel's heartbeat has been missing for 1 ms (R332). -/
def State.heartbeatLost (s : State) (l : Bool) : State :=
  have last := if l then s.safe.hbL else s.safe.hbD
  if (if l then s.safe.failL else s.safe.failD) ∨ last = 0 then s
  else (s.advanceTo (last - 1 + 1000000)).channelFail l 5

def execHeartbeatTimeout (live : Bool) (s : State) : Host.Outcome State Fault Refusal := .next (s.heartbeatLost live)

/-- A difference between the channels has lasted more than 2 ms: both run a self-test within 5 ms (R357, R358). -/
def State.xTimeout (s : State) (c : Nat) : State :=
  if s.safe.xNs.get c = 0 ∨ s.safe.xPend then s
  else
    have t := (s.advanceTo (s.safe.xNs.get c + 2000000)).xCause c
    have t := { t with safe := { t.safe with xPend := true, xSsm := false, xTest := ⟨[]⟩ } }
    ((t.raise 176).safeNote 3 0xD none).safeEval

/-- `c`: 0 INPUT, 1 FUNC, 2 VOTE. -/
def execCrossCheckTimeout (c : Fin 3) (s : State) : Host.Outcome State Fault Refusal := .next (s.xTimeout (c.val + 1))

/-- A lockstep mismatch marks the live centre failed (R357). -/
def State.lockstep (s : State) : State :=
  if s.safe.failL ∨ !s.released pdLIVE then s else s.channelFail true 8

def execLockstepMismatch (s : State) : Host.Outcome State Fault Refusal := .next s.lockstep

/-- A difference that no self-test attributes (R358): STO everywhere, contactors dropped, M9. -/
def State.unattributed (s : State) : State := ((s.xCause 9).raise 176).safetyStop 3

/-- A self-test of a channel completes (R357, R358). The first pass after the release of its domain makes the channel
healthy. -/
def State.selfTest (s : State) (l pass : Bool) : State :=
  have failed := if l then s.safe.failL else s.safe.failD
  if !s.released (if l then pdLIVE else pdDEAD) ∨ failed then s
  else if s.safe.xPend then
    have t := { s with safe := { s.safe with xTest := s.safe.xTest.set l.toNat (if pass then 2 else 1) } }
    match t.safe.xTest.get 0, t.safe.xTest.get 1 with
    | 0, _ => t
    | _, 0 => t
    | d, v =>
      have t := { t with safe := { t.safe with xPend := false, xTest := ⟨[]⟩, xNs := ⟨[]⟩ } }
      if d = 1 ∧ v = 2 then t.channelFail false 6
      else if d = 2 ∧ v = 1 then t.channelFail true 7
      else t.unattributed
  else if !pass then s.channelFail l (if l then 7 else 6)
  else if s.chOk l then s
  else
    have t := (s.set (if l then SAFE.SAFE_STAT'LIVE_OK else SAFE.SAFE_STAT'DEAD_OK) 1).raise 176
    have t := if l then { t with safe := { t.safe with remL := t.ns + 1 } } else { t with safe := { t.safe with remD := t.ns + 1 } }
    (t.iff (t.chOk false && t.chOk true) (·.set SAFE.SAFE_STAT'DEGRADED 0)).safeEval

def execSelfTestDone (live pass : Bool) (s : State) : Host.Outcome State Fault Refusal := .next (s.selfTest live pass)

/-- DEG_LEFT reaches 0 (R360). -/
def State.degExpire (s : State) : State :=
  if s.mode ≠ 10 then s
  else
    have t := s.advanceTo (s.safe.degNs + ms (s.f SAFE.DEG_CFG'DEG_T))
    have t := (t.set SAFE.SAFE_STAT'DEG_LEFT 0).set SAFE.SAFE_STAT'DEG_EXPIRED 1
    (t.safeNote (if t.chOk true then 2 else 1) 6 none).safetyStop 5

def execDegradedTimeout (s : State) : Host.Outcome State Fault Refusal := .next s.degExpire

/-! ### Load and release -/

/-- At an image load the mirrors take their values, every used function starts in DEMAND, and the outputs follow (R340,
R363; log entry 30). -/
def State.safeLoad (s : State) : State :=
  have t := s.each s.cfg.safe.regs fun p u => u.wrN p.1 p.2
  have t := t.each (upto 24) fun f u =>
    have x := { (default : FnCh) with st := if u.fnEn f then 1 else 0 }
    (u.setFnc false f x).setFnc true f x
  have t := { t with safe := { t.safe with test := ⟨[]⟩, tr := none, remote := ⟨[]⟩, pulseD := 0, pulseL := 0, liveIn := 0 } }
  have t := { t with safe := { t.safe with rx := ⟨[]⟩, snapB := 0, arm := ⟨[]⟩, remD := t.ns + 1, remL := t.ns + 1 } }
  (t.safeNote 3 0xE none).safeRun

end Sys2Proof.Machine
end

