-- ==== Sys2Proof/Machine/Ssm.lean ====
section
/-!
DEFINITION. Safety frames as the channels take them (spec/17_sertik_bus.md, R427-R430), and speed and separation
monitoring (spec/15_separation_monitoring.md, R352-R354, R364-R381).
-/
namespace Sys2Proof.Machine
open Sys2Proof

/-! ### Safety frames (R427-R430) -/

/-- SCRC: one bit step of the reflected polynomial 0xF4AC_FB13 (R428). -/
def scrcStep (c : Nat) : Nat := if c % 2 = 1 then (c / 2) ^^^ 0xC8DF352F else c / 2

def scrcByte (c : Nat) (x : Byte) : Nat :=
  scrcStep (scrcStep (scrcStep (scrcStep (scrcStep (scrcStep (scrcStep (scrcStep (c ^^^ x.toNat))))))))

/-- The safety CRC of a byte string (R428). -/
def scrc (l : List Byte) : Nat := l.foldl scrcByte 0xFFFFFFFF ^^^ 0xFFFFFFFF

/-- CONN_ID of a safety frame. -/
def State.connId (s : State) (f : Nat) : Nat := ((s.cfg.safe.conn.find? (fun p => p.1 == f)).map (·.2)).getD 0

def State.setSrx (s : State) (l : Bool) (f : Nat) (x : SafeRx) : State :=
  { s with safe := { s.safe with rx := s.safe.rx.set (if l then f + 1024 else f) x } }

/-- A person payload is rejected as a whole (R368). -/
def State.personBad (s : State) (k : Nat) (d : List Byte) : Bool :=
  have n := leAt d 1 1
  leAt d 0 1 != k || decide (3 < n) || leAt d 2 2 != 0
  || (upto n).any (fun r =>
    have o := 4 + 16 * r
    decide (15 < leAt d o 1) || !s.fbit (SAFE.SENSOR_CFG'PERS_MASK k) (leAt d o 1) || decide (3 < leAt d (o + 1) 1)
    || decide (sxN 16 (leAt d (o + 10) 2) < sxN 16 (leAt d (o + 8) 2)))
  || (upto (3 - n)).any (fun r => (upto 16).any (fun i => leAt d (4 + 16 * (n + r) + i) 1 != 0))

/-- The bits of remote functions that a frame carries, as a channel takes them; its next sample or task cycle evaluates them
(R345, R356). -/
def State.remoteTake (s : State) (l : Bool) (f : Nat) (d : List Byte) : State :=
  s.each (s.cfg.safe.remote.filter (fun r => r.frame == f)) fun r t =>
    have v := setBit (t.safe.remote.get (chKey l r.fn)) r.ch (bit (leAt d (r.bitNo / 8) 1) (r.bitNo % 8))
    { t with safe := { t.safe with remote := t.safe.remote.set (chKey l r.fn) v } }

/-- PAIR_STAT.FB_SUSP: in a pair, the partner's or the referee's vote is unknown (R456). -/
def State.fbSuspShow (s : State) : State :=
  s.setB FYV.PAIR_STAT'FB_SUSP (s.paired && (s.fyv.pVotes.isNone || s.fyv.rVotes.isNone))

/-- A hub frame as taken: a position with JOINT_OK = 0 counts as not received, so the position before it stays (R430). -/
def SafeRx.hub (x : SafeRx) (d : List Byte) (now : Nat) : SafeRx :=
  have ok := fun (j : Nat) => decide (j < leAt d 1 1) && bit (leAt d 0x24 1) j
  have mix := (upto d.length).map fun i =>
    if 4 ≤ i ∧ i < 0x24 ∧ !ok ((i - 4) / 4) then x.data.getD i 0 else d.getD i 0
  { x with data := mix, rxNs := now + 1, jNs := (upto 8).foldl (fun m j => if ok j then m.set j (now + 1) else m) x.jNs }

/-- An accepted safety payload with its TS reaches its users in a channel: hubs, sensors, remote functions, referee (R345,
R353, R368, R454). -/
def State.safeDeliver (s : State) (l : Bool) (f node ts : Nat) (d : List Byte) : State :=
  have x := { s.srx l f with ts := ts, data := d, rxNs := s.ns + 1 }
  match s.cfg.safe.sensors.find? (fun p => p.2.1 == f) with
  | some (k, _, nd) =>
    if nd ≠ node ∨ s.personBad k d then s.iff (!l) (·.sat SAFE.SSM_CNT'PAYLOAD_REJ) else s.setSrx l f x
  | none =>
    have t := s.setSrx l f (if s.cfg.safe.hubs.any (fun p => p.2 == f) then { (s.srx l f).hub d s.ns with ts := ts } else x)
    have t := if s.cfg.srt.referee = f then
      { t with fyv := { t.fyv with rVotes := some (leAt d 0 1, leAt d 1 1), rConsec := s.f SRT.SRT_STAT'CYCLE } }.fbSuspShow else t
    t.remoteTake l f d

/-- The checks of R429 on a 64-byte safety payload whose SOF arrived at `sof`, in one channel. -/
def State.safeTake (s : State) (l : Bool) (f node sof : Nat) (p : List Byte) : State :=
  have x := s.srx l f
  have cons := leAt p 0x34 4
  have ts := leAt p 0x38 4
  have good := leAt p 0x3C 4 == scrc (toLE 4 (s.connId f) ++ p.take 0x3C)
  have step := ns32Diff cons x.consec
  have age := ns32Diff (sof % 2 ^ 32) ts
  have reject := fun (t : State) => t.sat (if l then SRT.RX_SAFE'LIVE f else SRT.RX_SAFE'DEAD f)
  if !s.released (if l then pdLIVE else pdDEAD) then s
  else if !good then reject s
  else if x.seen ∧ step = 0 then s
  else if (x.seen ∧ step ≤ 0) ∨ age < 0 ∨ (us s.cfg.safe.ageMax : Int) < age then reject s
  else (s.setSrx l f { x with seen := true, consec := cons }).safeDeliver l f node ts (p.take 52)

/-- Each channel takes a safety frame by its own checks (R429). -/
def State.safeFrame (s : State) (f node sof : Nat) (p : List Byte) : State :=
  (s.safeTake false f node sof p).safeTake true f node sof p

/-! ### Geometry (R364-R366, R371, R372) -/

/-- A length or speed as a channel obtains it: a multiple of 1/16 mm in the dead centre, a floating-point number in the live
centre, with an error that R365 does not state (log entry 32). -/
def ssmVal (live : Bool) (x : Rat) : Rat :=
  have e := Config.ssmErr live x.num x.den
  if live then x + (e : Rat) * pow2 (-16) else (((x * 16).floor + e : Int) : Rat) / 16

/-- The square root of a rational, to 2^-20, as a channel obtains it. -/
def ssmSqrt (live : Bool) (x : Rat) : Rat :=
  ssmVal live ((isqrt (x * pow2 40).floor.toNat : Rat) * pow2 (-20))

def v3Of (l : List Rat) (i : Nat) : V3 := ⟨l.getD i 0, l.getD (i + 1) 0, l.getD (i + 2) 0⟩
def V3.list (v : V3) : List Rat := [v.x, v.y, v.z]
def V3.sub (a b : V3) : V3 := a.add (b.smul (-1))

/-- The angle of a joint of the SSM model at a hub position. -/
def SsmJoint.theta (j : SsmJoint) (pos : Int) : Rat := ((pos - j.zero : Int) : Rat) * j.scale

/-- The motion of a joint of the SSM model at an angle. -/
def SsmJoint.motion (j : SsmJoint) (th : Rat) : Motion :=
  have n := turnOfRad th.num th.den
  expScrew (v3Of j.screw 0) (v3Of j.screw 3) th ((sinTurn n : Rat) * pow2 (-80)) ((cosTurn n : Rat) * pow2 (-80))

/-- The motions of the base and of the links, from the angles of the base axis and of the joints. -/
def SsmModel.chain (m : SsmModel) (ths : List Rat) : List Motion :=
  ((upto (m.joints.length + 1)).foldl (fun (st : Motion × List Motion) j =>
    have q := st.1.mul (((m.base :: m.joints).getD j default).motion (ths.getD j 0))
    (q, st.2 ++ [q])) (Motion.one, [])).2

/-- The place of a capsule's link in the chain: joint k carries link k, 8 stands for the base. -/
def SsmCap.place (c : SsmCap) (m : SsmModel) : Nat := if c.link < m.joints.length then c.link + 1 else 0

/-- The hub frame of an arm in the snapshot, as a channel holds it. -/
def State.hubOf (s : State) (l : Bool) (a : Nat) : Option SafeRx :=
  ((s.cfg.safe.hubs.find? (fun p => p.1 == a)).map (fun p => s.safe.snap.get (if l then p.2 + 1024 else p.2)))

/-- Position j of an arm's hub frame (R430). -/
def hubPos (x : SafeRx) (j : Nat) : Int := sxN 32 (leAt x.data (4 + 4 * j) 4)

/-- The joint angles of an arm in the snapshot, the base axis first; without a base axis that one is 0. -/
def State.armAngles (s : State) (l : Bool) (a : Nat) : List Rat :=
  have m := s.cfg.safe.models.getD a default
  have h := (s.hubOf l a).getD default
  have bh := (s.hubOf l m.baseHub.1).getD default
  (if s.b (SAFE.SSM_ARM_CFG'BASE_AX a) then m.base.theta (hubPos bh m.baseHub.2) else 0) ::
    (upto m.joints.length).map (fun j => (m.joints.getD j default).theta (hubPos h j))

/-- The end points of every capsule of an arm at joint angles, as a list of coordinates, in a channel. -/
def SsmModel.ends (m : SsmModel) (live : Bool) (ths : List Rat) : List Rat :=
  have ms := m.chain ths
  m.caps.flatMap fun c =>
    have g := ms.getD (c.place m) Motion.one
    have e := fun (p : List Rat) =>
      have v := g.app (v3Of p 0)
      [ssmVal live v.x, ssmVal live v.y, ssmVal live v.z]
    e c.p0 ++ e c.p1

/-- The velocity of end point `p` of a capsule, in mm per snapshot, from the Jacobian at the midpoint of two snapshots
(R365). -/
def SsmModel.jacVel (m : SsmModel) (now before : List Rat) (c : SsmCap) (p : List Rat) : V3 :=
  have ms := m.chain ((upto now.length).map (fun j => (now.getD j 0 + before.getD j 0) / 2))
  have x := (ms.getD (c.place m) Motion.one).app (v3Of p 0)
  (upto (c.place m + 1)).foldl (fun v j =>
    have t := if j = 0 then Motion.one else ms.getD (j - 1) Motion.one
    have s := ((m.base :: m.joints).getD j default).screw
    have w := t.rot (v3Of s 0)
    have d := now.getD j 0 - before.getD j 0
    v.add ((((w.cross x).add (t.rot (v3Of s 3))).add (t.t.cross w)).smul d)) ⟨0, 0, 0⟩

def clamp01 (x : Rat) : Rat := if x < 0 then 0 else if 1 < x then 1 else x

/-- The squared distance of two segments: closest points by the clamped closed form. -/
def segDist2 (p1 q1 p2 q2 : V3) : Rat :=
  have d1 := q1.sub p1
  have d2 := q2.sub p2
  have r := p1.sub p2
  have a := d1.dot d1
  have e := d2.dot d2
  have f := d2.dot r
  have c := d1.dot r
  have b := d1.dot d2
  have at_ := fun (s t : Rat) =>
    have v := (r.add (d1.smul s)).sub (d2.smul t)
    v.dot v
  if a = 0 ∧ e = 0 then r.dot r
  else if a = 0 then at_ 0 (clamp01 (f / e))
  else if e = 0 then at_ (clamp01 (Neg.neg c / a)) 0
  else
    have den := a * e - b * b
    have s0 := if den = 0 then 0 else clamp01 ((b * f - c * e) / den)
    have t0 := (b * s0 + f) / e
    if t0 < 0 then at_ (clamp01 (Neg.neg c / a)) 0
    else if 1 < t0 then at_ (clamp01 ((b - c) / a)) 1
    else at_ s0 t0

/-! ### Persons (R367-R370) -/

/-- A person that a payload reports. Lengths in mm, speeds in mm/s. -/
structure Person where
  slot : Nat
  r : Nat
  x : Int
  y : Int
  z0 : Int
  z1 : Int
  speed : Option (Int × Int)
  age : Rat                    -- s
  deriving DecidableEq, Repr, Inhabited

/-- The snapshot's instant. -/
def State.snapNs (s : State) : Nat := s.safe.snapB - 1

/-- The persons of a sensor in the snapshot. -/
def State.sensorPersons (s : State) (l : Bool) (f : Nat) : List Person :=
  have x := s.safe.snap.get (if l then f + 1024 else f)
  have d := x.data
  (upto (leAt d 1 1)).filterMap fun r =>
    have o := 4 + 16 * r
    have at_ := fun i => sxN 16 (leAt d (o + i) 2)
    have age := ns32Diff (s.snapNs % 2 ^ 32) x.ts
    if leAt d (o + 1) 1 % 2 = 0 then none
    else some (Person.mk (leAt d o 1) (leAt d (o + 2) 2) (at_ 4) (at_ 6) (at_ 8) (at_ 10)
      (if bit (leAt d (o + 1) 1) 1 then some (at_ 12, at_ 14) else none) ((max 0 age : Int) / (1000000000 : Rat)))

/-- Every sensor that is used: (sensor, FRAME_ID). -/
def State.sensorsUsed (s : State) : List (Nat × Nat) :=
  s.cfg.safe.sensors.filterMap (fun p => if s.b (SAFE.SENSOR_CFG'EN p.1) then some (p.1, p.2.1) else none)

/-- Sertik cycles since a payload was taken, at the snapshot; `none` where there has been none. -/
def State.rxAge (s : State) (l : Bool) (f : Nat) : Option Nat :=
  have x := s.safe.snap.get (if l then f + 1024 else f)
  if x.rxNs = 0 then none else some ((s.snapNs - (x.rxNs - 1)) / 250000)

/-- A field that counts cycles 1-8, with 0 for 8. -/
def eight (n : Nat) : Nat := if n = 0 then 8 else n

/-- The sensor is stale (R369). -/
def State.sensorStale (s : State) (l : Bool) (f : Nat) : Bool :=
  match s.rxAge l f with | none => true | some n => decide (eight (s.f SAFE.SSM_CFG'PERS_TO) ≤ n)

/-- A hub position of the arm is older than HUB_AGE_MAX cycles (R353, R430). -/
def State.hubStale (s : State) (l : Bool) (a : Nat) : Bool :=
  match s.cfg.safe.hubs.find? (fun p => p.1 == a) with
  | none => false
  | some (_, f) =>
    have x := s.safe.snap.get (if l then f + 1024 else f)
    x.rxNs == 0 || (upto (leAt x.data 1 1)).any (fun j =>
      x.jNs.get j == 0 || decide (s.f SAFE.STILL_CFG'HUB_AGE_MAX < (s.snapNs - (x.jNs.get j - 1)) / 250000))

/-! ### Levels (R373, R375) -/

def State.vhOf (s : State) (live : Bool) (p : Person) : Rat :=
  have vh : Rat := (s.f SAFE.SSM_VH'V_H : Nat)
  if !s.b SAFE.SSM_CFG'V_H_MODE then vh
  else match p.speed with
    | none => vh
    | some (x, y) =>
      have v := ssmSqrt live (((x * x + y * y : Int)) : Rat)
      have fl : Rat := (s.f SAFE.SSM_VH'V_H_FLOOR : Nat)
      if v < fl then fl else v

/-- LEVEL_SCALE[l] × V_CAP_REF[a], mm/s. -/
def State.levelSpeed (s : State) (a l : Nat) : Rat :=
  ((s.f (SAFE.LEVEL_SCALE'SCALE l) * s.f (SAFE.SSM_ARM_CFG2'V_CAP_REF a) : Nat) : Rat) / 32768

/-- S_p(l) of R373, mm. -/
def State.sep (s : State) (live : Bool) (a l : Nat) (vc : Rat) (p : Person) : Rat :=
  have lv := s.levelSpeed a l
  have vr := if vc < lv then lv else vc
  have tr : Rat := ((s.f (SAFE.SSM_ARM_CFG'T_R a) : Nat) : Rat) / 10000
  have ts : Rat := ((s.f (SAFE.SSM_ARM_CFG'T_S a) : Nat) : Rat) / 1000
  have fix : Nat := s.f (SAFE.SSM_ARM_CFG'S_S0 a) + s.f SAFE.SSM_TERMS'C + s.f SAFE.SSM_TERMS'Z_D + s.f SAFE.SSM_TERMS'Z_R
  s.vhOf live p * (tr + ts + p.age) + vr * tr + vr * ts / 2 + (fix : Rat)

/-- One pair: capsule, person, separation, capsule speed. -/
structure SsmPair where
  cap : Nat
  p : Person
  d : Rat
  vc : Rat
  deriving DecidableEq, Repr, Inhabited

/-- The pair of least separation, the first where several share it. -/
def minPair : List SsmPair → Option SsmPair
  | [] => none
  | x :: t => match minPair t with | none => some x | some y => if y.d < x.d then some y else some x

/-- The new level of an arm in a channel (R375). -/
def State.levelOf (s : State) (live : Bool) (a old : Nat) (ps : List SsmPair) : Nat :=
  have pass := fun (l : Nat) (h : Rat) => ps.all (fun q => decide (s.sep live a l q.vc q.p + h ≤ q.d))
  have lc := (upto 8).foldl (fun m l => if pass l 0 then l else m) 0
  if lc ≤ old then lc
  else if pass (old + 1) ((s.f SAFE.SSM_CFG'D_HYS : Nat) : Rat) then old + 1 else old

def lvlAt (w l : Nat) : Nat := w / 2 ^ (4 * l) % 8
def lvlPut (w a l : Nat) : Nat := w - lvlAt w a * 2 ^ (4 * a) + l % 8 * 2 ^ (4 * a)

/-! ### The outcome of a snapshot (R352-R354, R376-R381) -/

def State.ssmArm (s : State) (a : Nat) : SsmArm := s.safe.arm.get a
def State.setSsmArm (s : State) (a : Nat) (x : SsmArm) : State := { s with safe := { s.safe with arm := s.safe.arm.set a x } }

/-- The robot speed of capsule `c` in mm/s, the larger of its two end-point speeds (R372): in the dead centre by the difference
of the end points, in the live centre by the Jacobian (R365). -/
def capSpeedD (now before : List Rat) (c : Nat) : Rat :=
  have v := fun (e : Nat) =>
    have d := (v3Of now (6 * c + 3 * e)).sub (v3Of before (6 * c + 3 * e))
    ssmSqrt false (d.dot d) * 1000
  if v 0 < v 1 then v 1 else v 0

def SsmModel.capSpeedL (m : SsmModel) (now before : List Rat) (c : Nat) : Rat :=
  have k := m.caps.getD c default
  have v := fun (p : List Rat) =>
    have d := m.jacVel now before k p
    ssmSqrt true (d.dot d) * 1000
  if v k.p0 < v k.p1 then v k.p1 else v k.p0

def ratMaxL (l : List Rat) : Rat := l.foldl (fun m x => if m < x then x else m) 0

/-- The speed limit of R352, by mode (R531). -/
def State.speedLimit (s : State) (m : Nat) : Option Nat :=
  match m with
  | 6 | 10 => some (s.f SAFE.SPD_CFG'V_RED)
  | 3 | 5 | 7 => some (s.f SAFE.SPD_CFG'V_AUTO)
  | _ => none

def State.speedLimitNow (s : State) : Option Nat :=
  match s.mode with
  | 8 => s.speedLimit (s.f SYS.MODE_STAT'HOLD_FROM)
  | 4 =>
    match s.fyv.pMode with
    | some m => if s.b (FYV.LINK_STAT'UP 4) then s.speedLimit m else some (s.f SAFE.SPD_CFG'V_RED)
    | none => some (s.f SAFE.SPD_CFG'V_RED)
  | m => s.speedLimit m

/-- The envelope at an instant (R378). -/
def State.envAt (s : State) (x : SsmArm) (t : Nat) : Rat :=
  have tol : Rat := ((10 * s.f SAFE.SSM_TERMS'V_TOL : Nat) : Rat)
  have k : Rat := ((t - x.tA : Nat) : Rat) / ((max 1 x.tE : Nat) : Rat)
  have v := x.bOld - (x.bOld - x.bNew) * k
  (if v < x.bNew then x.bNew else v) + tol

/-- MIN_DIST of a channel. -/
def distWord (q : Option SsmPair) : Nat :=
  match q with
  | none => 2 ^ 24
  | some p => p.p.slot % 16 * 2 ^ 28 + p.cap % 8 * 2 ^ 25 + min (2 ^ 24 - 1) (p.d * 16).floor.toNat

/-- The pairs of an arm in a channel (R371), from its capsules' end points and speeds. -/
def State.ssmPairs (s : State) (live : Bool) (a : Nat) (pts speeds : List Rat) (ps : List Person) : List SsmPair :=
  have m := s.cfg.safe.models.getD a default
  (upto (min 8 m.caps.length)).flatMap fun c =>
    ps.map fun p =>
      have d := ssmSqrt live (segDist2 (v3Of pts (6 * c)) (v3Of pts (6 * c + 3)) ⟨p.x, p.y, p.z0⟩ ⟨p.x, p.y, p.z1⟩)
        - (m.caps.getD c default).radius - (p.r : Rat)
      SsmPair.mk c p (if d < 0 then 0 else d) (speeds.getD c 0)

/-- A channel computes: its domain is released and it is not marked failed (R358). -/
def State.chActs (s : State) (l : Bool) : Bool :=
  s.released (if l then pdLIVE else pdDEAD) && !(if l then s.safe.failL else s.safe.failD)

/-- The sensors that are stale in a channel, as a mask. -/
def State.staleMask (s : State) (l : Bool) : Nat :=
  s.sensorsUsed.foldl (fun m p => if s.sensorStale l p.2 then setBit m p.1 true else m) 0

/-- The persons present in a channel. -/
def State.persons (s : State) (l : Bool) : List Person :=
  s.sensorsUsed.flatMap (fun p => if s.sensorStale l p.2 then [] else s.sensorPersons l p.2)

/-- What one channel finds for an arm at a snapshot. -/
structure SsmFind where
  on : Bool                    -- the channel computes
  stale : Bool                 -- HUB_STALE
  fast : Rat                   -- largest capsule speed, mm/s
  lvl : Nat
  near : Option SsmPair        -- pair of least separation
  deriving DecidableEq, Repr, Inhabited

/-- A channel's findings for arm `a`, from its own snapshot and its own previous one (R352, R353, R366, R369, R371-R375). -/
def State.armFind (s : State) (l : Bool) (a : Nat) : SsmFind :=
  have x := s.ssmArm a
  have m := s.cfg.safe.models.getD a default
  have en := s.b (SAFE.SSM_ARM_CFG'EN a)
  have ths := s.armAngles l a
  have pts := m.ends l ths
  have speeds := (upto (min 8 m.caps.length)).map fun c =>
    if l then (if x.thOk then m.capSpeedL ths x.th c else 0) else (if x.ptsOk then capSpeedD pts x.pts c else 0)
  have pairs := if en then s.ssmPairs l a pts speeds (s.persons l) else []
  have stale := s.hubStale l a
  have old := if l then lvlAt s.safe.lvlL a else lvlAt (s.rdN SAFE.SSM_LVL_D) a
  if !s.chActs l then ⟨false, false, 0, 0, none⟩
  else ⟨true, stale, ratMaxL speeds, if !en ∨ stale ∨ s.staleMask l ≠ 0 then 0 else s.levelOf l a old pairs, minPair pairs⟩

/-- d_min of the channels lies apart by more than DIST_TOL (R381). -/
def State.minApart (s : State) (d v : SsmFind) : Bool :=
  match d.near, v.near with
  | some p, some q => decide (((s.f SAFE.SSM_CFG'DIST_TOL : Nat) : Rat) < (if p.d < q.d then q.d - p.d else p.d - q.d))
  | none, none => false
  | _, _ => true

/-- One arm at a snapshot: levels, speeds, envelope, standstill, cross-check (R352-R354, R375-R381). -/
def State.armOutcome (s : State) (a : Nat) : State :=
  have x := s.ssmArm a
  have en := s.b (SAFE.SSM_ARM_CFG'EN a)
  have d := s.armFind false a
  have v := s.armFind true a
  have above := fun (lim : Rat) (f : SsmFind) => f.on && decide (lim < f.fast)
  have old := lvlAt (s.rdN SAFE.SSM_LEVEL) a
  have lA := if s.mode = 10 then (if s.chOk true then v.lvl else d.lvl) else min d.lvl v.lvl
  have tA := (s.ns / 50000 + 1) * 50000
  have envOn := en && x.env && decide (x.tA ≤ s.snapNs)
  have exceeds := fun (f : SsmFind) =>
    (match s.speedLimitNow with | some n => above ((n : Nat) : Rat) f | none => false) || (envOn && above (s.envAt x s.snapNs) f)
  have envBad := envOn && (above (s.envAt x s.snapNs) d || above (s.envAt x s.snapNs) v)
  have lim : Rat := ((s.f SAFE.STILL_CFG'STILL_LIM : Nat) : Rat)
  have stale := d.stale || v.stale
  have slow := (d.on || v.on) && [d, v].all (fun f => !f.on || decide (f.fast < lim))
  have still := if slow && !stale then min 3 (x.still + 1) else 0
  have apart := s.minApart d v && s.chOk false && s.chOk true
  have run := if apart then min 2 (x.tolRun + 1) else 0
  have t := { s with safe := { s.safe with lvlL := lvlPut s.safe.lvlL a v.lvl, overL := if exceeds v then setBit s.safe.overL a true else s.safe.overL } }
  have t := (t.wrN SAFE.SSM_LVL_D (lvlPut (t.rdN SAFE.SSM_LVL_D) a d.lvl)).wrN SAFE.SSM_LVL_L t.safe.lvlL
  have t := (t.wrN SAFE.SSM_LEVEL (lvlPut (t.rdN SAFE.SSM_LEVEL) a lA)).wrN (SAFE.MIN_DIST a) (distWord d.near)
  have t := t.wrN (SAFE.MIN_DIST_L a) (distWord v.near)
  have t := t.setBitF SAFE.ARM_SAFE'HUB_STALE a stale
  have t := t.setBitF SAFE.ARM_SAFE'STANDSTILL a (still == 3)
  have exceed := exceeds d || exceeds v
  have t := t.iff (exceed && !t.fbit SAFE.ARM_SAFE'OVERSPEED a) (·.safeNote 3 0xB (some a))
  have t := t.iff exceed (·.setBitF SAFE.ARM_SAFE'OVERSPEED a true)
  have t := t.iff envBad (·.setBitF SAFE.SSM_STAT'SSM_ENV a true)
  have t := t.iff (en && lA == 0 && old != 0) (fun u => (u.sat SAFE.SSM_CNT'STOP_CNT).safeNote 3 0xC (some a))
  have t := t.iff apart (·.sat SAFE.SSM_CNT'XCHK_CNT)
  have b0 := if x.env && decide (tA < x.tA + x.tE) then s.envAt x tA - ((10 * s.f SAFE.SSM_TERMS'V_TOL : Nat) : Rat) else s.levelSpeed a old
  have y := { x with still := still, tolRun := if run = 2 then 0 else run }
  have y := if d.on then { y with pts := (s.cfg.safe.models.getD a default).ends false (s.armAngles false a), ptsOk := true } else y
  have y := if v.on then { y with th := s.armAngles true a, thOk := true } else y
  have bN := s.levelSpeed a lA
  have y := if lA = old then y
    else { y with env := true, bNew := bN, tA := tA, bOld := (if old < lA then bN else b0), tE := (if lA = 0 then ms (s.f (SAFE.SSM_ARM_CFG'T_S a)) else ms (s.f (SAFE.SSM_ARM_CFG2'T_RAMP a))) }
  have t := t.setSsmArm a y
  if run = 2 ∧ !t.safe.xPend then
    have t := ((t.xCause 4).raise 176).safeNote 3 0xD none
    { t with safe := { t.safe with xPend := true, xSsm := true, xTest := ⟨[]⟩ } }
  else t

/-- The measurement snapshot for the safety channels at an L3 boundary (R366, R368). -/
def State.ssmSnapshot (s : State) : State :=
  if !s.imgValid ∨ (!s.released pdDEAD ∧ !s.released pdLIVE) then s
  else { s with safe := { s.safe with snapB := s.ns + 1, snap := s.safe.rx } }

/-- Both channels agree the outcome of the snapshot (R377); a channel that works alone gives it alone. -/
def State.ssmOutcome (s : State) : State :=
  if s.safe.snapB = 0 ∨ (!s.released pdDEAD ∧ !s.released pdLIVE) then s
  else
    have on := [false, true].filter s.chActs
    have t := s.set SAFE.SSM_STAT'SENSOR_STALE (on.foldl (fun m l => m ||| s.staleMask l) 0)
    have t := t.set SAFE.PERS_STAT'PRESENT ((s.persons (!s.chActs false)).foldl (fun m p => setBit m p.slot true) 0)
    have t := t.each (upto 8) fun a u => u.armOutcome a
    have t := { t with safe := { t.safe with snapB := 0, snap := ⟨[]⟩ } }
    t.safeEval

/-- The outcome of both channels for the snapshot (R377). -/
def execSsmOutcome (s : State) : Host.Outcome State Fault Refusal := .next s.ssmOutcome

end Sys2Proof.Machine
end

