-- ==== Sys2Proof/Machine/Portal.lean ====
section
/-!
DEFINITION. Portals (spec/16_portals.md, R382-R399). The velocity loop's law and the ends of a stroke whose position is not
known are not stated by the spec: duties and those ends are free values (log entry 33).
-/
namespace Sys2Proof.Machine
open Sys2Proof

def ptLOCKED : Nat := 0
def ptUNLOCK_WAIT : Nat := 1
def ptCLOSED : Nat := 2
def ptOPENING : Nat := 3
def ptOPEN : Nat := 4
def ptCLOSING : Nat := 5
def ptSTOPPED : Nat := 6
def ptREVERSING : Nat := 7
def ptFAULT : Nat := 8

def State.pt (s : State) (p : Nat) : PortP := s.port.p.get p
def State.setPt (s : State) (p : Nat) (x : PortP) : State := { s with port := { s.port with p := s.port.p.set p x } }
def State.ptSt (s : State) (p : Nat) : Nat := s.f (PORT.PORT_STAT'STATE p)
def State.homed (s : State) (p : Nat) : Bool := s.b (PORT.PORT_STAT'HOMED p)

/-- A change of state; FAULT, OPEN, LOCKED and REVERSING raise the portal event (R399). -/
def State.ptGo (s : State) (p st : Nat) : State :=
  if s.ptSt p = st then s
  else (s.set (PORT.PORT_STAT'STATE p) st).iff ([ptFAULT, ptOPEN, ptLOCKED, ptREVERSING].contains st) (·.raise 184)

/-- The unlock request is set or withdrawn; the channels act on it at once (R395). -/
def State.unlockReq (s : State) (p : Nat) (on : Bool) : State :=
  if s.b (PORT.PORT_STAT'UNLOCK_REQ p) = on then s
  else
    have x := s.pt p
    ((s.setB (PORT.PORT_STAT'UNLOCK_REQ p) on).setPt p
      (if on then { x with reqNs := s.ns + 1 } else { x with wdNs := s.ns + 1 })).safeEval

def State.guardBoth (s : State) (p : Nat) : Bool := s.guardRun false p && s.guardRun true p
def State.lockBoth (s : State) (p : Nat) : Bool := s.lockFb false p && s.lockFb true p
def State.edgeAny (s : State) (p : Nat) : Bool := s.edgeStop false p || s.edgeStop true p

/-- The learned count of a direction: 0 opening, 1 closing. -/
def learnLoc (p d : Nat) : Loc := if d = 0 then PORT.PORT_STAT'LEARN_O p else PORT.PORT_STAT'LEARN_C p

/-- Direction of a movement: 0 opening, 1 closing. -/
def State.ptDir (s : State) (p : Nat) : Nat :=
  if s.ptSt p = ptCLOSING then 1 else if s.ptSt p = ptREVERSING then (s.pt p).revOpen.toNat else 0

def State.ptLearned (s : State) (p d : Nat) : Bool := s.homed p && decide (8 ≤ s.f (learnLoc p d))
def State.ptMoving (s : State) (p : Nat) : Bool := [ptOPENING, ptCLOSING, ptREVERSING].contains (s.ptSt p)

/-! ### Position, current, threshold (R383, R385, R391) -/

/-- Integer position from the origin, or the elapsed travel in µs (PORT_POS). -/
def State.ptPos (s : State) (p : Nat) : Int :=
  have q := s.portal p
  if q.posLs then (((s.ns - (s.pt p).startNs) / 1000 : Nat) : Int)
  else s.posBnd q.fb / 256 - (s.pt p).origin

/-- The bin (R385). -/
def State.ptBin (s : State) (p : Nat) : Nat :=
  have q := s.portal p
  if q.posLs then
    have t := if s.ptDir p = 0 then (s.pt p).travelO else (s.pt p).travelC
    if t = 0 then 0 else min 63 ((64 * s.ptPos p) / t).toNat
  else if q.posOpen ≤ 0 then 0
  else (clampI 0 63 (64 * s.ptPos p / q.posOpen)).toNat

/-- A current in mA from its square in codes, by the scale of the section. -/
def portMilli (q : PortTopo) (sq : Rat) : Nat :=
  have x := q.curScale * ((isqrt (sq * pow2 40).floor.toNat : Rat) * pow2 (-20))
  min 65535 (x.floor.toNat + (Config.portUp x.num x.den).toNat)

/-- The inputs of a portal's current: two of its group, or the single one. -/
def State.ptInputs (s : State) (p : Nat) : List Nat :=
  have q := s.portal p
  if q.kind = 0 then [(s.cfg.locals.getD q.lpg default).ainA, (s.cfg.locals.getD q.lpg default).ainB] else [q.ain]

/-- I_MEAS (R383): √(iα² + iβ²) = √(4/3·(ia² + ia·ib + ib²)), or |VALUE|. -/
def State.ptMeasure (s : State) (p : Nat) : State :=
  have ws := (s.ptInputs p).map s.slotWord
  have x := s.pt p
  if ws.all usable then
    have v := ws.map valueOf
    have a := v.getD 0 0
    have b := v.getD 1 0
    have sq : Rat := if (s.portal p).kind = 0 then ((4 * (a * a + a * b + b * b) : Int) : Rat) / 3 else ((a * a : Int) : Rat)
    (s.set (PORT.PORT_CUR'I_MEAS p) (portMilli (s.portal p) sq)).setPt p { x with badRun := 0 }
  else s.setPt p { x with badRun := min 3 (x.badRun + 1) }

/-- The threshold in force, in mA (R391). -/
def State.ptThreshold (s : State) (p : Nat) : Nat :=
  have q := s.portal p
  have d := s.ptDir p
  have thr := if !s.ptLearned p d then q.iFix
    else
      have x : Rat := ((s.f (PORT.ENV'MA p d (s.ptBin p)) : Nat) : Rat) * (1 + q.marginRel) + (q.marginAbs : Rat)
      x.floor.toNat + (Config.portUp x.num x.den).toNat
  min 65535 (if (s.pt p).startNs + ms q.startBlank ≤ s.ns then thr else max thr q.iStart)

/-! ### Drive (R386, R387, R392) -/

/-- The portal's group holds all gates off with its brake applied; an external drive gets no command. -/
def State.ptRest (s : State) (p : Nat) : State :=
  have q := s.portal p
  if q.kind = 2 then
    { s with dio := { s.dio with portOut := setBit (setBit s.dio.portOut q.runOpen false) q.runClose false } }
  else
    have g := 64 + q.lpg
    s.setGrp g { s.grp g with drive := false }

/-- Brake: HON = 0 on every pair, the holding brake applied; an external drive stops (R392). -/
def State.ptBrake (s : State) (p : Nat) : State :=
  have q := s.portal p
  if q.kind = 2 then s.ptRest p
  else
    have g := 64 + q.lpg
    have t := (s.setGrp g { s.grp g with drive := true }).shadowWrite g [0, 0, 0]
    if q.brake ∧ t.f (PWM.GRP_CFG'SPARE_SRC g) = 2 then (t.wrN (PWM.DUTY_SH g 3) 0).markSpare g else t

/-- The motor is driven: duties by the velocity loop, whose law the spec does not state; the holding brake released. -/
def State.ptDrive (s : State) (p dir : Nat) : State :=
  have q := s.portal p
  if q.kind = 2 then
    { s with dio := { s.dio with portOut := setBit (setBit s.dio.portOut q.runOpen (dir == 0)) q.runClose (dir == 1) } }
  else
    have g := 64 + q.lpg
    let (a, t) := s.fresh 16
    let (b, t) := t.fresh 16
    let (c, t) := t.fresh 16
    have h := t.half + 1
    have t := (t.setGrp g { t.grp g with drive := true }).shadowWrite g [a % h, b % h, c % h]
    if q.brake ∧ t.f (PWM.GRP_CFG'SPARE_SRC g) = 2 then (t.wrN (PWM.DUTY_SH g 3) t.half).markSpare g else t

/-- Speed command towards the direction of motion, limited by acceleration, LEARN_SCALE and the creep distance (R382,
R391). -/
def State.ptRamp (s : State) (p : Nat) : State :=
  have q := s.portal p
  have x := s.pt p
  have d := s.ptDir p
  have dist := if d = 0 then q.posOpen - s.ptPos p else s.ptPos p
  have top : Rat := if s.homed p ∧ !q.posLs ∧ dist ≤ (q.creepDist : Int) then (q.creep : Rat)
    else if s.ptLearned p d then (q.travel : Rat) else (q.travel : Rat) * q.learnScale
  have unit : Nat := 2 ^ 32 / 20000
  have tgt := if x.stopTo = 0 then (top * ((unit : Nat) : Rat)).floor.toNat else 0
  have stp := q.accel * unit / 20000
  s.setPt p { x with v := if x.v < tgt then min tgt (x.v + stp) else max tgt (x.v - stp) }

/-! ### Movements and their records (R389, R398) -/

/-- A clean cycle learns (R385, R389): the envelope takes the largest values, the count advances, and with both directions
learned the pair of envelopes goes to flash (R390). -/
def State.ptLearn (s : State) (p : Nat) : State :=
  have x := s.pt p
  have d := x.kind - 1
  have q := s.portal p
  if 8 ≤ s.f (learnLoc p d) then s
  else
    have t := s.each (upto 64) fun k u => u.wrN (PORT.ENV p d k) (max (u.rdN (PORT.ENV p d k)) (min 65535 (x.cycMax.get k)))
    have t := t.set (learnLoc p d) (t.f (learnLoc p d) + 1)
    if t.f (PORT.PORT_STAT'LEARN_O p) = 8 ∧ t.f (PORT.PORT_STAT'LEARN_C p) = 8 ∧ !t.standby ∧ t.domOn pdFLASH ∧ q.used then
      have env := (upto 8).flatMap fun i => (upto 2).flatMap fun j => (upto 64).flatMap fun k => toLE 2 (t.rdN (PORT.ENV i j k))
      have cnt := (upto 8).flatMap fun i => (upto 2).map fun j => b8 (t.f (learnLoc i j))
      have id := t.nand.recId + 1
      have body := [2, 0] ++ toLE 2 id ++ toLE 4 (t.rdN SYS.STRUCT_HASH_LO) ++ toLE 4 (t.rdN SYS.STRUCT_HASH_HI) ++ toLE 4 0
        ++ env ++ cnt
      { t with nand := { t.nand with recId := id } }.nandQueue (.rec_ 3 (body ++ toLE 4 (crc32c body)) 0)
    else t

/-- The record of a movement is appended by the active module (R398). A cycle that began unhomed is clean only in that it
measures the travel times of POS_SRC = 1, and nothing is learned from it (R385, R389; log entry 33). -/
def State.ptRecord (s : State) (p end_ : Nat) : State :=
  have x := s.pt p
  if !x.open_ then s
  else
    have d := x.kind - 1
    have clean := x.clean && (decide (end_ < 2) || (end_ == 2 && x.closedNs != 0)) && (!bit x.flags 6 || (s.portal p).posLs)
    have learn := clean && !bit x.flags 6 && decide (s.f (learnLoc p d) < 8)
    have lockMs := if end_ = 1 ∧ x.closedNs ≠ 0 then (s.ns + 1 - x.closedNs) / 1000000 else 0
    have no := (x.cycNo + 1) % 2 ^ 32
    have dur := ((if x.closedNs ≠ 0 then x.closedNs - 1 else s.ns) - x.startNs) / 1000
    have t := s.setPt p { x with open_ := false, cycNo := no, unlTo := false }
    have t := t.iff learn (·.ptLearn p)
    have e := [b8 0x50, b8 p, b8 x.kind, b8 end_] ++ toLE 4 no ++ toLE 6 (x.startNs / 1000000000) ++ [0, 0]
      ++ toLE 4 (x.startNs % 1000000000) ++ toLE 4 dur ++ toLE 4 (uN 32 x.startPos) ++ toLE 4 (uN 32 (t.ptPos p))
      ++ toLE 2 (min 65535 x.peak) ++ [b8 x.peakBin, b8 x.reversals, b8 (x.flags + clean.toNat + 2 * learn.toNat + 32 * x.unlTo.toNat),
        b8 (t.f (learnLoc p d)), b8 (t.f (PORT.PORT_STAT'FAULT_CAUSE p)), b8 t.mode]
      ++ toLE 2 x.unlockMs ++ toLE 2 lockMs ++ toLE 4 (t.rdN SYS.IMG_SAFE_ID) ++ List.replicate 12 0
    have t := t.work 16
    have t := t.iff (end_ != 2 && end_ != 4 && end_ != 5) (·.inc (PORT.PORT_CNT'CYCLES p))
    if t.standby then t else t.ringAppend 6 (e ++ toLE 4 (crc32c e))

/-- A movement begins; one that CLOSED has ended and that no lock has followed is recorded first. It can be clean only if it starts at rest at an end: in OPEN, or in UNLOCK_WAIT with the guard still in
RUN (R389). -/
def State.ptStart (s : State) (p dir : Nat) : State :=
  have s := s.iff (s.pt p).open_ (·.ptRecord p 2)
  have x := s.pt p
  have unlock := if s.ptSt p = ptUNLOCK_WAIT then (s.ns + 1 - x.reqNs) / 1000000 else 0
  have x := { x with startNs := s.ns, kind := dir + 1, peak := 0, peakBin := 0, reversals := 0, v := 0, stopTo := 0 }
  have x := { x with flags := if s.homed p then 0 else 0x40, clean := s.ptSt p == ptOPEN || (s.ptSt p == ptUNLOCK_WAIT && s.guardBoth p), open_ := true, cycMax := ⟨[]⟩ }
  have x := { x with exceed := 0, revOn := false, edgeSeen := false, unlockMs := unlock, closedNs := 0 }
  have t := (s.setPt p x).ptGo p (if dir = 0 then ptOPENING else ptCLOSING)
  t.setPt p { t.pt p with startPos := t.ptPos p }

/-- A portal enters FAULT (R387). -/
def State.ptFault (s : State) (p cause : Nat) : State :=
  have x := s.pt p
  have y := if x.open_ then x
    else { x with startNs := s.ns, startPos := s.ptPos p, peak := 0, peakBin := 0, reversals := 0, flags := if s.homed p then 0 else 0x40, unlockMs := 0, closedNs := 0 }
  have t := (s.setPt p { y with clean := false, open_ := true, kind := if y.kind = 0 then 1 else y.kind }).ptRest p
  have t := t.set (PORT.PORT_STAT'FAULT_CAUSE p) cause
  have t := t.iff (cause == 1) (·.set (PORT.PORT_FLAGS'LOCK_FAULT p) 1)
  (t.ptGo p ptFAULT).ptRecord p 4

/-- The controlled stop has ended. -/
def State.ptStopped (s : State) (p end_ : Nat) : State := ((s.ptRest p).ptGo p ptSTOPPED).ptRecord p end_

/-- The open end is reached (R387). -/
def State.ptOpened (s : State) (p : Nat) : State :=
  have x := s.pt p
  have t := s.iff ((s.portal p).posLs && x.clean && x.kind == 1) fun u =>
    u.setPt p { u.pt p with travelO := max 1 ((u.ns - x.startNs) / 1000) }
  have t := ((t.ptRest p).ptGo p ptOPEN).ptRecord p (if x.reversals = 0 then 0 else 3)
  t.iff ((t.portal p).posLs && (t.pt p).travelO != 0 && (t.pt p).travelC != 0) (·.set (PORT.PORT_STAT'HOMED p) 1)

/-- The closed end is reached with the guard in RUN: CLOSED, the request withdrawn; the position origin is set the first
time (R385, R387). -/
def State.ptClosed (s : State) (p : Nat) : State :=
  have x := s.pt p
  have q := s.portal p
  have t := if q.posLs then
      s.iff (x.clean && x.kind == 2) fun u => u.setPt p { u.pt p with travelC := max 1 ((u.ns - x.startNs) / 1000) }
    else if s.homed p then s
    else (s.setPt p { x with origin := s.posBnd q.fb / 256 }).set (PORT.PORT_STAT'HOMED p) 1
  have t := t.iff (q.posLs && (t.pt p).travelO != 0 && (t.pt p).travelC != 0) (·.set (PORT.PORT_STAT'HOMED p) 1)
  have t := (t.ptRest p).setPt p { t.pt p with closedNs := t.ns + 1 }
  (t.ptGo p ptCLOSED).unlockReq p false

/-! ### Commands (R386) -/

def State.ptRefuse (s : State) (p code : Nat) : State :=
  ((s.set (PORT.PORT_FLAGS'CMD_REFUSED p) 1).set (PORT.PORT_FLAGS'REFUSE_CODE p) code).refusal 16

/-- A write of PORT_CMD (R386); in the standby module a host write is ignored (R452, R510). -/
def State.doorCmdWrite (s : State) (w : Req) (p : Nat) (v : Word) : State :=
  have op := bit v.toNat 0
  have cl := bit v.toNat 1
  have st := bit v.toNat 2
  have rl := bit v.toNat 3
  if !(op || cl || st || rl) then s
  else if s.actsAsHost w ∧ s.standby ∧ s.paired then s.set FYV.PAIR_ERR'STANDBY_WR 1
  else if !(s.portal p).used ∨ !s.b (PORT.PORT_CFG'EN p) then s.ptRefuse p 1
  else if !(decide (3 ≤ s.mode ∧ s.mode ≤ 10)) ∨ (rl ∧ s.mode ≠ 3) then s.ptRefuse p 2
  else if op ∧ cl then s.ptRefuse p 3
  else if cl ∧ s.edgeAny p then s.ptRefuse p 4
  else if s.ptSt p = ptFAULT ∧ (op ∨ cl ∨ rl) then s.ptRefuse p 5
  else if rl ∧ s.ptMoving p then s.ptRefuse p 6
  else
    have x := s.pt p
    have stop := x.cmdStop || st
    s.setPt p { x with cmdStop := stop, cmdRelearn := x.cmdRelearn || rl, cmdOpen := !stop && (op || (x.cmdOpen && !cl)), cmdClose := !stop && (cl || (x.cmdClose && !op)) }

def execPortOpen (w : Req) (p : Fin 8) (s : State) : Host.Outcome State Fault Refusal :=
  .next (s.regCmd w (PORT.PORT_CMD p) (·.doorCmdWrite w p 1))

def execPortClose (w : Req) (p : Fin 8) (s : State) : Host.Outcome State Fault Refusal :=
  .next (s.regCmd w (PORT.PORT_CMD p) (·.doorCmdWrite w p 2))

def execPortStop (w : Req) (p : Fin 8) (s : State) : Host.Outcome State Fault Refusal :=
  .next (s.regCmd w (PORT.PORT_CMD p) (·.doorCmdWrite w p 4))

def execPortRelearn (w : Req) (p : Fin 8) (s : State) : Host.Outcome State Fault Refusal :=
  .next (s.regCmd w (PORT.PORT_CMD p) (·.doorCmdWrite w p 8))

/-- The commands that wait take effect at the L1 boundary (R386, R387). -/
def State.ptCommand (s : State) (p : Nat) : State :=
  have x := s.pt p
  have st := s.ptSt p
  have t := s.setPt p { x with cmdOpen := false, cmdClose := false, cmdStop := false, cmdRelearn := false }
  have t := t.iff x.cmdRelearn fun u =>
    ((u.each (upto 128) fun i v => v.wrN (PORT.ENV p (i / 64) (i % 64)) 0).set (PORT.PORT_STAT'LEARN_O p) 0).set (PORT.PORT_STAT'LEARN_C p) 0
  have wait := fun (u : State) => (u.unlockReq p true).ptGo p ptUNLOCK_WAIT
  if x.cmdStop then
    if st = ptOPENING ∨ st = ptCLOSING then t.setPt p { t.pt p with stopTo := 1, clean := false }
    else if st = ptUNLOCK_WAIT then
      have u := t.unlockReq p false
      u.ptGo p (if u.lockBoth p then ptLOCKED else if u.guardBoth p then ptCLOSED else ptSTOPPED)
    else if st = ptFAULT then
      have c := t.f (PORT.PORT_STAT'FAULT_CAUSE p)
      have trip := decide ((t.portal p).kind < 2) && t.b (PWM.GRP_STAT'TRIPPED (64 + (t.portal p).lpg))
      have gone := !trip && !(c == 4 && t.b (FB.FB_STAT'FB_FAULT (t.portal p).fb)) && !(c == 5 && (t.pt p).badRun == 3)
      if gone then ((t.ptGo p ptSTOPPED).set (PORT.PORT_STAT'FAULT_CAUSE p) 0).set (PORT.PORT_STAT'HOMED p) 0 else t
    else t
  else if x.cmdOpen then
    if st = ptLOCKED ∨ st = ptCLOSED then wait t
    else if st = ptSTOPPED then
      if t.guardRun false p || t.guardRun true p || t.lockFb false p || t.lockFb true p then wait t else t.ptStart p 0
    else if st = ptCLOSING then t.setPt p { t.pt p with stopTo := 2, clean := false }
    else t
  else if x.cmdClose then
    if st = ptOPEN ∨ st = ptSTOPPED then (if t.edgeAny p then t.ptRefuse p 4 else t.ptStart p 1)
    else if st = ptOPENING then t.setPt p { t.pt p with stopTo := 2, clean := false }
    else t
  else t

/-! ### The portal at an L1 boundary (R383-R393) -/

/-- Obstacle or sensing edge: the portal brakes and reverses (R392, R393). `edge`: the cause. -/
def State.ptReverse (s : State) (p : Nat) (edge : Bool) : State :=
  have x := s.pt p
  have x := { x with detNs := s.ns, revOn := false, clean := false, reversals := min 255 (x.reversals + 1), exceed := 0, stopTo := 0, v := 0 }
  have x := { x with flags := if edge then (if bit x.flags 2 then x.flags else x.flags + 4) else (if bit x.flags 3 then x.flags else x.flags + 8), edgeSeen := x.edgeSeen || edge }
  have t := (s.setPt p x).set (if edge then PORT.PORT_FLAGS'EDGE_HIT p else PORT.PORT_FLAGS'OBSTACLE p) 1
  have t := t.sat (if edge then PORT.PORT_CNT'EDGES p else PORT.PORT_CNT'OBSTACLES p)
  have t := t.setPt p { t.pt p with revOpen := s.ptSt p == ptOPENING }
  (t.ptBrake p).ptGo p ptREVERSING

/-- The ends of the stroke, as the portal sees them: open, closed (R385; log entry 33). -/
def State.ptEnds (s : State) (p : Nat) : (Bool × Bool) × State :=
  have q := s.portal p
  if q.posLs then ((s.fbit DIO.DIO_IN'IN q.openLs, s.fbit DIO.DIO_IN'IN q.closedLs), s)
  else if s.homed p then ((decide (q.posOpen ≤ s.ptPos p), decide (s.ptPos p ≤ 0)), s)
  else
    let (o, t) := s.fresh 1
    ((o == 1, t.guardBoth p), t)

/-- A moving portal: peak, exceedances, ends, ramps (R387, R389, R392). -/
def State.ptMove (s : State) (p : Nat) : State :=
  have q := s.portal p
  have st := s.ptSt p
  have cur := s.f (PORT.PORT_CUR'I_MEAS p)
  have thr := s.ptThreshold p
  have x := s.pt p
  have k := s.ptBin p
  have x := { x with edgeSeen := x.edgeSeen && s.edgeAny p }
  have ratio := if thr = 0 then 65535 else min 65535 (256 * cur / thr)
  have x := { x with peakBin := if x.peak < ratio then k else x.peakBin, peak := max x.peak ratio, cycMax := x.cycMax.set k (max (x.cycMax.get k) cur), exceed := if st = ptREVERSING then 0 else if thr < cur then min 255 (x.exceed + 1) else 0 }
  have t := (s.setPt p x).set (PORT.PORT_CUR'THRESHOLD p) thr
  if st ≠ ptREVERSING ∧ t.edgeAny p ∧ !x.edgeSeen then t.ptReverse p true
  else
    let (ends, t) := t.ptEnds p
    if st = ptOPENING then
      if ends.1 then t.ptOpened p
      else
        have t := t.ptRamp p
        if x.stopTo ≠ 0 ∧ (t.pt p).v = 0 then
          if x.stopTo = 2 then ((t.ptRecord p 2).ptStart p 1) else t.ptStopped p 2
        else t.ptDrive p 0
    else if st = ptCLOSING then
      if ends.2 ∧ t.guardBoth p then t.ptClosed p
      else
        have t := t.ptRamp p
        if x.stopTo ≠ 0 ∧ (t.pt p).v = 0 then
          if x.stopTo = 2 then ((t.ptRecord p 2).ptStart p 0) else t.ptStopped p 2
        else t.ptDrive p 1
    else if !x.revOn then t.ptBrake p
    else
      have far := if q.posLs then t.fresh 1 else ((decide (q.revDist ≤ (t.ptPos p - x.revFrom).natAbs)).toNat, t)
      if far.1 = 1 ∨ ends.2 then far.2.ptStopped p 3 else far.2.ptDrive p 1

/-- One portal at an L1 boundary (R383). -/
def State.portL1 (s : State) (p : Nat) : State :=
  have q := s.portal p
  if !q.used then s
  else
    have s := s.ptMeasure p
    have s := (s.setB (PORT.PORT_STAT'LOCK_FB p) (s.lockFb false p)).setB (PORT.PORT_STAT'EDGE p) (s.edgeAny p)
    have s := if s.ptSt p ≠ ptFAULT ∧ (s.pt p).badRun = 3 then s.ptFault p 5 else s
    have ok := decide (3 ≤ s.mode ∧ s.mode ≤ 10)
    if !ok then
      have t := if s.ptMoving p then s.ptStopped p 5 else if s.ptSt p = ptUNLOCK_WAIT then s.ptGo p ptSTOPPED else s.ptRest p
      (t.iff (t.pt p).open_ (·.ptRecord p 5)).unlockReq p false
    else
      have st0 := s.ptSt p
      have trip := decide (q.kind < 2) && s.b (PWM.GRP_STAT'TRIPPED (64 + q.lpg))
      have fbBad := !q.posLs && s.b (FB.FB_STAT'FB_FAULT q.fb)
      have s := if (st0 = ptOPENING ∨ st0 = ptCLOSING) ∧ trip then s.ptFault p 3
        else if (st0 = ptOPENING ∨ st0 = ptCLOSING) ∧ fbBad then s.ptFault p 4
        else s
      have s := s.ptCommand p
      have st := s.ptSt p
      have s :=
        if st = ptUNLOCK_WAIT then
          (if s.b (PORT.PORT_STAT'LKD_ON p) ∧ !s.lockFb false p ∧ !s.lockFb true p then s.ptStart p 0 else s)
        else if st = ptCLOSED then
          (if s.lockBoth p then (s.ptGo p ptLOCKED).ptRecord p 1 else s)
        else if st = ptSTOPPED ∧ s.guardBoth p then (s.ptGo p ptCLOSED).unlockReq p false
        else if s.ptMoving p then s
        else s.ptRest p
      have s := s.iff (s.ptMoving p) (·.ptMove p)
      if q.posLs ∧ !s.ptMoving p then s else (s.set (PORT.PORT_STAT'BIN p) (s.ptBin p)).wrI (PORT.PORT_POS p) (s.ptPos p)

/-- Every portal at an L1 boundary. -/
def State.portalsL1 (s : State) : State := s.each (upto 8) fun p t => t.portL1 p

/-! ### Timers (R387, R391, R392) -/

def State.ptUsable (s : State) (p : Nat) : Bool := s.domOn pdCTL && (s.portal p).used

/-- UNLOCK_TO passes in UNLOCK_WAIT (R387). -/
def State.unlockTimeout (s : State) (p : Nat) : State :=
  if !s.ptUsable p ∨ s.ptSt p ≠ ptUNLOCK_WAIT then s
  else
    have t := s.advanceTo ((s.pt p).reqNs - 1 + ms (s.portal p).unlockTo)
    have t := ((t.set (PORT.PORT_FLAGS'UNLOCK_TIMEOUT p) 1).setPt p { t.pt p with unlTo := true }).unlockReq p false
    t.ptGo p (if t.lockBoth p then ptLOCKED else if t.guardBoth p then ptCLOSED else ptSTOPPED)

def execUnlockTimeout (p : Fin 8) (s : State) : Host.Outcome State Fault Refusal := .next (s.unlockTimeout p.val)

/-- LOCK_T passes in CLOSED without the lock (R387). -/
def State.lockTimeout (s : State) (p : Nat) : State :=
  if !s.ptUsable p ∨ s.ptSt p ≠ ptCLOSED ∨ s.lockBoth p ∨ (s.pt p).wdNs = 0 then s
  else (s.advanceTo ((s.pt p).wdNs - 1 + ms (s.portal p).lockT)).ptFault p 1

def execLockTimeout (p : Fin 8) (s : State) : Host.Outcome State Fault Refusal := .next (s.lockTimeout p.val)

/-- Travel longer than TRAVEL_MAX (R387). -/
def State.travelTimeout (s : State) (p : Nat) : State :=
  if !s.ptUsable p ∨ !(s.ptSt p = ptOPENING ∨ s.ptSt p = ptCLOSING) then s
  else (s.advanceTo ((s.pt p).startNs + ms (s.portal p).travelMax)).ptFault p 2

def execTravelTimeout (p : Fin 8) (s : State) : Host.Outcome State Fault Refusal := .next (s.travelTimeout p.val)

/-- OBS_N consecutive exceedances detect an obstacle (R392). -/
def State.obstacle (s : State) (p : Nat) : State :=
  if !s.ptUsable p ∨ !(s.ptSt p = ptOPENING ∨ s.ptSt p = ptCLOSING) ∨ (s.pt p).exceed < max 1 (s.portal p).obsN then s
  else s.ptReverse p false

def execObstacleDetect (p : Fin 8) (s : State) : Host.Outcome State Fault Refusal := .next (s.obstacle p.val)

/-- BRAKE_T after detection the portal drives in the opposite direction: after CLOSING it opens, after OPENING it goes back
by REV_DIST (R387, R392). -/
def State.reverseStart (s : State) (p : Nat) : State :=
  have x := s.pt p
  if !s.ptUsable p ∨ s.ptSt p ≠ ptREVERSING ∨ x.revOn then s
  else
    have t := s.advanceTo (x.detNs + ms (s.portal p).brakeT)
    if !x.revOpen then (t.ptGo p ptOPENING).ptDrive p 0
    else (t.setPt p { x with revOn := true, revFrom := t.ptPos p }).ptDrive p 1

def execReverseDriveStart (p : Fin 8) (s : State) : Host.Outcome State Fault Refusal := .next (s.reverseStart p.val)

/-- START_BLANK into a movement the threshold is I_THR alone (R391). -/
def State.blankEnd (s : State) (p : Nat) : State :=
  if !s.ptUsable p ∨ !s.ptMoving p then s
  else
    have t := s.advanceTo ((s.pt p).startNs + ms (s.portal p).startBlank)
    t.set (PORT.PORT_CUR'THRESHOLD p) (t.ptThreshold p)

def execStartBlankEnd (p : Fin 8) (s : State) : Host.Outcome State Fault Refusal := .next (s.blankEnd p.val)

/-! ### Load and release (R388, R390) -/

/-- PORT_CFG and the start state of every portal, at an image load or a release of the CTL domain (R388). `forget`: the
envelopes are cleared (R389). -/
def State.portalsLoad (s : State) (forget : Bool) : State :=
  s.each (upto 8) fun p t =>
    have q := t.portal p
    have t := t.setPt p { (default : PortP) with cycNo := (t.pt p).cycNo }
    have t := t.wrN (PORT.PORT_CFG p) (if !q.used then 0 else
      2 ^ 31 + q.kind * 2 ^ 28 + q.posLs.toNat * 2 ^ 27 + q.zone * 2 ^ 24 + q.lpg * 2 ^ 20 + (q.fb - 64) * 2 ^ 16 + q.brake.toNat * 2 ^ 15)
    have t := (t.set (PORT.PORT_STAT'STATE p) ptSTOPPED).set (PORT.PORT_STAT'HOMED p) 0
    have t := (t.set (PORT.PORT_STAT'UNLOCK_REQ p) 0).set (PORT.PORT_STAT'FAULT_CAUSE p) 0
    have t := t.iff forget fun u =>
      ((u.each (upto 128) fun i v => v.wrN (PORT.ENV p (i / 64) (i % 64)) 0).set (PORT.PORT_STAT'LEARN_O p) 0).set (PORT.PORT_STAT'LEARN_C p) 0
    t.iff q.used (·.ptRest p)

/-- The newest envelope record whose tag is the STRUCT_HASH in force is taken at the release of the CTL domain, as soon as the
flash can be read (R390). -/
def State.envRecall (s : State) : State :=
  if !s.port.recallDue ∨ !s.domOn pdFLASH ∨ !s.domOn pdCTL then s else
  have s := { s with port := { s.port with recallDue := false } }
  have tag := toLE 4 (s.rdN SYS.STRUCT_HASH_LO) ++ toLE 4 (s.rdN SYS.STRUCT_HASH_HI)
  have recs := s.nand.pages.cells.filter (fun c => c.2.part == 3 && leAt c.2.data 0 1 == 2 && (c.2.data.drop 4).take 8 == tag)
  match recs.foldl (fun (m : Option (List Byte)) c => match m with
      | none => some c.2.data
      | some d => if leAt d 2 2 < leAt c.2.data 2 2 then some c.2.data else some d) none with
  | none => s
  | some d =>
    have t := s.each (upto 1024) fun i u => u.wrN (PORT.ENV (i / 128) (i / 64 % 2) (i % 64)) (leAt d (16 + 2 * i) 2)
    t.each (upto 16) fun i u => u.set (learnLoc (i / 2) (i % 2)) (leAt d (2064 + i) 1)

end Sys2Proof.Machine
end

