-- ==== Sys2Proof/Machine/Shift.lean ====
section
/-!
DEFINITION. Elapsed times across a jump of device time: the module's delays run on clocks of their own (R331, R537), and
the model keeps their starting instants in DT. Where DT jumps, at STEP_CMD and at a reset of TIME, the instants kept by
the other domains move with it (log entry 42).
-/
namespace Sys2Proof.Machine
open Sys2Proof

/-- An instant moved by `d` ns; 0 stands for none, and no instant becomes 0. -/
def shN (d : Int) (v : Nat) : Nat := if v = 0 then 0 else max 1 ((v : Int) + d).toNat

/-- A function applied to every listed value. -/
def Sparse.mapV {α : Type} (f : α → α) (m : Sparse α) : Sparse α := ⟨m.cells.map (fun c => (c.1, f c.2))⟩

def SafeH.shift (d : Int) (x : SafeH) : SafeH :=
  { x with
    si := x.si.mapV (fun c => { c with lowNs := shN d c.lowNs, rstNs := shN d c.rstNs })
    fn := x.fn.mapV (fun c => { c with discNs := shN d c.discNs, disc2Ns := shN d c.disc2Ns, atNs := shN d c.atNs, firstNs := shN d c.firstNs })
    remD := shN d x.remD
    remL := shN d x.remL
    liveAt := shN d x.liveAt
    hbD := shN d x.hbD
    hbL := shN d x.hbL
    tpsNs := x.tpsNs.mapV (shN d)
    darkNs := shN d x.darkNs
    cd := x.cd.mapV (fun c => { c with offNs := shN d c.offNs, offNsL := shN d c.offNsL, swNs := shN d c.swNs, rawNs := shN d c.rawNs })
    ss1Ns := x.ss1Ns.mapV (shN d)
    rbNs := x.rbNs.mapV (shN d)
    xNs := x.xNs.mapV (shN d)
    degNs := shN d x.degNs
    rx := x.rx.mapV (fun c => { c with rxNs := shN d c.rxNs, jNs := c.jNs.mapV (shN d) })
    snap := x.snap.mapV (fun c => { c with rxNs := shN d c.rxNs, jNs := c.jNs.mapV (shN d) })
    snapB := shN d x.snapB
    arm := x.arm.mapV (fun c => { c with tA := shN d c.tA })
    srcFrame := shN d x.srcFrame }

def PortP.shift (d : Int) (x : PortP) : PortP :=
  { x with startNs := shN d x.startNs, detNs := shN d x.detNs, reqNs := shN d x.reqNs, wdNs := shN d x.wdNs,
           closedNs := shN d x.closedNs }

def NRing.shift (d : Int) (x : NRing) : NRing :=
  { x with buf := x.buf.map (fun e => { e with ns := shN d e.ns }), fly := x.fly.map (fun e => { e with ns := shN d e.ns }) }

/-- Every instant kept outside the domain TIME moves by `d` ns. -/
def State.shiftTimes (s : State) (d : Int) : State :=
  { s with
    sys := { s.sys with reqNs := shN d s.sys.reqNs, patch := { s.sys.patch with checkedNs := shN d s.sys.patch.checkedNs } }
    rst := { s.rst with coreWdNs := s.rst.coreWdNs.map (fun c => (c.1, shN d c.2)) }
    pwr := { s.pwr with reqAt := s.pwr.reqAt.mapV (shN d), thermNs := shN d s.pwr.thermNs, coolFrom := shN d s.pwr.coolFrom, waiting := s.pwr.waiting.map (fun r => { r with atNs := shN d r.atNs }) }
    evt := { s.evt with raisedAt := s.evt.raisedAt.mapV (shN d), lastMsg := s.evt.lastMsg.mapV (shN d) }
    fb := { s.fb with ch := s.fb.ch.mapV (fun c => { c with pulseNs := shN d c.pulseNs }) }
    dio := { s.dio with cmpNs := s.dio.cmpNs.mapV (shN d), lastRefresh := s.dio.lastRefresh.mapV (shN d), tickNs := shN d s.dio.tickNs, uvFrom := s.dio.uvFrom.mapV (shN d), okFrom := s.dio.okFrom.mapV (shN d) }
    prf := { s.prf with pg := s.prf.pg.mapV (fun c => { c with idleNs := shN d c.idleNs }) }
    adc := { s.adc with refNs := shN d s.adc.refNs }
    blk := { s.blk with port := s.blk.port.mapV (fun c => { c with tx := c.tx.map (fun f => (shN d f.1, f.2)), lastStat := shN d c.lastStat, stoNs := shN d c.stoNs, trainNs := shN d c.trainNs }) }
    chuck := { s.chuck with stallFrom := shN d s.chuck.stallFrom, pool := s.chuck.pool.map (fun j => { j with enqNs := shN d j.enqNs, availNs := shN d j.availNs, dispNs := shN d j.dispNs }) }
    gc := { s.gc with cores := s.gc.cores.mapV (fun c => { c with wdFrom := shN d c.wdFrom }) }
    safe := s.safe.shift d
    port := { s.port with p := s.port.p.mapV (PortP.shift d) }
    nand := { s.nand with safe := s.nand.safe.shift d, cyc := s.nand.cyc.shift d }
    srt := { s.srt with syncSof := shN d s.srt.syncSof, stNs := shN d s.srt.stNs }
    fyv := { s.fyv with timeNs := shN d s.fyv.timeNs, downNs := shN d s.fyv.downNs, swapNs := s.fyv.swapNs + d } }

end Sys2Proof.Machine
end

