-- ==== Sys2Proof/Machine/Time.lean ====
section
/-!
DEFINITION. Device time: stepping, rate, slew, holdover, the start and stop of the boundary generator, timestamps
(spec/18_time_base.md, R432-R445; R421 of spec/17_sertik_bus.md; log entry 34).
-/
namespace Sys2Proof.Machine
open Sys2Proof

/-- 1 ppm in units of 2^-40 (R439). -/
def ppm : Int := 1099512

/-- 4 ppm: the step of the ramp of R421. -/
def rampStep : Int := 4 * 1099511

/-- DT follows the active module of the pair: the standby, while its steady link is UP, whatever SRC holds (R458). -/
def State.steadyTime (s : State) : Bool := s.paired && s.standby && s.b (FYV.LINK_STAT'UP 4)

/-- DT is steered by the Fyver follower logic: SRC = FYVER, or the standby's steady link (R440, R458). -/
def State.fyvTime (s : State) : Bool := s.f TIME.TIME_CTRL'SRC == 3 || s.steadyTime

/-- The RATE that RATE_ADJ and the slew ask for: their sum never exceeds ±RATE_MAX (R432, R438, R439). -/
def State.rateTarget (s : State) : Int :=
  have mx := (s.f TIME.RATE_MAX'RATE_MAX : Int) * ppm
  clampI (Neg.neg mx) mx (s.rdI TIME.RATE_ADJ + s.time.slewing)

/-- The module leads a Sertik bus (R421). -/
def State.srtLeads (s : State) : Bool := s.b SRT.SRT_STAT'LEADER

/-- RATE becomes `r`; the carriers' counts follow (R83). -/
def State.setRate (s : State) (r : Int) : State := { s with time := { s.time with rate := r } }.carrierRetime

/-- A change of RATE takes effect at the next CTL edge, or in the ramp of R421. -/
def State.timeRetarget (s : State) : State := if s.srtLeads then s else s.setRate s.rateTarget

/-- The slew ends or stops: its rate leaves RATE. -/
def State.slewStop (s : State) : State :=
  ({ s with time := { s.time with slewing := 0 } }.set TIME.TIME_STAT'SLEWING 0).timeRetarget

/-- What a slew still removes while its rate ramps down from `r` in steps of `rampStep` per Sertik cycle, in 2^-32 ns: at
most 125 cycles from 500 ppm (R421). -/
def rampDown (r : Nat) : Nat → Nat
  | 0 => 0
  | n + 1 => (r - rampStep.toNat * (n + 1)) * 250000 / 256 + rampDown r n

/-- One step of the ramp at a Sertik cycle start while the module leads (R421): at most 4 ppm towards the target; a slew
begins its ramp down in time for SLEW_LEFT to reach 0 as the ramp ends. -/
def State.rateRamp (s : State) : State :=
  if !s.srtLeads then s
  else
    have adj := s.rdI TIME.RATE_ADJ
    have part := (s.time.rate - adj).natAbs
    have down := decide (s.time.slewing ≠ 0 ∧ s.time.slewLeft.natAbs ≤ rampDown part 140 + part * 250000 / 256)
    have tgt := if down then clampI (Neg.neg ((s.f TIME.RATE_MAX'RATE_MAX : Int) * ppm)) ((s.f TIME.RATE_MAX'RATE_MAX : Int) * ppm) adj else s.rateTarget
    s.setRate (s.time.rate + clampI (Neg.neg rampStep) rampStep (tgt - s.time.rate))

/-! ### Steering writes (R436-R440, R445) -/

def State.adjRefused (s : State) : State := (s.set TIME.TIME_STAT'ADJ_REFUSED 1).refusal 18

/-- A write of RATE_ADJ (R439, R440, R445). -/
def State.rateAdjWrite (s : State) (w : Req) (v : Word) : State :=
  if !s.hostOrSupv w ∨ s.fyvTime ∨ s.b TIME.TIME_STAT'HOLDOVER then s.adjRefused
  else
    have mx := (s.f TIME.RATE_MAX'RATE_MAX : Int) * ppm
    have c := clampI (Neg.neg mx) mx v.toInt
    ((s.wrI TIME.RATE_ADJ c).iff (decide (c ≠ v.toInt)) (·.adjRefused)).timeRetarget

def execRateAdjWrite (w : Req) (v : BitVec 32) (s : State) : Host.Outcome State Fault Refusal :=
  .next (s.regCmd w TIME.RATE_ADJ (·.rateAdjWrite w v))

/-- A write of RATE_MAX: 1-500 ppm, other values ignored; RATE_ADJ is clamped with it (R439). -/
def State.rateMaxWrite (s : State) (v : Word) : State :=
  have n := v.toNat % 1024
  if n < 1 ∨ 500 < n then s
  else
    have mx := (n : Int) * ppm
    ((s.set TIME.RATE_MAX'RATE_MAX n).wrI TIME.RATE_ADJ (clampI (Neg.neg mx) mx (s.rdI TIME.RATE_ADJ))).timeRetarget

def execRateMaxWrite (w : Req) (v : BitVec 32) (s : State) : Host.Outcome State Fault Refusal :=
  .next (s.regCmd w TIME.RATE_MAX (·.rateMaxWrite v))

/-- A slew of `ns` starts or replaces the remainder (R438). -/
def State.slewStart (s : State) (ns : Int) : State :=
  have r := (s.f TIME.SLEW_RATE'SLEW_RATE : Int) * ppm
  have t := { s with time := { s.time with slewLeft := ns * 2 ^ 32, slewing := if ns = 0 then 0 else if ns < 0 then Neg.neg r else r } }
  ((t.wrI TIME.SLEW_LEFT ns).setB TIME.TIME_STAT'SLEWING (decide (ns ≠ 0))).timeRetarget

/-- A write of SLEW_NS (R438, R440, R445). -/
def State.slewWrite (s : State) (w : Req) (v : Word) : State :=
  if !s.hostOrSupv w ∨ s.fyvTime ∨ s.b TIME.TIME_STAT'HOLDOVER ∨ v.toInt < -1000000 ∨ 1000000 < v.toInt then s.adjRefused
  else s.slewStart v.toInt

def execSlewWrite (w : Req) (v : BitVec 32) (s : State) : Host.Outcome State Fault Refusal :=
  .next (s.regCmd w TIME.SLEW_NS (·.slewWrite w v))

/-- SLEW_LEFT reaches 0 and the slew rate is removed (R438); while the module leads, the ramp decides when (R421). -/
def State.slewEnd (s : State) : State :=
  have r := s.slewRate.natAbs
  if !s.domOn pdTIME ∨ !s.b TIME.TIME_STAT'SLEWING then s
  else if s.time.slewLeft = 0 then s.slewStop
  else if s.srtLeads ∨ r = 0 then s
  else (s.edges ((s.time.slewLeft.natAbs * 2 ^ 40 + 10737418240 * r - 1) / (10737418240 * r))).slewStop

def execSlewEnd (s : State) : Host.Outcome State Fault Refusal := .next s.slewEnd

/-- The starting instant of the generator: the first multiple of 1 ms strictly after the edge in force (R437). -/
def State.armStart (s : State) : State :=
  { s with time := { s.time with startArmed := true, startNs := (s.ns / 1000000 + 1) * 1000000 } }

/-- DT jumps to `n`, in 2^-32 ns, by `d` ns: what is kept as an instant moves with it, and a start that is armed is
taken in the stepped DT (R437; log entry 42). -/
def State.dtJump (s : State) (n : Nat) (d : Int) : State :=
  have t := { s with time := { s.time with dt := n, syncNs := shN d s.time.syncNs, ppsNs := shN d s.time.ppsNs } }.shiftTimes d
  if t.time.startArmed then t.armStart else t

/-- STEP_CMD.GO (R436, R438, R440). -/
def State.stepGo (s : State) (w : Req) : State :=
  if !s.hostOrSupv w then s.adjRefused
  else if s.cycRun ∨ 1000000000 ≤ s.rdN TIME.SET_NS then (s.set TIME.TIME_STAT'STEP_REFUSED 1).refusal 18
  else
    have sec := s.rdN TIME.SET_SEC_LO + 2 ^ 32 * s.f TIME.SET_SEC_HI'SET_SEC_HI
    have n := sec * 1000000000 + s.rdN TIME.SET_NS
    s.dtJump (n * 2 ^ 32) ((n : Int) - s.ns)

def execStepGo (w : Req) (s : State) : Host.Outcome State Fault Refusal := .next (s.regCmd w TIME.STEP_CMD (·.stepGo w))

/-- STEP_CMD.HOLD_EXIT clears HOLDOVER and SLEW_LEFT; GM_ID comes from the next Announce (R444, R445). -/
def State.holdExit (s : State) (w : Req) : State :=
  if !s.hostOrSupv w then s.adjRefused
  else
    have t := { s with time := { s.time with slewLeft := 0, gmLatch := true } }
    ((t.set TIME.TIME_STAT'HOLDOVER 0).wrN TIME.SLEW_LEFT 0).slewStop

def execHoldExit (w : Req) (s : State) : Host.Outcome State Fault Refusal := .next (s.regCmd w TIME.STEP_CMD (·.holdExit w))

/-- A write of STEP_CMD: HOLD_EXIT, then GO. -/
def State.stepCmdWrite (s : State) (w : Req) (v : Word) : State :=
  (s.iff (bit v.toNat 30) (·.holdExit w)).iff (bit v.toNat 31) (·.stepGo w)

/-- Holdover (R444): the slew stops with its rest kept, and DT runs at RATE_ADJ. -/
def State.holdover (s : State) (cause : Nat) : State :=
  if s.b TIME.TIME_STAT'HOLDOVER then s
  else (((s.set TIME.TIME_STAT'HOLDOVER 1).set TIME.TIME_STAT'HOLD_CAUSE cause).slewStop).raise 200

/-- No Sync for SYNC_TO ms on the servo port (R444). -/
def State.syncTimeout (s : State) : State :=
  if !s.domOn pdTIME ∨ !(s.f TIME.TIME_CTRL'SRC = 1 ∨ s.f TIME.TIME_CTRL'SRC = 2) then s
  else (s.advanceTo (s.time.syncNs + ms (s.f TIME.SYNC_TO'SYNC_TO))).holdover 0

def execPtpSyncTimeout (s : State) : Host.Outcome State Fault Refusal := .next s.syncTimeout

/-- An Announce message with a grandmasterIdentity arrives on port `p` (R444). -/
def State.announce (s : State) (p gm : Nat) : State :=
  if s.f TIME.TIME_CTRL'SRC ≠ p + 1 then s
  else if s.time.gmLatch then
    { ((s.wrN TIME.GM_ID_LO gm).wrN TIME.GM_ID_HI (gm / 2 ^ 32)) with time := { s.time with gmLatch := false } }
  else if s.rdN TIME.GM_ID_LO + 2 ^ 32 * s.rdN TIME.GM_ID_HI = gm then s
  else s.holdover 1

/-! ### The boundary generator (R21, R437) -/

/-- RUN = 1 arms the start. -/
def State.runSet (s : State) : State :=
  if s.b TIME.TIME_CTRL'RUN then s else (s.set TIME.TIME_CTRL'RUN 1).armStart

def execTimeRunSet (w : Req) (s : State) : Host.Outcome State Fault Refusal := .next (s.regCmd w TIME.TIME_CTRL (·.runSet))

/-- RUN = 0 stops the generator at once; modes that need cycles go to M9 (R437, R523). -/
def State.runClear (s : State) : State :=
  if !s.b TIME.TIME_CTRL'RUN then s
  else
    have t := { (s.set TIME.TIME_CTRL'RUN 0) with time := { s.time with startArmed := false } }
    have t := t.set SYS.CYCLE_CFG'CYC_RUN 0
    if voteMode t.mode then t.modeTo 9 7 false else t

def execTimeRunClear (w : Req) (s : State) : Host.Outcome State Fault Refusal := .next (s.regCmd w TIME.TIME_CTRL (·.runClear))

/-- A write of TIME_CTRL. A new SRC takes its GM_ID from the next Announce (R444). -/
def State.timeCtrlWrite (s : State) (v : Word) : State :=
  have old := s.f TIME.TIME_CTRL'SRC
  have run := s.b TIME.TIME_CTRL'RUN
  have t := (s.plainWrite TIME.TIME_CTRL v).setB TIME.TIME_CTRL'RUN run
  have t := if t.f TIME.TIME_CTRL'SRC = old then t else { t with time := { t.time with gmLatch := true, syncNs := t.ns } }
  if bit v.toNat 31 then t.runSet else t.runClear

/-- The generator starts at its starting instant (R437): CYC_RUN = 1, and every level has a boundary there; L3_SEQ and
the virtual times begin at 0. -/
def State.genStart (s : State) : State :=
  if !s.domOn pdTIME ∨ !s.time.startArmed then s
  else
    have t := s.advanceTo s.time.startNs
    have t := { t with time := { t.time with startArmed := false, bnd := t.time.startNs, l0next := t.time.startNs, l1next := t.time.startNs, l2next := t.time.startNs, l3next := t.time.startNs } }
    have t := (t.set SYS.CYCLE_CFG'CYC_RUN 1).set SYS.CYCLE_STAT'L3_SEQ 0
    t.each (upto 64) fun a u => if (u.ctl.ax.get a).tau = 0 then u else
      { u with ctl := { u.ctl with ax := u.ctl.ax.set a { u.ctl.ax.get a with tau := 0 } } }

def execBoundaryGeneratorStart (s : State) : Host.Outcome State Fault Refusal := .next s.genStart

/-! ### Reads of time, timestamps, PPS (R432, R435, R442, R443) -/

/-- A read of DT_NS latches the seconds of the same edge for the requester. -/
def State.dtNsRead (s : State) (w : Req) : State :=
  have sec := s.ns / 1000000000
  ((s.latch w TIME.DT_SEC_LO (sec % 2 ^ 32)).latch w TIME.DT_SEC_HI (sec / 2 ^ 32 % 65536)).answer (.data (s.ns % 1000000000))

def execDtNsRead (w : Req) (s : State) : Host.Outcome State Fault Refusal := .next (s.regRead w TIME.DT_NS (·.dtNsRead w))

/-- A frame with its timestamp request bit has left port `p` (R443). -/
def State.txTimestamp (s : State) (p tag : Nat) (ns : Nat) : State :=
  have q := s.time.txts.get p
  if 16 ≤ q.length then (s.sat (TIME.TS_OVF'CNT p)).raise 200
  else { s with time := { s.time with txts := s.time.txts.set p (q ++ [(tag, ns % 1000000000, ns / 1000000000)]) } }

/-- A read of TXTS_HDR pops the oldest entry (R443). -/
def State.txtsPop (s : State) (w : Req) (p : Nat) : State :=
  match s.time.txts.get p with
  | [] => s.answer (.data 0)
  | (tag, ns, sec) :: q =>
    have t := { s with time := { s.time with txts := s.time.txts.set p q } }
    have t := ((t.latch w (TIME.TXTS_NS p) ns).latch w (TIME.TXTS_SEC_LO p) (sec % 2 ^ 32)).latch w (TIME.TXTS_SEC_HI p) (sec / 2 ^ 32 % 65536)
    t.answer (.data (2 ^ 31 + q.length * 65536 + tag % 65536))

def execTxtsPop (w : Req) (p : Fin 2) (s : State) : Host.Outcome State Fault Refusal :=
  .next (s.regRead w (TIME.TXTS_HDR p) (·.txtsPop w p))

/-- At a change of SEC PPS_OUT goes high for 1 ms. -/
def State.pps (s : State) : State :=
  if !s.domOn pdTIME ∨ !s.b TIME.TIME_CTRL'PPS_EN then s
  else
    have t := if s.ns % 1000000000 = 0 then s else s.advanceTo ((s.ns / 1000000000 + 1) * 1000000000)
    { t with time := { t.time with ppsNs := t.ns + 1 } }

def execPpsPulse (s : State) : Host.Outcome State Fault Refusal := .next s.pps

/-- What a step does where no command waits: one CTL edge passes, and device time advances (R432; log entry 49). -/
def State.tick (s : State) : State := s.edges 1

end Sys2Proof.Machine
end

