-- ==== Sys2Proof/Machine/Sertik.lean ====
section
/-!
DEFINITION. The Sertik bus: slots and transmission, reception, start-up and leadership, channel loss, takeover, spare
slots (spec/17_sertik_bus.md, R400-R431; log entry 35).
-/
namespace Sys2Proof.Machine
open Sys2Proof

/-- States of R418 as coded in SRT_STAT. -/
def srtOFF : Nat := 0
def srtLISTEN : Nat := 1
def srtCOLDSTART : Nat := 2
def srtBACKOFF : Nat := 3
def srtINTEGRATE : Nat := 4
def srtACTIVE : Nat := 5
def srtTAKEOVER : Nat := 6

def State.srtState (s : State) : Nat := s.f SRT.SRT_STAT'STATE

/-- The engine runs: its domain answers, and it is enabled. -/
def State.srtOn (s : State) : Bool := s.domOn pdLINK && s.b SRT.SRT_CTRL'EN && s.srtState != srtOFF

/-- A new state begins. -/
def State.srtEnter (s : State) (st : Nat) : State :=
  { (s.set SRT.SRT_STAT'STATE st) with srt := { s.srt with stNs := s.ns, runs := 0, heardSync := false, silent := 0 } }

/-- The Sertik event with an error bit. -/
def State.srtErr (s : State) (l : Loc) : State := (s.set l 1).raise 192

def State.member (s : State) : Nat := s.f FYV.PAIR_STAT'MEMBER
def State.srtIdx (s : State) : Nat := s.f SRT.SRT_CFG'CS_IDX
def State.srtNode (s : State) : Nat := s.f SRT.SRT_CFG'NODE_ID
def State.cycleNo (s : State) : Nat := s.f SRT.SRT_STAT'CYCLE

/-- The channel is used (SRT_CTRL). -/
def State.chUsed (s : State) (ch : Nat) : Bool := if ch = 0 then s.b SRT.SRT_CTRL'CH_A_EN else s.b SRT.SRT_CTRL'CH_B_EN

/-- The schedule of a channel: slots 4-67. -/
def State.srtSched (s : State) (ch : Nat) : List SrtSlot := if ch = 0 then s.cfg.srt.chA else s.cfg.srt.chB

/-- The schedule entry of slot `k`. -/
def State.slotOf (s : State) (ch k : Nat) : Option SrtSlot := if 4 ≤ k ∧ k < 68 then (s.srtSched ch)[k - 4]? else none

/-- Node `nd` may send in the slot: its owner, or for a TWIN slot the node of member 1 (R406, R410). -/
def State.mayOwn (s : State) (e : SrtSlot) (nd : Nat) : Bool :=
  e.owner == nd || (e.kind == 2 && s.cfg.srt.node.contains e.owner && s.cfg.srt.node[1]? == some nd)

/-- The slot is sent by this member (R410). -/
def State.ownSlot (s : State) (e : SrtSlot) : Bool :=
  if e.kind = 2 then s.member == 1 && s.mayOwn e s.srtNode else e.owner == s.srtNode

/-- Slots of a frame that this member sends, on a channel. -/
def State.ownSlots (s : State) (ch f : Nat) : List Nat :=
  (upto 64).filterMap (fun i => match (s.srtSched ch)[i]? with
    | some e => if s.ownSlot e ∧ e.frame = f ∧ e.kind ≠ 4 then some (i + 4) else none
    | none => none)

/-- The page of FRAME_ID `f` is a transmit page (R431). -/
def State.txFrame (s : State) (f : Nat) : Bool := !(s.ownSlots 0 f).isEmpty || !(s.ownSlots 1 f).isEmpty

/-- Frames that this member sends. -/
def State.txFrames (s : State) : List Nat := (upto 224).filter s.txFrame

/-- Frames that the module receives. -/
def State.rxFrames (s : State) : List Nat := (upto 256).filter (fun f => s.b (SRT.RX_CFG'EN f) && !s.txFrame f)

/-- Byte `i` of the grant table (R422, R431). -/
def State.grant (s : State) (i : Nat) : Nat := s.rdN (SRT.GRANT (i / 4)) / 256 ^ (i % 4) % 256
def State.setGrant (s : State) (i v : Nat) : State :=
  have w := s.rdN (SRT.GRANT (i / 4))
  s.wrN (SRT.GRANT (i / 4)) (w - s.grant i * 256 ^ (i % 4) + v * 256 ^ (i % 4))

/-- DT of the start of the present cycle, in ns (R402). -/
def State.cycStart (s : State) : Nat := s.ns / 250000 * 250000

/-! ### Frames (R405, R422, R453) -/

/-- A frame of this node between SOF and EOF. -/
def State.srtFrame (s : State) (kind ch slot frame : Nat) (safety : Bool) (payload : List Byte) : List Byte :=
  have h := [b8 (kind + (if safety then 16 else 0) + 32 * ch), b8 (s.srtNode + 32 * s.member), b8 slot, b8 payload.length]
    ++ toLE 2 s.cycleNo ++ [b8 frame, 0] ++ payload
  h ++ toLE 4 (crc32c h)

/-- The payload of this node's SYNC frame (R422, R424). -/
def State.syncPayload (s : State) : List Byte :=
  have c := s.cycStart
  have tk := s.srtState == srtTAKEOVER
  toLE 6 (c / 1000000000) ++ toLE 2 0 ++ toLE 4 (c % 1000000000) ++ [b8 s.srtIdx, b8 tk.toNat]
    ++ toLE 2 (s.f SRT.SRT_CFG'SCHED_ID) ++ toLE 4 (if tk then s.srt.shift else 0) ++ toLE 2 (if tk then s.srt.toCycle else 0)
    ++ toLE 2 0 ++ (upto 24).map (fun i => b8 (s.grant i))

/-- The votes as shown: bit z = 1 for STO in zone z, A group and B group. -/
def State.votesA (s : State) : Nat := s.f SAFE.ZONE_STAT'VOTE_A
def State.votesB (s : State) : Nat := s.f SAFE.ZONE_STAT'VOTE_B_L

/-- Seconds since the last role change, saturating (R462). -/
def State.swapAge (s : State) : Nat := min (2 ^ 32 - 1) (((s.ns : Int) - s.fyv.swapNs).toNat / 1000000000)

/-- The safety frame of a heartbeat (R427, R453), sent at `ns`. -/
def State.heartbeat (s : State) : List Byte :=
  have st := s.member + (if s.b FYV.PAIR_STAT'ACTIVE then 2 else 0) + (if s.f FYV.PAIR_STAT'STATE = 2 then 4 else 0)
    + (if s.b FYV.PAIR_STAT'SWAP_DUE then 8 else 0)
  have h := s.f SAFE.SAFE_STAT'DEAD_OK + 2 * s.f SAFE.SAFE_STAT'LIVE_OK + 4 * s.f SAFE.SAFE_STAT'DEGRADED
  have p := [b8 st, b8 s.mode, b8 h, 0, b8 s.votesA, b8 s.votesB, 0, 0] ++ toLE 4 (s.rdN SYS.STRUCT_HASH_LO)
    ++ toLE 4 (s.rdN SYS.STRUCT_HASH_HI) ++ toLE 4 (s.rdN SYS.IMG_SAFE_ID) ++ toLE 4 s.swapAge ++ toLE 28 0
  have q := p ++ toLE 4 (s.ns / 250000) ++ toLE 4 s.ns32
  q ++ toLE 4 (scrc (toLE 4 (s.connId (s.cfg.srt.heart.getD s.member 0)) ++ q))

/-! ### Slot ends and channel loss (R411, R415) -/

/-- A slot counts for the loss of channel `ch` (R415); a node does not count the slots in which it sends itself. -/
def State.counted (s : State) (ch k : Nat) : Bool :=
  have heard := fun nd => s.srt.prev.any (fun h => h.node == nd)
  if k < 3 then k != s.srtIdx && s.srt.prev.any (fun h => h.slot == k)
  else match s.slotOf ch k with
    | some e => e.kind != 3 && !s.ownSlot e && heard e.owner
    | none => false

/-- The end of slot `k` on one channel. -/
def State.slotEndCh (s : State) (k ch : Nat) : State :=
  have got := s.srt.heard.any (fun h => h.ch == ch && h.slot == k)
  if !s.chUsed ch then s
  else if got then { s with srt := { s.srt with miss := s.srt.miss.set ch 0, alive := s.srt.alive.set ch false } }
  else if s.counted ch k then
    have other := s.srt.heard.any (fun h => h.ch == 1 - ch && h.slot == k)
    { s with srt := { s.srt with miss := s.srt.miss.set ch (min 3 (s.srt.miss.get ch + 1)), alive := s.srt.alive.set ch (s.srt.alive.get ch || other), dirty := s.srt.dirty.set ch true } }
  else s

/-- The end of slot `k`: a send buffer copy that waited is taken (R411). -/
def State.slotEnd (s : State) (k : Nat) : State :=
  have fs := ([0, 1].filterMap (fun ch => (s.slotOf ch k).bind (fun e => if s.ownSlot e then some e.frame else none))).eraseDups
  have t := s.each fs fun f t =>
    have x := t.srt.tx.get f
    match x.wait with
    | none => t
    | some b => { (t.set (SRT.TX_STAT'PENDING f) 0) with srt := { t.srt with tx := t.srt.tx.set f { x with buf := b, fresh := true, wait := none } } }
  (t.slotEndCh k 0).slotEndCh k 1

/-- The slots of this cycle before slot `k` have ended. -/
def State.slotsEnd (s : State) (k : Nat) : State :=
  have t := s.each ((upto k).drop s.srt.ended) fun j t => t.slotEnd j
  { t with srt := { t.srt with ended := max t.srt.ended k } }

def State.failover (s : State) (ch : Nat) (on : Bool) : State :=
  have t := if ch = 0 then { s with srt := { s.srt with foA := on } } else { s with srt := { s.srt with foB := on } }
  t.each (t.txFrames.filter (fun f => (t.ownSlots (1 - ch) f).any (fun k => (t.slotOf (1 - ch) k).any (fun e => e.kind == 3)))) fun f u =>
    u.setB (SRT.TX_STAT'FAILOVER_ACT f) on

def State.lost (s : State) (ch : Nat) : Bool := if ch = 0 then s.b SRT.SRT_STAT'LOST_A else s.b SRT.SRT_STAT'LOST_B
def State.setLost (s : State) (ch : Nat) (b : Bool) : State := s.setB (if ch = 0 then SRT.SRT_STAT'LOST_A else SRT.SRT_STAT'LOST_B) b

/-- A channel is declared lost at the end of the third consecutive counted slot without a valid frame (R415); from the
next slot on FAILOVER copies are sent (R416). -/
def State.channelLoss (s : State) (ch : Nat) : State :=
  if !s.srtOn ∨ s.lost ch then s
  else
    have t := if s.srt.lastSlot = 0 then s else (s.advanceTo (s.cycStart + 3125 * s.srt.lastSlot)).slotsEnd s.srt.lastSlot
    if t.srt.miss.get ch < 3 ∨ !t.srt.alive.get ch then s
    else (((t.setLost ch true).set SRT.SRT_ERR'CH_LOST 1).failover ch true).raise 193

/-- Three consecutive counted slots without a valid frame declare a channel lost (R415). -/
def execChannelLoss (ch : Fin 2) (s : State) : Host.Outcome State Fault Refusal := .next (s.channelLoss ch)

/-! ### Transmission (R403, R410, R411, R414, R416) -/

/-- A frame leaves on a channel. -/
def State.srtOut (s : State) (ch : Nat) (fr : List Byte) : State :=
  ({ s with srt := { s.srt with sent := s.srt.sent.set ch fr } }).work 17

/-- A standby with another STRUCT_HASH sends NULL except in SYNC and heartbeat slots (R446). -/
def State.nullOnly (s : State) : Bool := s.standby && s.fyv.hashDiff

/-- The module's frame in its slot `k` of a channel. -/
def State.slotSend (s : State) (k ch : Nat) : State :=
  match s.slotOf ch k with
  | none => s
  | some e =>
    if !s.chUsed ch ∨ !s.ownSlot e ∨ (e.kind = 3 ∧ !(if ch = 1 then s.srt.foA else s.srt.foB)) then s
    else if e.kind = 4 then s.srtOut ch (s.srtFrame 5 ch k e.frame false [])
    else
      have f := e.frame
      have hb := s.f (SRT.TX_CTRL'SRC f) == 1
      have x := s.srt.tx.get f
      have data := hb || ((x.fresh || x.sentCyc == s.cycleNo + 1) && !s.nullOnly)
      have t := (s.set (SRT.TX_STAT'CYCLE f) s.cycleNo).setB (SRT.TX_STAT'NULL_SENT f) (!data)
      if data then
        have t := { t with srt := { t.srt with tx := t.srt.tx.set f { x with fresh := false, sentCyc := s.cycleNo + 1 } } }
        have pl := if hb then s.heartbeat else (x.buf ++ toLE 64 0).take e.len
        (t.inc (SRT.TX_CNT'SENT_CNT f)).srtOut ch (s.srtFrame 1 ch k f hb pl)
      else (t.sat (SRT.TX_CNT'NULL_CNT f)).srtOut ch (s.srtFrame 5 ch k f false [])

/-- The module's SYNC frame, on both channels (R418, R422). -/
def State.syncSend (s : State) : State :=
  have t := s.each ([0, 1].filter s.chUsed) fun ch t => t.srtOut ch (t.srtFrame 2 ch t.srtIdx 0xFF false t.syncPayload)
  { t with srt := { t.srt with sentSync := true } }

/-- The guardian blocks a request outside its window (R414). -/
def State.guardBlock (s : State) : State := (s.sat SRT.GUARD_STAT'BLOCK_CNT).srtErr SRT.SRT_ERR'GUARD_BLOCK

/-- A slot begins (R402, R403): the ends of the slots before it are counted, and this member sends what the slot is for.
`stray`: the engine asks for its driver outside its window. -/
def State.slotStart (s : State) (k : Nat) (stray : Bool) : State :=
  if !s.srtOn ∨ k < s.srt.lastSlot then s
  else
    have t := s.advanceTo (s.cycStart + 3125 * k)
    have t := (t.slotsEnd k)
    have t := { t with srt := { t.srt with lastSlot := k + 1 } }
    if stray then t.guardBlock
    else
      have st := t.srtState
      have sync := k == t.srtIdx && decide (k < 3) && [srtCOLDSTART, srtACTIVE, srtTAKEOVER].contains st
      have mine := [srtACTIVE, srtTAKEOVER].contains st && [0, 1].any (fun ch => (t.slotOf ch k).any t.ownSlot)
      if !t.b SRT.GUARD_STAT'TABLE_OK then t
      else if sync then t.syncSend
      else if mine then
        have u := t.advanceTo (t.ns + 40)
        (u.slotSend k 0).slotSend k 1
      else t

/-- A Sertik slot begins and the owner transmits under its guardian (R403). -/
def execSertikSlotStart (k : Fin 80) (stray : Bool) (s : State) : Host.Outcome State Fault Refusal := .next (s.slotStart k stray)

/-- TX_CTRL.COMMIT (R411): the copy becomes the send buffer, or waits for the end of a slot of the frame that is near or
in progress. -/
def State.txCommit (s : State) (f : Nat) : State :=
  if !s.txFrame f ∨ s.f (SRT.TX_CTRL'SRC f) = 1 then s
  else
    have b := (upto 16).flatMap (fun w => toLE 4 (s.rdN (SRT.TX_DATA f w)))
    have p := s.ns % 250000
    have x := s.srt.tx.get f
    have near := ((s.ownSlots 0 f) ++ (s.ownSlots 1 f)).any (fun k => decide (3125 * k ≤ p + 1000 ∧ p < 3125 * k + 3125))
    if near && s.srtOn then { (s.set (SRT.TX_STAT'PENDING f) 1) with srt := { s.srt with tx := s.srt.tx.set f { x with wait := some b } } }
    else { (s.set (SRT.TX_STAT'PENDING f) 0) with srt := { s.srt with tx := s.srt.tx.set f { x with buf := b, fresh := true, wait := none } } }

/-- TX_CTRL.COMMIT copies TX_DATA (R411). -/
def execTxCommit (w : Req) (f : Fin 256) (s : State) : Host.Outcome State Fault Refusal :=
  .next (s.regCmd w (SRT.TX_CTRL f) (·.txCommit f))

/-! ### Start-up, collision, takeover (R418-R424) -/

/-- A write of SRT_CTRL (R418, R431). -/
def State.srtCtrlWrite (s : State) (v : Word) : State :=
  have old := s.b SRT.SRT_CTRL'EN
  have t := s.plainWrite SRT.SRT_CTRL v
  if !s.cfg.srt.used then t.set SRT.SRT_CTRL'EN 0
  else if t.b SRT.SRT_CTRL'EN && !old then t.srtEnter srtLISTEN
  else if old && !t.b SRT.SRT_CTRL'EN then
    (((t.srtEnter srtOFF).set SRT.SRT_STAT'LEADER 0).set SRT.SRT_STAT'LEADER_IDX 3).timeRetarget
  else t

/-- A write of SRT_CTRL.EN (R418, R431). -/
def execSrtEnWrite (w : Req) (v : BitVec 32) (s : State) : Host.Outcome State Fault Refusal :=
  .next (s.regCmd w SRT.SRT_CTRL (·.srtCtrlWrite v))

/-- A coldstart node that has heard nothing for 2 cycles (R418). -/
def State.listenTimeout (s : State) : State :=
  if !s.srtOn ∨ s.srtState ≠ srtLISTEN ∨ 3 ≤ s.srtIdx then s else (s.advanceTo (s.srt.stNs + 500000)).srtEnter srtCOLDSTART

def execListenTimeout (s : State) : Host.Outcome State Fault Refusal := .next s.listenTimeout

/-- The start of the listening cycle of BACKOFF: 1 + index whole cycles after the one of the collision (R418). -/
def State.backoffListen (s : State) : Nat := (s.srt.stNs / 250000 + 2 + s.srtIdx) * 250000

/-- 1 + index silent cycles and a listening cycle end (R418). -/
def State.backoffEnd (s : State) : State :=
  if !s.srtOn ∨ s.srtState ≠ srtBACKOFF then s
  else
    have t := s.advanceTo (s.backoffListen + 250000)
    if t.srt.heardSync then t.srtEnter srtINTEGRATE else t.srtEnter srtCOLDSTART

def execBackoffEnd (s : State) : Host.Outcome State Fault Refusal := .next s.backoffEnd

/-- A follower without a valid SYNC for 4 consecutive cycles (R418). -/
def State.syncLoss (s : State) : State :=
  if !s.srtOn ∨ s.srtState ≠ srtACTIVE ∨ s.b SRT.SRT_STAT'LEADER ∨ s.srt.silent < 4 then s
  else ((s.srtEnter srtLISTEN).set SRT.SRT_STAT'LEADER_IDX 3).set SRT.SRT_ERR'SYNC_LOST 1

def execSyncLoss (s : State) : Host.Outcome State Fault Refusal := .next s.syncLoss

/-- A collision: the node stops sending at once (R419). -/
def State.collision (s : State) : State :=
  ((s.srtEnter srtBACKOFF).set SRT.SRT_ERR'COLLISION 1).sat SRT.COLD_CNT'COLLISIONS

/-- TAKEOVER with shift Δ from the bus cycle start, which lies `phase` ns after the module's own (R424). -/
def State.takeOver (s : State) (phase : Nat) : State :=
  have d := (250000 - phase % 250000) % 250000
  have d := if d ≤ 200 then 0 else d
  have t := (s.srtEnter srtTAKEOVER).sat SRT.COLD_CNT'TAKEOVERS
  { t with srt := { t.srt with shift := d, toCycle := (s.cycleNo + 2) % 65536 } }

/-- The bus cycle's lag behind this module's own cycle, from a SYNC frame of index `i` that arrived at `sof`. -/
def State.busPhase (s : State) (i sof : Nat) : Nat :=
  (sof + 250000 - (3125 * i + 200 + s.f SRT.SRT_PROP'NS) % 250000) % 250000

/-- A phase within ±200 ns. -/
def inPhase (p : Nat) : Bool := decide (p ≤ 200 ∨ 249800 ≤ p)

/-- The shifted cycle begins: the module leads (R424). -/
def State.takeoverStart (s : State) : State :=
  if !s.srtOn ∨ s.srtState ≠ srtTAKEOVER ∨ 32768 ≤ (s.cycleNo + 65536 - s.srt.toCycle) % 65536 then s
  else
    have t := (s.srtEnter srtACTIVE).set SRT.SRT_STAT'CYCLE (s.ns / 250000)
    have t := if t.f SRT.SRT_STAT'LEADER_IDX = t.srtIdx then t else t.sat SRT.COLD_CNT'LEADER_CHG
    { ((t.set SRT.SRT_STAT'LEADER 1).set SRT.SRT_STAT'LEADER_IDX t.srtIdx) with srt := { t.srt with shift := 0 } }

def execTakeoverCycleStart (s : State) : Host.Outcome State Fault Refusal := .next s.takeoverStart

/-- A valid SYNC frame of index `i` (R418-R424). `p` is its payload, `cyc` its CYCLE. -/
def State.syncTake (s : State) (i sof cyc : Nat) (p : List Byte) : State :=
  have st := s.srtState
  have s := { s with srt := { s.srt with syncs := if s.srt.syncs.contains i then s.srt.syncs else s.srt.syncs ++ [i] } }
  have sched := leAt p 0x0E 2 == s.f SRT.SRT_CFG'SCHED_ID
  have grants := fun (t : State) => t.each (upto 24) fun j u => u.setGrant j (leAt p (0x18 + j) 1)
  have integrate := fun (t : State) =>
    have t := (t.srtEnter srtINTEGRATE).set SRT.SRT_STAT'CYCLE cyc
    { (grants t) with srt := { t.srt with syncSof := sof + 1 } }
  if st = srtLISTEN ∨ (st = srtCOLDSTART ∧ i < s.srtIdx) then
    if sched then integrate s else ((integrate s).srtErr SRT.SRT_ERR'SCHED_MISMATCH).srtEnter srtLISTEN
  else if st = srtBACKOFF then
    if s.backoffListen ≤ sof then
      { (s.set SRT.SRT_STAT'CYCLE cyc) with srt := { s.srt with heardSync := true, syncSof := sof + 1 } } else s
  else if st = srtINTEGRATE then
    if !sched then (s.srtErr SRT.SRT_ERR'SCHED_MISMATCH).srtEnter srtLISTEN
    else if sof + 1 < s.srt.syncSof + 125000 then s
    else
      have ok := inPhase ((sof + 250001 - s.srt.syncSof % 250000) % 250000) && decide (sof + 1 ≤ s.srt.syncSof + 250200)
      { ((grants s).set SRT.SRT_STAT'CYCLE cyc) with srt := { s.srt with syncSof := sof + 1, runs := if ok then s.srt.runs + 1 else 0, heardSync := true } }
  else if st = srtACTIVE ∧ !s.b SRT.SRT_STAT'LEADER ∧ s.srt.syncs.all (fun j => decide (i ≤ j)) then
    have ph := s.busPhase i sof
    have t := grants s
    have t := if t.srt.takeover ∧ leAt p 0x0D 1 = 0 then
      { (t.set SRT.SRT_STAT'CYCLE cyc) with srt := { t.srt with takeover := false } } else t
    have t := if leAt p 0x0D 1 = 1 then { t with srt := { t.srt with takeover := true, toCycle := leAt p 0x14 2 } } else t
    if inPhase ph then t
    else if t.srtIdx < i then t.takeOver ph
    else t.srtErr SRT.SRT_ERR'ALIGN_FAULT
  else s

/-! ### Reception (R408, R409, R412) -/

def State.rxErr (s : State) (l : Loc) : State := s.sat l

/-- A DATA frame of an own or foreign page is stored (R409, R412). -/
def State.srtStore (s : State) (ch k node f kind sof : Nat) (safety : Bool) (cyc : Nat) (p : List Byte) : State :=
  if s.txFrame f ∨ !s.b (SRT.RX_CFG'EN f) then s
  else if s.srt.stored.contains f then s.sat (SRT.RX_CNT'DUP_CNT f)
  else
    have t := s.wrN (SRT.RX_HDR f) (cyc * 65536 + (if kind = 3 then 32 else 0) + 16 * ch + (if safety then 8 else 0) + 1)
    have t := (t.wrN (SRT.RX_SRC f) (256 * k + node)).wrN (SRT.RX_DT f) sof
    have t := t.each (upto 16) fun w u => u.wrN (SRT.RX_DATA f w) (leAt p (4 * w) 4)
    have t := { t with srt := { t.srt with stored := t.srt.stored ++ [f] } }
    have t := t.work 17
    if t.f (SRT.RX_CFG'DEST f) = 1 then
      have fl := t.f (SRT.RX_CFG'FLOW f)
      t.hwEnqueue 1 fl [fl + 0x5354 * 65536, 0, f + cyc * 65536, sof % 2 ^ 32, 0, 0, 0, 0]
    else t

/-- The entry that a frame header must match: FRAME_ID, kind of slot and LEN limit (R408, step 4). -/
def State.srtExpect (s : State) (ch k node : Nat) : Option (Nat × Nat × Nat) :=
  if k < 3 then (if s.cfg.srt.csNodes[k]? = some node then some (0xFF, 0, 48) else none)
  else if k = 3 then (if s.cycleNo % 32 = node then some (0xFF, 0, 8) else none)
  else if k < 68 then
    match s.slotOf ch k with
    | some e => if s.mayOwn e node then some (e.frame, e.kind, e.len) else none
    | none => none
  else
    have g := s.grant (12 * ch + (k - 68))
    if bit g 5 ∧ g % 32 = node then some ((if ch = 0 then 0xE0 else 0xEC) + (k - 68), 0, 64) else none

/-- LEN and KIND fit R405 and the entry. -/
def lenFits (k kind len slotKind want : Nat) (safety : Bool) : Bool :=
  (!safety || (kind == 1 && len == 64)) &&
  (if k < 3 then kind == 2 && len == 48
   else if k = 3 then kind == 4 && len == 8
   else if k < 68 then (kind == 1 && len == want && slotKind != 4) || (kind == 5 && len == 0)
   else (kind == 1 && decide (len ≤ 64)) || (kind == 5 && len == 0))

/-- A frame that has passed every check of R408. -/
def State.srtValid (s : State) (ch k node sof : Nat) (fr : List Byte) : State :=
  have b0 := leAt fr 0 1
  have kind := b0 % 16
  have safety := bit b0 4
  have f := leAt fr 6 1
  have p := (fr.drop 8).take (leAt fr 3 1)
  have slotKind := ((s.slotOf ch k).map (·.kind)).getD 0
  have t := { s with srt := { s.srt with heard := s.srt.heard ++ [SrtHeard.mk ch k node] } }
  if kind = 2 then t.syncTake k sof (leAt fr 4 2) p
  else if kind = 4 then
    if t.srt.claims.any (fun c => c.1 == node) then t
    else { t with srt := { t.srt with claims := t.srt.claims ++ [(leAt p 0 1, leAt p 1 1, leAt p 2 1)] } }
  else if kind = 5 then (if t.srt.stored.contains f then t.sat (SRT.RX_CNT'DUP_CNT f) else t)
  else
    have t := t.srtStore ch k node f slotKind sof safety (leAt fr 4 2) p
    have t := if safety ∧ t.b (SRT.RX_CFG'SAFETY f) ∧ !t.txFrame f then t.safeFrame f node sof p else t
    if t.paired ∧ t.cfg.srt.heart[1 - t.member]? = some f then { t with fyv := { t.fyv with pBeat := true } } else t

/-- A frame has arrived on a channel, its SOF at DT `sof` ns; `code`: a code violation, or no EOF where LEN puts it
(R408). -/
def State.srtReceive (s : State) (ch sof : Nat) (code : Bool) (fr : List Byte) : State :=
  if !s.srtOn ∨ !s.chUsed ch then s
  else
    have s := s.advanceTo (sof + 32 * (fr.length + 2))
    have st := s.srtState
    have off := sof % 250000
    have k := off / 3125
    have sync := leAt fr 0 1 % 16 == 2
    have joined := [srtACTIVE, srtTAKEOVER].contains st
    have s := if st = srtLISTEN then { s with srt := { s.srt with stNs := s.ns } } else s
    have hit := fun (t : State) => if st = srtCOLDSTART ∧ k < 3 ∧ k ≠ t.srtIdx then t.collision else t
    have kk := if joined then k else leAt fr 2 1
    have node := leAt fr 1 1 % 32
    have crcOk := leAt fr (8 + leAt fr 3 1) 4 == crc32c (fr.take (8 + leAt fr 3 1))
    -- a SYNC frame of a coldstart node away from its place does not reach its slot, and shows the leader's timing (R418, R424)
    have stray := joined && sync && decide (leAt fr 2 1 < 3) && s.cfg.srt.csNodes[leAt fr 2 1]? == some node
      && !inPhase (s.busPhase (leAt fr 2 1) sof)
    if code ∨ fr.length ≠ 12 + leAt fr 3 1 ∨ 64 < leAt fr 3 1 then hit (s.rxErr (SRT.ERR_CNT'CODE ch))
    else if joined ∧ (off % 3125 < 100 ∨ 500 < off % 3125) then (s.rxErr (SRT.ERR_CNT'TIMING ch)).iff (stray && crcOk) (·.syncTake (leAt fr 2 1) sof (leAt fr 4 2) ((fr.drop 8).take 48))
    else if !crcOk then hit (s.rxErr (SRT.ERR_CNT'CRC ch))
    else if !joined ∧ !sync then s
    else if stray then s.syncTake (leAt fr 2 1) sof (leAt fr 4 2) ((fr.drop 8).take 48)
    else
      match s.srtExpect ch kk node with
      | none => s.rxErr (SRT.ERR_CNT'HEADER ch)
      | some (f, slotKind, want) =>
        have b0 := leAt fr 0 1
        have ok := leAt fr 2 1 == kk && (b0 / 32 % 2) == ch && b0 / 64 == 0 && leAt fr 1 1 / 64 == 0 && leAt fr 7 1 == 0
          && (!joined || leAt fr 4 2 == s.cycleNo || (sync && s.srt.takeover)) && leAt fr 6 1 == f
          && lenFits kk (b0 % 16) (leAt fr 3 1) slotKind want (bit b0 4)
        if ok then s.srtValid ch kk node sof fr else s.rxErr (SRT.ERR_CNT'HEADER ch)

/-- A Sertik frame is checked and stored or discarded (R408). -/
def execSertikFrameReceive (ch : Fin 2) (sof : Nat) (code : Bool) (fr : List (BitVec 8)) (s : State) :
    Host.Outcome State Fault Refusal := .next (s.srtReceive ch sof code fr)

/-! ### Cycle start (R402, R409, R417, R418, R420, R426) -/

/-- The leader grants a claim, or counts a denial (R426). -/
def State.claimGrant (s : State) (c : Nat × Nat × Nat) : State :=
  have free := fun ch => (upto 12).filter (fun i => !bit (s.grant (12 * ch + i)) 5)
  have chs := [0, 1].filter (fun ch => bit c.2.1 ch)
  have ok := s.cfg.srt.claimants.contains c.1 && (c.2.2 == 1 || c.2.2 == 2) && !chs.isEmpty && chs.all (fun ch => decide (c.2.2 ≤ (free ch).length))
  if ok then
    (s.each chs fun ch t => t.each ((free ch).take c.2.2) fun i u =>
      { (u.setGrant (12 * ch + i) (c.1 + 32)) with srt := { u.srt with idle := u.srt.idle.set (12 * ch + i) 0 } }).sat SRT.CLAIM_CNT'GRANTS
  else (s.sat SRT.CLAIM_CNT'DENIALS).set SRT.SRT_ERR'CLAIM_DENIED 1

/-- Ages, misses and idle spare slots at a cycle start. -/
def State.srtAges (s : State) : State :=
  have t := s.each s.rxFrames fun f t =>
    have t := if s.srt.stored.contains f then t else t.sat (SRT.RX_CNT'MISS_CNT f)
    if t.b (SRT.RX_HDR'HELD f) then t.set (SRT.RX_HDR'AGE f) (min 255 ((t.cycleNo + 65536 - t.f (SRT.RX_HDR'CYCLE f)) % 65536)) else t
  t.each (upto 24) fun i u =>
    have seen := s.srt.heard.any (fun h => h.ch == i / 12 && h.slot == 68 + i % 12)
    { u with srt := { u.srt with idle := u.srt.idle.set i (if seen ∨ !bit (u.grant i) 5 then 0 else min 64 (u.srt.idle.get i + 1)) } }

/-- A lost channel whose counted slots all carried valid frames is recovered (R417). -/
def State.chRecover (s : State) (ch : Nat) : State :=
  if s.lost ch ∧ !s.srt.dirty.get ch then ((s.setLost ch false).failover ch false).raise 193 else s

/-- The leader of the cycle that begins (R420). -/
def State.leaderStep (s : State) (syncs : List Nat) (sent : Bool) : State :=
  have cand := syncs ++ (if sent && s.srtState == srtACTIVE then [s.srtIdx] else [])
  have l := cand.foldl min 3
  have old := s.f SRT.SRT_STAT'LEADER_IDX
  have t := if l ≠ old ∧ l < 3 ∧ old < 3 then s.sat SRT.COLD_CNT'LEADER_CHG else s
  have was := t.b SRT.SRT_STAT'LEADER
  have t := (t.set SRT.SRT_STAT'LEADER_IDX l).setB SRT.SRT_STAT'LEADER (l == t.srtIdx && decide (l < 3) && sent && t.srtState == srtACTIVE)
  if was && !t.b SRT.SRT_STAT'LEADER then t.timeRetarget else t

/-- The steps of R418 that a cycle start completes. -/
def State.srtStateStep (s : State) (sent : Bool) : State :=
  have st := s.srtState
  if st = srtINTEGRATE ∧ 2 ≤ s.srt.runs then
    have i := s.srt.prevSyncs.foldl min 3
    have ph := s.busPhase i (s.srt.syncSof - 1)
    if s.srtIdx < i then (s.srtEnter srtACTIVE).takeOver ph
    else if inPhase ph then s.srtEnter srtACTIVE
    else (s.srtEnter srtACTIVE).srtErr SRT.SRT_ERR'ALIGN_FAULT
  else if st = srtINTEGRATE ∧ s.srt.prevSyncs.isEmpty then { s with srt := { s.srt with runs := 0 } }
  else if st = srtCOLDSTART ∧ sent then
    if 1 ≤ s.srt.runs then s.srtEnter srtACTIVE else { s with srt := { s.srt with runs := s.srt.runs + 1 } }
  else if st = srtCOLDSTART then { s with srt := { s.srt with runs := 0 } }
  else s

/-- A Sertik cycle begins (at each L2 boundary). -/
def State.srtCycle (s : State) : State :=
  if !s.srtOn then s
  else
    have t := s.slotsEnd 80
    have t := (t.chRecover 0).chRecover 1
    have follows := [srtINTEGRATE, srtTAKEOVER].contains t.srtState || (t.srtState == srtACTIVE && !t.b SRT.SRT_STAT'LEADER)
    have t := t.set SRT.SRT_STAT'CYCLE (if follows then t.cycleNo + 1 else t.ns / 250000)
    have t := t.srtAges
    have syncs := t.srt.syncs
    have sent := t.srt.sentSync
    have t := { t with srt := { t.srt with prev := t.srt.heard, heard := [], prevSyncs := syncs, syncs := [], stored := [], lastSlot := 0, ended := 0, dirty := ⟨[]⟩, sentSync := false, silent := if syncs.isEmpty then min 255 (t.srt.silent + 1) else 0 } }
    have t := t.srtStateStep sent
    have t := t.leaderStep syncs sent
    have cl := t.srt.claims
    have t := { t with srt := { t.srt with claims := [] } }
    if t.b SRT.SRT_STAT'LEADER then t.each cl fun c u => u.claimGrant c else t

/-- A granted spare slot without a frame of its owner for 64 cycles is freed by the leader (R426). -/
def State.grantTimeout (s : State) (i : Nat) : State :=
  if !s.srtOn ∨ !s.b SRT.SRT_STAT'LEADER ∨ !bit (s.grant i) 5 ∨ s.srt.idle.get i < 64 then s
  else { (s.setGrant i 0) with srt := { s.srt with idle := s.srt.idle.set i 0 } }

def execGrantTimeout (i : Fin 24) (s : State) : Host.Outcome State Fault Refusal := .next (s.grantTimeout i)

/-- The hub position that the cross-check of channel `c` takes at an L2 boundary (R147, R430). -/
def State.hubValue (s : State) (c : Nat) : Option Int :=
  match s.cfg.axes.find? (fun a => a.used && a.fb == c && decide (a.arm < 8)) with
  | none => none
  | some a => match s.cfg.safe.hubs.find? (fun p => p.1 == a.arm) with
    | none => none
    | some (_, f) =>
      have ok := s.b (SRT.RX_HDR'HELD f) && s.f (SRT.RX_HDR'AGE f) == 1 && bit (s.rdN (SRT.RX_DATA f 9)) a.jnt
      if ok then some (s.rdI (SRT.RX_DATA f (1 + a.jnt))) else none

/-- The cross-checks of an L2 boundary (R147). -/
def State.xChecks (s : State) : State := s.each (upto 64) fun c t => t.xCheck c (t.hubValue c)

/-- What an image load does to the engine (R414, R431). -/
def State.srtLoad (s : State) : State :=
  have c := s.cfg.srt
  have t := { s with srt := default }
  have t := (t.set SRT.SRT_STAT'STATE srtOFF).set SRT.SRT_CTRL'EN 0
  have t := ((t.set SRT.SRT_STAT'LEADER 0).set SRT.SRT_STAT'LEADER_IDX 3).timeRetarget
  if !c.used then t
  else
    have m := t.member
    have t := (t.set SRT.SRT_CFG'SCHED_ID c.schedId).set SRT.SRT_CFG'CS_IDX (c.idx.getD m 3)
    have t := (t.set SRT.SRT_CFG'NODE_ID (c.node.getD m 0)).set SRT.SRT_PROP'NS c.prop
    have t := t.setB SRT.GUARD_STAT'TABLE_OK c.guardOk
    have t := if c.guardOk then t else t.srtErr SRT.SRT_ERR'GUARD_MISMATCH
    have t := t.each t.txFrames fun f u => u.wrN (SRT.TX_STAT f) 0
    (t.set SRT.SRT_CTRL'EN 1).srtEnter srtLISTEN

end Sys2Proof.Machine
end

