-- ==== Sys2Proof/Machine/Pair.lean ====
section
/-!
DEFINITION. The redundant pair: roles, the steady link, tracking, alignment, swap (spec/19_redundant_pairs_cascades.md,
R446-R462), and the time that Fyver carries (R465); the sample of the safety channels, which also sends STEADY_VOTE
(log entry 36).
-/
namespace Sys2Proof.Machine
open Sys2Proof

def pairSOLO : Nat := 0
def pairJOIN : Nat := 1
def pairALIGNED : Nat := 2

def State.pairSt (s : State) : Nat := s.f FYV.PAIR_STAT'STATE

/-- A new pair state; ALIGNED and a return to SOLO raise the pair event (R461). -/
def State.pairGo (s : State) (st : Nat) : State :=
  if s.pairSt = st then s
  else
    have t := { (s.set FYV.PAIR_STAT'STATE st) with fyv := { s.fyv with alignCnt := 0, driftCnt := 0 } }
    if st = pairALIGNED ∨ st = pairSOLO then t.raise 208 else t

/-- STRUCT_HASH as one number. -/
def State.structHash (s : State) : Nat := s.rdN SYS.STRUCT_HASH_LO + 2 ^ 32 * s.rdN SYS.STRUCT_HASH_HI

/-! ### Frames sent on the steady link (R457) -/

/-- A frame leaves on the steady link. -/
def State.steadySend (s : State) (ty : Nat) (m : SteadyMsg) : State :=
  if s.domOn pdLINK ∧ s.steadyUp then { s with fyv := { s.fyv with steady := s.fyv.steady.set ty (some m) } } else s

/-- Contactor commands in bits 3:0, lock drive commands in bits 11:4. -/
def State.driveCmds (s : State) : Nat :=
  ((upto 4).map (fun k => if s.cdOn k then 2 ^ k else 0)).sum
    + ((upto 8).map (fun p => if s.b (PORT.PORT_STAT'LKD_ON p) then 2 ^ (4 + p) else 0)).sum

/-- STEADY_VOTE. -/
def State.steadyVote (s : State) : State :=
  s.steadySend 0x30 (.vote s.mode (!s.standby) (s.pairSt == pairALIGNED) s.votesA s.votesB s.driveCmds)

/-- Every 100 µs each channel samples inputs, evaluates functions and votes, and exchanges state (R332); each member of
a pair sends STEADY_VOTE (R457). -/
def execSafetySample (x : Nat) (siD siL : BitVec 24) (edm : BitVec 4) (rb : ReadBacks) (s : State) :
    Host.Outcome State Fault Refusal := .next (s.safetySample x siD siL edm rb.tps rb.out rb.cd rb.hb).steadyVote

def State.axisNow (s : State) (a : Nat) : SteadyAxis :=
  have x := s.ax a
  ⟨s.f (CTL.AX_STAT'STATE a), s.f (CTL.AX_STAT'REGION a), x.iD, x.iQ, x.iV, x.pRef⟩

def State.portalNow (s : State) (p : Nat) : SteadyPort :=
  ⟨s.ptSt p, s.homed p, s.f (PORT.PORT_STAT'LEARN_O p), s.f (PORT.PORT_STAT'LEARN_C p), (s.pt p).cycNo,
    (upto 128).map (fun i => s.rdN (PORT.ENV p (i / 64) (i % 64)))⟩

/-- Cycle record entries that wait to be written, with their ring sequence numbers. -/
def State.crWaiting (s : State) : List (Nat × List Byte) := ((s.ring 6).fly ++ (s.ring 6).buf).map (fun e => (e.rseq, e.bytes))

/-- FIRM and FALLBACK_HELD claims: a claim's FIRM part, and a fallback claim without a length of its own as 0 cycles. -/
def State.firmClaims (s : State) : List SteadyClaim :=
  (s.trj.claims.filter (fun c => c.fb || decide (0 < c.firm))).map
    (fun c => ⟨c.zone, c.queue, c.first, if c.fb then c.count else c.firm, c.fb⟩)

/-- SOLO becomes JOIN once the steady link is UP and a partner heartbeat has been received (R461). -/
def State.pairJoin (s : State) : State :=
  if s.pairSt = pairSOLO ∧ s.steadyUp ∧ s.fyv.pBeat then s.pairGo pairJOIN else s

/-- What an L3 boundary does to a pair: the snapshot, the comparison of STRUCT_HASH (R446), the frames (R457), TIME from
the active module and from the master position (R458, R465). -/
def State.pairL3 (s : State) : State :=
  have own := (upto 64).foldl (fun m a => m.set a (s.axisNow a)) (⟨[]⟩ : Sparse SteadyAxis)
  have t := { s with fyv := { s.fyv with own := own, ownB := s.ns } }
  have diff := t.paired && t.steadyUp && (match t.fyv.pHash with | some h => h != t.structHash | none => false)
  have t := if diff && t.standby then (t.set FYV.PAIR_ERR'HASH_MISMATCH 1).raise 208 else t
  have t := { t with fyv := { t.fyv with hashDiff := diff } }
  have t := (t.wrN FYV.SWAP_AGE t.swapAge).pairJoin
  have t := t.steadySend 0x31 (.l3 t.structHash ((upto 64).map t.axisNow) ((upto 8).map t.portalNow) t.crWaiting)
  have t := if t.standby then t else (t.steadySend 0x32 (.ledger t.firmClaims)).steadySend 0x01 (.time (BitVec.ofNat 32 t.ns))
  if t.f FYV.CASC_CFG'POS = 0 ∧ t.f FYV.CASC_CFG'NPOS_M1 ≠ 0 then
    have fr := t.fyvFrame 0x01 9 t.ns32 []
    (t.fyvSend 2 fr).fyvSend 3 fr
  else t

/-! ### Time from a Fyver link (R465) -/

/-- A TIME frame with departure `dep` arrives after `delay` ns on the way. -/
def State.timeTake (s : State) (dep delay : Nat) : State :=
  have ofs := ns32Diff ((dep + delay) % 2 ^ 32) s.ns32
  have t := { (s.wrI FYV.TIME_OFS ofs) with fyv := { s.fyv with timeNs := s.ns, timeLost := false } }
  have mx := (t.f TIME.RATE_MAX'RATE_MAX : Int) * ppm
  if !t.fyvTime ∨ !t.domOn pdTIME ∨ t.b TIME.TIME_STAT'HOLDOVER then t
  else if !t.cycRun ∧ !t.fyv.stepped then
    { t with fyv := { t.fyv with stepped := true } }.dtJump ((t.time.dt : Int) + ofs * 2 ^ 32).toNat ofs
  else if t.cycRun ∧ 1000 < ofs.natAbs then
    (if t.b TIME.TIME_STAT'SLEWING then t else t.slewStart (clampI (-1000000) 1000000 ofs))
  else (t.wrI TIME.RATE_ADJ (clampI (Neg.neg mx) mx (Config.fyvServo (t.rdI TIME.RATE_ADJ) ofs))).timeRetarget

/-- No TIME frame for 10 consecutive L3 cycles (R444, R458, R465). -/
def State.fyvTimeLoss (s : State) : State :=
  if !s.domOn pdTIME ∨ !s.fyvTime ∨ s.fyv.timeLost then s
  else
    have t := s.advanceTo (s.fyv.timeNs + ms 10)
    { t with fyv := { t.fyv with timeLost := true } }.holdover 0

def execFyverTimeLoss (s : State) : Host.Outcome State Fault Refusal := .next s.fyvTimeLoss

/-! ### Roles (R450-R452) -/

/-- Modes that a role takes a module into and out of (R523, R530). -/
def runMode (m : Nat) : Bool := m == 3 || (decide (5 ≤ m) && decide (m ≤ 8))

/-- An entry of the steady-link backlog goes into the CYCLE ring under its original RSEQ; one at or below DURABLE_RSEQ is
discarded, and so is one that finds the buffer full, which counts as dropped (R487, R488). -/
def State.backlogAppend (s : State) (rseq : Nat) (e : List Byte) : State :=
  if !s.domOn pdFLASH ∨ rseq ≤ s.durable 6 ∨ rseq ≤ (s.ring 6).last then s
  else
    have r := s.ring 6
    if !s.b NAND.NAND_STAT'MOUNTED ∨ s.fbit NAND.NAND_STAT'FAILED 6 ∨ ringCap 6 ≤ r.buf.length then
      have t := s.setRing 6 { r with dropCnt := r.dropCnt + 1, dropFirst := if r.dropCnt = 0 then rseq else r.dropFirst }
      (t.set NAND.NAND_ERR'DROP 1).sat NAND.DROP_CNT'CYCLE
    else
      have t := s.setRing 6 { r with buf := r.buf ++ [RingEnt.mk rseq e s.ns], last := rseq }
      if r.buf.length + 1 = ringCap 6 then t.ringFlush 6 else t

/-- The new active module takes over: backlog, portals, mode (R397, R452, R457, R530). -/
def State.becomeActive (s : State) : State :=
  have t := s.each s.fyv.backlog fun e u => u.backlogAppend e.1 e.2
  have t := { t with fyv := { t.fyv with backlog := [] } }
  have t := t.each ((upto 8).filter (fun p => (t.portal p).used && t.ptMoving p)) fun p u =>
    have x := u.pt p
    u.setPt p { x with clean := false, flags := setBit x.flags 4 true }
  have t := t.nandKick
  if t.mode = 4 then
    match t.fyv.pMode with
    | some m => if runMode m then t.modeTo m 6 false else t.modeTo 9 6 false
    | none => t.modeTo 9 6 false
  else t

/-- A module that becomes standby goes to M4 from M3 and M5-M8 (R523). -/
def State.becomeStandby (s : State) : State := if runMode s.mode then s.modeTo 4 6 false else s

/-- The role in force at an L1 boundary (R450, R451): the qualified level, except that member 1 gives way to an active
partner. -/
def State.roleL1 (s : State) : State :=
  have t := match s.fyv.rolePend with
    | some a => { s with fyv := { s.fyv with rolePend := none, pinActive := a } }
    | none => s
  have conflict := t.fyv.pinActive && t.steadyUp && t.fyv.pActive && t.member == 1
  have t := if conflict ∧ !t.b FYV.PAIR_ERR'ROLE_CONFLICT then (t.set FYV.PAIR_ERR'ROLE_CONFLICT 1).raise 208 else t
  have want := t.fyv.pinActive && !conflict
  if want = t.b FYV.PAIR_STAT'ACTIVE then t
  else
    have t := { (t.setB FYV.PAIR_STAT'ACTIVE want) with fyv := { t.fyv with swapNs := t.ns } }
    have t := (t.set FYV.PAIR_STAT'SWAP_DUE 0).wrN FYV.SWAP_AGE 0
    if want then t.becomeActive else t.becomeStandby

/-- The level of the ROLE pin, high = active, and the ns for which it has held: from 20 µs on it counts, and takes effect
at the next L1 boundary (R450); while no boundaries come, at once (log entry 15). -/
def State.roleChange (s : State) (active : Bool) (held : Nat) : State :=
  if held < us 20 then s
  else
    have t := { s with fyv := { s.fyv with rolePend := some active } }
    if t.cycRun then t else t.roleL1

def execRoleChange (active : Held Bool) (s : State) : Host.Outcome State Fault Refusal :=
  .next (s.roleChange active.v active.held)

/-- No accepted referee frame for 4 consecutive cycles: its votes are unknown (R454, R456). -/
def State.refereeTimeout (s : State) : State :=
  if s.fyv.rVotes.isNone ∨ (s.cycleNo + 65536 - s.fyv.rConsec) % 65536 < 4 then s
  else { s with fyv := { s.fyv with rVotes := none } }.fbSuspShow

def execRefereeTimeout (s : State) : Host.Outcome State Fault Refusal := .next s.refereeTimeout

/-- SWAP_AGE reaches 86 400 s (R462). -/
def State.swapDue (s : State) : State :=
  if !s.domOn pdLINK ∨ !s.paired ∨ s.b FYV.PAIR_STAT'SWAP_DUE then s
  else
    have t := s.advanceTo (s.fyv.swapNs + 86400 * 1000000000).toNat
    ((t.set FYV.PAIR_STAT'SWAP_DUE 1).wrN FYV.SWAP_AGE t.swapAge).raise 208

def execSwapDue (s : State) : Host.Outcome State Fault Refusal := .next s.swapDue

/-! ### Alignment and tracking (R459, R461) -/

/-- The largest p_ref difference over the axes in RUN in both modules: axis and |difference| in 1/256 increment. -/
def State.pairDiff (s : State) : Nat × Nat :=
  (upto 64).foldl (fun m a =>
    have x := s.fyv.own.get a
    have y := s.fyv.pAct.get a
    if s.axUsed a ∧ x.st = axRUN ∧ y.st = axRUN ∧ m.2 < (diff40 x.p y.p).natAbs then (a, (diff40 x.p y.p).natAbs) else m) (0, 0)

/-- The pair state after the STEADY_L3 frame of a boundary (R461): the boundaries of a count are consecutive, and only the
standby measures its DT against the partner's. -/
def State.pairStep (s : State) : State :=
  have d := s.pairDiff
  have t := (s.set FYV.PAIR_DIFF'AXIS d.1).set FYV.PAIR_DIFF'DIFF (min (2 ^ 26 - 1) (d.2 / 256))
  have within := decide (d.2 ≤ 256 * s.f FYV.PAIR_CFG'ALIGN_TOL)
  have again := s.fyv.alignB == s.fyv.ownB
  have next := s.fyv.alignB + ms 1 == s.fyv.ownB
  have t := { t with fyv := { t.fyv with alignB := t.fyv.ownB } }.pairJoin
  if again then t
  else if t.pairSt = pairJOIN then
    have n := if within then (if next then min 10 (t.fyv.alignCnt + 1) else 1) else 0
    have t := { t with fyv := { t.fyv with alignCnt := n } }
    have timed := !t.standby || decide ((t.rdI FYV.TIME_OFS).natAbs ≤ 20)
    if n = 10 ∧ t.fyv.pHash = some t.structHash ∧ timed then t.pairGo pairALIGNED else t
  else if t.pairSt = pairALIGNED then
    have n := if within then 0 else if next then t.fyv.driftCnt + 1 else 1
    if 3 ≤ n then (t.pairGo pairJOIN).set FYV.PAIR_ERR'DRIFT 1
    else { t with fyv := { t.fyv with driftCnt := n } }
  else t

/-- A portal of the standby takes the active module's state (R397). -/
def State.portalTake (s : State) (p : Nat) (r : SteadyPort) : State :=
  if !(s.portal p).used then s
  else
    have was := s.ptMoving p
    have t := ((s.set (PORT.PORT_STAT'STATE p) r.st).setB (PORT.PORT_STAT'HOMED p) r.homed).set (PORT.PORT_STAT'LEARN_O p) r.learnO
    have t := t.set (PORT.PORT_STAT'LEARN_C p) r.learnC
    have t := t.each (upto 128) fun i u => u.wrN (PORT.ENV p (i / 64) (i % 64)) (r.env.getD i 0)
    have x := { t.pt p with cycNo := r.cyc }
    have x := if r.homed ∧ !s.homed p ∧ (r.st = ptCLOSED ∨ r.st = ptLOCKED) then { x with origin := s.posBnd (s.portal p).fb / 256 } else x
    if t.ptMoving p ∧ !was then
      have x := { x with startNs := t.ns, startPos := t.ptPos p, open_ := true, clean := false, kind := if r.st = ptCLOSING then 2 else 1 }
      t.setPt p x
    else t.setPt p x

/-- A frame of the steady link has arrived (R457-R461, R464). -/
def State.steadyReceive (s : State) (ns : Nat) (bad : Bool) (m : SteadyMsg) : State :=
  if !s.domOn pdLINK ∨ !s.steadyUp then s
  else
    have s := s.advanceTo ns
    if bad then s.sat (FYV.LINK_STAT'CRC_CNT 4)
    else
      have s := (s.work 20).pairJoin
      match m with
      | .vote mode active _ a b drv =>
        { (s.set FYV.PAIR_STAT'PARTNER_MODE mode) with fyv := { s.fyv with pMode := some mode, pActive := active, pVotes := some (a, b), pDrv := drv } }.fbSuspShow
      | .l3 hash axes ports entries =>
        have act := (upto 64).foldl (fun m a => m.set a (axes.getD a default)) (⟨[]⟩ : Sparse SteadyAxis)
        have t := { s with fyv := { s.fyv with pHash := some hash, pAct := act, actB := s.fyv.ownB, backlog := if s.standby then entries else s.fyv.backlog } }
        have t := if t.standby then t.each (upto 8) fun p u => u.portalTake p (ports.getD p default) else t
        t.pairStep
      | .ledger cl =>
        { s with trj := { s.trj with mirrorOk := true, mirror := cl.map (fun c => { queue := c.queue, zone := c.zone, epoch := 0, first := c.first, count := c.count, firm := c.count, fb := c.fb }) } }
      | .time dep => if s.steadyTime then s.timeTake dep.toNat (s.f (FYV.LINK_STAT'DELAY 4)) else s
      | .delayReq => s.steadySend 0x03 (.delayResp (BitVec.ofNat 32 s.ns) (BitVec.ofNat 32 s.ns))
      | .delayResp _ _ => s

def execSteadyFrameReceive (ns : Nat) (bad : Bool) (m : SteadyMsg) (s : State) : Host.Outcome State Fault Refusal :=
  .next (s.steadyReceive ns bad m)

/-- One axis at b + 100 µs: its integrators follow the active module's (R459). -/
def State.trackAxis (s : State) (a : Nat) : State :=
  have x := s.ax a
  have o := s.fyv.own.get a
  have p := s.fyv.pAct.get a
  if o.st = axRUN ∧ p.st = axRUN ∧ o.region = p.region ∧ s.f (CTL.AX_STAT'STATE a) = axRUN then
    have m2 := 2 * s.axVmax a x.vdc
    have y := { x with iD := lim m2 (acc (p.iD + (x.iD - o.iD))), iQ := lim m2 (acc (p.iQ + (x.iQ - o.iQ))) }
    s.setAx a { y with iV := lim (max 0 (s.rdI (CTL.INT_LIM_V a))) (acc (p.iV + (x.iV - o.iV))) }
  else s.sat FYV.PAIR_STAT'TRACK_SKIP

/-- At the L1 boundary b + 100 µs the standby sets its integrators (R459); at a later L1 boundary it is too late. -/
def State.track (s : State) : State :=
  if !s.domOn pdCTL ∨ !s.standby ∨ s.fyv.actB = 0 ∨ s.fyv.actB ≠ s.fyv.ownB ∨ s.fyv.actB + us 150 ≤ s.ns then s
  else
    have t := s.advanceTo (s.fyv.actB + us 100)
    have t := t.each ((upto 64).filter t.axUsed) fun a u => u.trackAxis a
    { t with fyv := { t.fyv with actB := 0 } }

def execIntegratorTracking (s : State) : Host.Outcome State Fault Refusal := .next s.track

/-- The steady link has not been UP for 1 ms (R461). -/
def State.pairLinkTimeout (s : State) : State :=
  if !s.domOn pdLINK ∨ s.steadyUp ∨ s.pairSt = pairSOLO then s
  else
    have t := s.advanceTo (s.fyv.downNs + ms 1)
    { t with fyv := { t.fyv with pBeat := false } }.pairGo pairSOLO

def execPairLinkTimeout (s : State) : Host.Outcome State Fault Refusal := .next s.pairLinkTimeout

end Sys2Proof.Machine
end

