-- ==== Sys2Proof/Machine/Fyver.lean ====
section
/-!
DEFINITION. The Fyver links of a cascade: link states, frames received and forwarded, image streams
(spec/19_redundant_pairs_cascades.md, R463-R467; log entry 36).
-/
namespace Sys2Proof.Machine
open Sys2Proof

/-! ### Link states (R464) -/

/-- Some link to the position above is UP. -/
def State.upstream (s : State) : Bool := s.b (FYV.LINK_STAT'UP 0) || s.b (FYV.LINK_STAT'UP 1)

/-- MASTER_LOST of a follower in a consensus split (R470). -/
def State.masterShow (s : State) : State :=
  s.setB FYV.CONS_STAT'MASTER_LOST (s.f FYV.CASC_CFG'POS != 0 && s.f FYV.CASC_CFG'ROUNDS != 0 && !s.upstream)

/-- The link is UP: block lock and a delay measurement of round trip `trip` with turnaround `turn`, in ns (R464, R465). -/
def State.fyvUpNow (s : State) (l trip turn : Nat) : State :=
    have t := (s.set (FYV.LINK_STAT'UP l) 1).set (FYV.LINK_STAT'DELAY l) ((trip - turn) / 2)
    have t := if l < 2 ∨ l = 4 then { t with fyv := { t.fyv with stepped := false, timeNs := t.ns } } else t
    t.masterShow.raise 209

/-- A link ends its bring-up (R464). Its training takes 2 tokens of class 3 (R563): where the ledger defers it, the link
comes UP at the grant. With no image in force BUDGET has no value yet, and the training is not held up (log entry 38). -/
def State.fyvUp (s : State) (l trip turn : Nat) : State :=
  if !s.domOn pdLINK ∨ s.b (FYV.LINK_STAT'UP l) ∨ s.fyv.train.any (fun r => r.1 == l) then s
  else if !s.imgValid then s.fyvUpNow l trip turn
  else
    have q := s.ledgerRequest 3 l 2
    if q.1 then (q.2.fyvUpNow l trip turn).ledgerRelease 3 l
    else { q.2 with fyv := { q.2.fyv with train := q.2.fyv.train ++ [(l, trip, turn)] } }

/-- The training of link `l` is granted its tokens. -/
def State.fyvGranted (s : State) (l : Nat) : State :=
  match s.fyv.train.find? (fun r => r.1 == l) with
  | none => s.ledgerRelease 3 l
  | some r =>
    have t := { s with fyv := { s.fyv with train := s.fyv.train.erase r } }
    (t.fyvUpNow l r.2.1 r.2.2).ledgerRelease 3 l

def execFyverLinkUp (l : Fin 5) (trip turn : Nat) (s : State) : Host.Outcome State Fault Refusal := .next (s.fyvUp l trip turn)

/-- 16 sync-header errors in 1 024 blocks, or 1 ms without a valid frame (R464). The partner's votes become unknown with
the steady link (R456). -/
def State.fyvDown (s : State) (l : Nat) : State :=
  have s := { s with fyv := { s.fyv with train := s.fyv.train.filter (fun r => r.1 != l) } }
  have s := if s.pwr.waiting.any (fun r => r.cls == 3 && r.id == l) then s.ledgerCancel 3 l else s
  if !s.b (FYV.LINK_STAT'UP l) then s
  else
    have t := (s.set (FYV.LINK_STAT'UP l) 0).masterShow.raise 209
    if l = 4 then { t with fyv := { t.fyv with downNs := t.ns, pVotes := none, pActive := false } }.fbSuspShow else t

def execFyverLinkDown (l : Fin 5) (s : State) : Host.Outcome State Fault Refusal := .next (s.fyvDown l)

/-! ### Frames (R463-R467, R469, R470) -/

/-- A frame goes on, away from the link it came from. -/
def State.fyvForward (s : State) (l : Nat) (fr : List Byte) : State :=
  if l < 2 then (s.fyvSend 2 fr).fyvSend 3 fr else (s.fyvSend 0 fr).fyvSend 1 fr

/-- The image stream of a follower (R467). -/
def State.imgTake (s : State) (p : List Byte) : State :=
  have o := leAt p 0 4
  if !s.fyv.imgWait ∨ o < s.fyv.imgRx.length then s
  else if o = s.fyv.imgRx.length then { s with fyv := { s.fyv with imgRx := s.fyv.imgRx ++ p.drop 4 } }
  else { s with fyv := { s.fyv with imgBad := true } }

/-- A CONS_UP frame at the master (R469, R470). -/
def State.consUpTake (s : State) (pos : Nat) (p : List Byte) : State :=
  if s.fyv.consRound = 0 ∨ s.fyv.consGot.contains pos ∨ pos = 0 then s
  else { s with fyv := { s.fyv with consUp := s.fyv.consUp.set pos (wordsAt p 0 (p.length / 4)), consGot := s.fyv.consGot ++ [pos] } }

/-- CONS_DOWN at a follower (R469, R470). -/
def State.consDownTake (s : State) (p : List Byte) : State :=
  have z := (upto 2048).foldl (fun m c => m.set c (sxN 32 (leAt p (4 * c) 4))) (⟨[]⟩ : Sparse Int)
  (s.set FYV.CONS_STAT'MASTER_LOST 0).consApply z

/-- A frame for this module. -/
def State.fyvUse (s : State) (l ty src ns : Nat) (p : List Byte) : State :=
  match ty with
  | 0x01 =>
    have t := s.iff (!s.steadyTime) (·.timeTake ns (s.f (FYV.LINK_STAT'DELAY l)))
    have fr := t.fyvFrame 0x01 (8 + (t.f FYV.CASC_CFG'POS + 1) % 4) t.ns32 []
    (t.fyvSend 2 fr).fyvSend 3 fr
  | 0x02 =>
    have a := s.ns32
    s.fyvSend l (s.fyvFrame 0x03 src a (toLE 4 a ++ toLE 4 a))
  | 0x10 => if s.f FYV.CASC_CFG'POS = 0 then s.consUpTake (src % 4) p else s
  | 0x11 => s.consDownTake p
  | 0x20 => if p.isEmpty then s.raise 209 else s.imgTake p
  | _ => s

/-- A Fyver frame has arrived on link `l` at DT `ns` (R463, R464): discarded on a bad CRC; forwarded if it is for a
position further along; the first copy of a TYPE, SRC position and L3_SEQ is used, and time comes from FYV[0] while it is
UP (R465). -/
def State.fyvReceive (s : State) (l ns : Nat) (fr : List Byte) : State :=
  if !s.domOn pdLINK ∨ !s.b (FYV.LINK_STAT'UP l) then s
  else
    have s := s.advanceTo ns
    have len := leAt fr 4 2
    have bad := fr.length != 20 + len || decide (8192 < len) || len % 4 != 0 || leAt fr (16 + len) 4 != crc32c (fr.take (16 + len))
    if bad then
      have t := s.sat (FYV.LINK_STAT'CRC_CNT l)
      if leAt fr 0 1 = 0x20 ∧ t.fyv.imgWait then { t with fyv := { t.fyv with imgBad := true } } else t
    else
      have s := s.work 20
      have ty := leAt fr 0 1
      have src := leAt fr 1 1
      have dst := leAt fr 2 1
      have pos := s.f FYV.CASC_CFG'POS
      have key := [l / 2, ty, src % 4, leAt fr 6 2]
      have deaf := ty == 0x01 && !(l == 0 || (l == 1 && !s.b (FYV.LINK_STAT'UP 0)))
      have seen := ty == 0x01 && s.fyv.used.contains key
      have mine := dst % 4 == pos && (bit dst 3 || (dst / 4 % 2 == s.member))
      have onWay := ty == 0x11 && dst % 4 != pos
      have s := if ty = 0x01 ∧ !deaf then { s with fyv := { s.fyv with used := (key :: s.fyv.used).take 16 } } else s
      have s := if dst % 4 != pos then s.fyvForward l fr else s
      if seen || deaf then s
      else if mine || onWay then s.fyvUse l ty src (leAt fr 8 4) ((fr.drop 16).take len)
      else s

def execFyverFrameReceive (l : Fin 4) (ns : Nat) (fr : List (BitVec 8)) (s : State) : Host.Outcome State Fault Refusal :=
  .next (s.fyvReceive l ns fr)

/-! ### Sending an image (R467) -/

/-- A byte string cut into pieces of 8 188 bytes, with their offsets. -/
def imgPieces : Nat → Nat → List Byte → List (Nat × List Byte)
  | 0, _, _ => []
  | n + 1, o, l => if l.isEmpty then [] else (o, l.take 8188) :: imgPieces n (o + 8188) (l.drop 8188)

/-- IMG_SEND: the master sends the image in consecutive SMW buffers to a position, and the buffers return (R467). -/
def State.imgSendWrite (s : State) (v : Word) : State :=
  have pos := bitsOf v 30 29
  have n := bitsOf v 28 18
  have b := bitsOf v 10 0
  have t := s.plainWrite FYV.IMG_SEND v
  if !bit v.toNat 31 ∨ n < 1 ∨ 1024 < n ∨ 2048 < b + n ∨ t.f FYV.CASC_CFG'POS ≠ 0 then t
  else if !(upto n).all (fun i => t.owner (b + i) == ownDEVICE) then t
  else
    have len := min (4096 * n) (t.ldn (smwAt b + 0xC) 4)
    have img := t.bytes (smwAt b) len
    have t := t.each (imgPieces 600 0 img) fun x u =>
      have body := x.2 ++ List.replicate ((4 - x.2.length % 4) % 4) 0
      have fr := u.fyvFrame 0x20 (8 + pos) 0 (toLE 4 x.1 ++ body)
      (u.fyvSend 2 fr).fyvSend 3 fr
    t.each (upto n) fun i u => u.returnBuf (b + i)

def execImgSend (w : Req) (v : BitVec 32) (s : State) : Host.Outcome State Fault Refusal :=
  .next (s.regCmd w FYV.IMG_SEND (·.imgSendWrite v))

end Sys2Proof.Machine
end

