-- ==== Sys2Proof/Machine/ImageParse.lean ====
section
/-!
DEFINITION. The grain image as a byte string: header, directory, section bodies, and the value ranges that the load
checks (spec/02_grain_image.md, R31-R37, R584, and the chapters of the blocks; log entry 37).
-/
namespace Sys2Proof.Machine
open Sys2Proof

/-! ### Header and directory (R32, R33, R35) -/

def imgMax : Nat := 4194304

/-- `n` bytes of an image from offset `o`. -/
def slice (l : List Byte) (o n : Nat) : List Byte := (l.drop o).take n

/-- `n` bytes from offset `o` are all 0. -/
def zeros (l : List Byte) (o n : Nat) : Bool := (slice l o n).all (· == 0)

/-- A directory entry (R33). -/
structure DirEnt where
  ty : Nat
  inst : Nat
  flags : Nat
  ver : Nat
  off : Nat
  len : Nat
  crc : Nat
  rsv : Bool                   -- its reserved bytes are 0
  deriving DecidableEq, Repr, Inhabited

def imgLen (l : List Byte) : Nat := leAt l 0xC 4
def dirOff (l : List Byte) : Nat := leAt l 0x10 4
def sectCount (l : List Byte) : Nat := leAt l 0x14 2

def dirEnt (l : List Byte) (i : Nat) : DirEnt :=
  have o := dirOff l + 32 * i
  { ty := leAt l o 2, inst := leAt l (o + 2) 2, flags := leAt l (o + 4) 2, ver := leAt l (o + 6) 2, off := leAt l (o + 8) 4,
    len := leAt l (o + 0xC) 4, crc := leAt l (o + 0x10) 4, rsv := zeros l (o + 0x14) 12 }

/-- The directory, in order. -/
def imgDir (l : List Byte) : List DirEnt := (upto (min 64 (sectCount l))).map (dirEnt l)

/-- Highest INSTANCE and FLAGS of a defined type (R35). -/
def sectInfo (ty : Nat) : Option (Nat × Nat) :=
  match ty with
  | 0x1 => some (0, 1) | 0x2 => some (0, 1) | 0x3 => some (0, 1) | 0x4 => some (0, 1) | 0x5 => some (0, 1)
  | 0x6 => some (63, 2) | 0x7 => some (0, 0) | 0x8 => some (7, 1) | 0x9 => some (0, 1) | 0xA => some (0, 1)
  | 0xB => some (0, 1) | 0xC => some (7, 1) | 0xD => some (0, 2) | 0xE => some (0, 2) | 0xF => some (0, 2)
  | 0x10 => some (0, 0) | 0x20 => some (0, 5) | _ => none

/-- TYPE, INSTANCE and FLAGS of an entry as R35 allows them. -/
def DirEnt.typeOk (d : DirEnt) : Bool :=
  if 0x8000 ≤ d.ty then decide (d.flags < 8)
  else match sectInfo d.ty with
    | some (m, f) => decide (d.inst ≤ m) && d.flags == f
    | none => false

/-- Placement and length of an entry (R31, R33). -/
def DirEnt.placeOk (d : DirEnt) (len : Nat) : Bool :=
  d.off % 64 == 0 && decide (0x100 ≤ d.off) && decide (16 ≤ d.len) && decide (d.len ≤ 1048576) && d.len % 4 == 0 &&
    decide (d.off + d.len ≤ len)

/-- No two of the byte ranges (first, length) overlap. -/
def disjoint : List (Nat × Nat) → Bool
  | [] => true
  | a :: t => t.all (fun b => decide (a.1 + a.2 ≤ b.1) || decide (b.1 + b.2 ≤ a.1)) && disjoint t

/-- Step 5 of R40. -/
def dirOk (l : List Byte) : Bool :=
  have ds := imgDir l
  have n := 32 * sectCount l
  dirOff l % 64 == 0 && crc32c (slice l (dirOff l) n) == leAt l (dirOff l + n) 4 &&
    ds.all (fun d => d.typeOk && d.rsv && d.placeOk (imgLen l)) &&
    disjoint ((dirOff l, n + 4) :: ds.map (fun d => (d.off, d.len))) &&
    decide ((ds.map (fun d => (d.ty, d.inst))).Nodup)

def DirEnt.body (d : DirEnt) (l : List Byte) : List Byte := slice l d.off d.len

/-- The entry of a section. -/
def findSect (l : List Byte) (ty inst : Nat) : Option DirEnt := (imgDir l).find? (fun d => d.ty == ty && d.inst == inst)

/-- Version and body of a section; none where the image has none. -/
def sectBody (l : List Byte) (ty inst : Nat) : Option (Nat × List Byte) :=
  (findSect l ty inst).map (fun d => (d.ver, d.body l))

/-- The bytes that DIGEST covers (R32). -/
def digestBytes (l : List Byte) : List Byte := slice l 0 0x80 ++ slice l 0x100 (imgLen l - 0x100)

/-- The digest of a SAFETY body without its signature (R37). -/
def safeDigest (b : List Byte) : List Byte := Config.sha256 (b.take (b.length - 64))

/-- Reserved bytes and bits of the header (R32). -/
def headerOk (l : List Byte) : Bool :=
  decide (leAt l 9 1 < 2) && zeros l 0xB 1 && zeros l 0x16 2 && zeros l 0x40 64 && zeros l 0xE0 32

/-! ### Registers that private sections set -/

/-- The bits of the register at `a` that a section of type `ty` may set: FB configuration from TOPOLOGY and AXIS_SCALE,
but EN, which the load itself sets (R149), scale, limit and ELEC registers from AXIS_SCALE (R181), the user of pair 3 from LOCAL_GROUP, dead times, blanking
channels, trip selectors and trip states from PWM_TIMING (R91, R194; none for pair 3 of a remote group, R86), profile limits from MOTION_LIMITS (R187, R189). -/
def regMask (ty a : Nat) : Nat :=
  have page := a % 0x100
  have all := 0xFFFFFFFF
  if FB.FB_CFG 0 ≤ a ∧ a < FB.FB_CFG 72 then (if (ty == 1 || ty == 5) && [0, 4, 8, 0x50, 0x54].contains page then (if page == 0 then 0x7FFFFFFF else all) else 0)
  else if CTL.AX_CTRL 0 ≤ a ∧ a < CTL.AX_CTRL 64 then
    (if ty == 5 && isEngineCfg ((a - CTL.AX_CTRL 0) % (CTL.AX_CTRL 1 - CTL.AX_CTRL 0) / 4) then all else 0)
  else if PWM.BLANK_CFG 0 ≤ a ∧ a < PWM.BLANK_CFG 32 then (if ty == 7 && page % 8 == 0 then all else 0)
  else if PWM.GRP_CFG 0 ≤ a ∧ a < PWM.GRP_CFG 72 then
    (if a < PWM.GRP_CFG 64 && (page == 0x38 || page == 0x3C) then 0
     else if page == 0 then (if ty == 7 then 8 else if ty == 4 then 0x300 else 0)
     else if ty == 7 && [0x10, 0x14, 0x18, 0x20, 0x28, 0x30, 0x38].contains page then all else 0)
  else if PRF.PG_CMD 0 ≤ a ∧ a < PRF.PG_CMD 72 then
    (if ty == 13 && [0x18, 0x1C, 0x20, 0x24, 0x30, 0x34, 0x38, 0x3C].contains page then all else 0)
  else 0

/-- The bits of the register at `a` that a load sets. -/
def imgMask (a : Nat) : Nat := [1, 4, 5, 7, 13].foldl (fun m ty => m ||| regMask ty a) 0

/-- The word of a register after a section has set its bits. -/
def RegSet.word (r : RegSet) (ty : Nat) (old : Word) : Word :=
  have m := w32 (r.mask &&& regMask ty r.addr)
  (old &&& ~~~m) ||| (w32 r.val &&& m)

/-- The RW fields of a word put over an old one; no other field changes. -/
def RegRow.load (r : RegRow) (old v : Word) : Word :=
  r.fields.foldl (fun acc f => match f.acc with
    | .rw => putBits acc f.hi f.lo (bitsOf v f.hi f.lo)
    | .rwl _ => putBits acc f.hi f.lo (bitsOf v f.hi f.lo)
    | _ => acc) old

/-- Every RW field of a word has a value that a write may give it. -/
def RegRow.inRange (r : RegRow) (v : Word) : Bool :=
  r.fields.all (fun f => match f.acc with
    | .rw => f.valid.apply (bitsOf v f.hi f.lo + 1) (bitsOf v f.hi f.lo) == bitsOf v f.hi f.lo
    | _ => true)

/-- A section sets its register bits. -/
def State.regLoad (s : State) (ty : Nat) (r : RegSet) : State :=
  match rowAt r.addr with
  | some (row, _) => s.wr r.addr (row.load (s.rd r.addr) (r.word ty (s.rd r.addr)))
  | none => s

def State.regsLoad (s : State) (ty : Nat) (l : List RegSet) : State := s.each l fun r t => t.regLoad ty r

/-- The registers that a section sets hold values of their stated ranges; `s`: after they have been set. -/
def State.regsOk (s : State) (l : List RegSet) : Bool :=
  l.all (fun r => match rowAt r.addr with | some (row, _) => row.inRange (s.rd r.addr) | none => true)

/-! ### TIMING, POWER, CELL_WEIGHTS, MODEL (R36, R564, R237, R251) -/

/-- Step 12 of R40: BURST_N is above the maximum for its L0_DIV (R25). -/
def burstOver (b : List Byte) : Bool := decide ((if leAt b 0 1 = 5 then 2 else 8) < leAt b 1 1)

def timingOk (b : List Byte) : Bool :=
  b.length == 16 && [1, 2, 4, 5].contains (leAt b 0 1) && decide (1 ≤ leAt b 1 1) && zeros b 2 2 && zeros b 0xC 4 &&
    decide (40000 ≤ leAt b 4 4) && decide (leAt b 4 4 ≤ 400000) && decide (leAt b 4 4 + 100000 ≤ leAt b 8 4) &&
    decide (leAt b 8 4 ≤ 940000)

def powerOk (b : List Byte) : Bool :=
  b.length == 16 && decide (10 ≤ leAt b 0 2) && decide (leAt b 0 2 ≤ 500) && decide (1 ≤ leAt b 2 2) &&
    decide (leAt b 2 2 ≤ leAt b 0 2) && zeros b 4 12

def parseWeights (b : List Byte) : CellWeights :=
  { sigma := leAt b 0 4, rho := leAt b 4 4, rhoEq := leAt b 8 4, alpha := leAt b 0xC 4, ncg := leAt b 0x10 1,
    cgEps := leAt b 0x14 4, epsAbs := leAt b 0x18 4, epsRel := leAt b 0x1C 4, admmMax := leAt b 0x20 2,
    resEvery := leAt b 0x22 1, weight := (upto 64).map (fun w => leAt b (0x40 + 4 * w) 4) }

/-- EPS_ABS and EPS_REL: 0, or 2^-30 to 1.0 (R265). -/
def epsOk (w : Nat) : Bool := paramVal w == 0 || (decide (pow2 (-30) ≤ paramVal w) && decide (paramVal w ≤ 1))

/-- The ranges of R237 and R265, with the limits of the schedule header. -/
def weightsOk (f : FaceSched) (b : List Byte) : Bool :=
  have w := parseWeights b
  have inside := fun (lo hi x : Nat) => decide (paramVal lo ≤ paramVal x) && decide (paramVal x ≤ paramVal hi)
  b.length == 320 && inside f.sigmaMin f.sigmaMax w.sigma && inside f.rhoMin f.rhoMax w.rho && inside f.rhoMin f.rhoMax w.rhoEq &&
    decide (1 ≤ paramVal w.alpha) && decide (paramVal w.alpha ≤ 19 / 10) && decide (1 ≤ w.ncg) && decide (w.ncg ≤ 16) &&
    decide (pow2 (-24) ≤ paramVal w.cgEps) && decide (paramVal w.cgEps ≤ 1) && epsOk w.epsAbs && epsOk w.epsRel &&
    (paramVal w.epsAbs != 0 || paramVal w.epsRel != 0) && decide (1 ≤ w.admmMax) && decide (w.admmMax ≤ 4096) &&
    decide (1 ≤ w.resEvery) && decide (w.resEvery ≤ 64) && w.weight.all (fun x => decide (paramVal x ≤ paramVal f.wMax)) &&
    zeros b 0x11 3 && zeros b 0x23 29

/-- `n` data words from offset `o`. -/
def dataWords (b : List Byte) (o n : Nat) : List Int := (upto n).map (fun i => sxN 32 (leAt b (o + 4 * i) 4))

def parseModel (b : List Byte) : ArmModel :=
  { used := true, nj := leAt b 0 4, screws := (upto 8).map (fun j => dataWords b (0x10 + 32 * j) 6),
    ofs := (upto 8).map (fun j => sxN 40 (leAt b (0x110 + 16 * j) 5)),
    jscale := (upto 8).map (fun j => sxN 32 (leAt b (0x118 + 16 * j) 4)),
    caps := (upto 8).map (fun c => (leAt b (0x190 + 32 * c) 1 : Nat) :: dataWords b (0x194 + 32 * c) 7),
    links := (upto 8).map (fun i => dataWords b (0x290 + 48 * i) 10), grav := dataWords b 0x410 3 }

/-- The ranges of R251; `nax`: the axis count of the arm's queue. -/
def modelOk (nax : Nat) (b : List Byte) : Bool :=
  have nj := leAt b 0 4
  b.length == 1056 && decide (1 ≤ nj) && decide (nj ≤ 8) && nj == nax && zeros b 4 12 && zeros b 0x41C 4 &&
    (upto 8).all (fun j => zeros b (0x28 + 32 * j) 8 && zeros b (0x11C + 16 * j) 4 && decide (leAt b (0x190 + 32 * j) 1 < nj) &&
      zeros b (0x191 + 32 * j) 3 && zeros b (0x2B8 + 48 * j) 8)

/-! ### FACE_SCHED (R243-R248, R257, R258) -/

/-- Column offsets of the VALID entries of a tile. -/
def tileCols (b : List Byte) (o : Nat) : List Nat :=
  have n := leAt b (o + 8) 24
  (upto 16).filterMap (fun k => if bit n (12 * k + 10) then some (n / 2 ^ (12 * k) % 1024) else none)

def parseTile (b : List Byte) (o base : Nat) : Tile :=
  have h := leAt b o 4
  { out := h % 2 ^ 14, first := bit h 14, last := bit h 15, phase := h / 2 ^ 16 % 4, eM := sxN 7 (h / 2 ^ 18),
    seg := leAt b (o + 4) 2 % 1024, cols := tileCols b o, base := base }

/-- The tile stream; the value-memory index runs on over the VALID entries (R247). -/
def parseTiles (b : List Byte) : Nat → Nat → Nat → List Tile
  | 0, _, _ => []
  | n + 1, o, base =>
    have t := parseTile b o base
    t :: parseTiles b n (o + 32) (base + t.cols.length)

/-- Signed bytes cut into pieces of given lengths. -/
def cutBytes (b : List Byte) : Nat → List Nat → List (List Int)
  | _, [] => []
  | o, n :: l => (upto n).map (fun i => sxN 8 (leAt b (o + i) 1)) :: cutBytes b (o + n) l

/-- Offset of the assembly list: after the slot table, at the next multiple of 16 bytes (R257). -/
def asmOff (b : List Byte) : Nat := up16 (leAt b 0x64 4 + 8 * leAt b 0x1A 2)

def parseRun (b : List Byte) (o : Nat) : ARun :=
  { dest := leAt b o 4 % 2 ^ 20, target := leAt b o 4 / 2 ^ 20 % 16, count := leAt b (o + 4) 2, stride := sxN 16 (leAt b (o + 6) 2),
    word := leAt b (o + 8) 4, kind := leAt b (o + 0xC) 1, wgroup := leAt b (o + 0xD) 1 }

def parseFace (b : List Byte) : FaceSched :=
  have nn := leAt b 0x16 2
  have nm := leAt b 0x18 2
  have m := leAt b 2 2
  have segOf := fun v => if isRowVec v then nm else nn
  { n := leAt b 0 2, m := m, nnzP := leAt b 4 4, nnzA := leAt b 8 4, nnzOp := leAt b 0xC 4, preOff := leAt b 0x10 4,
    hash := leAt b 0x20 8, maxIterCyc := leAt b 0x2C 4, rhoMin := leAt b 0x30 4, rhoMax := leAt b 0x34 4,
    sigmaMin := leAt b 0x38 4, sigmaMax := leAt b 0x3C 4, wMax := leAt b 0x40 4, pivFloor := leAt b 0x44 4,
    bCost := leAt b 0x48 4,
    segN := (upto nn).map (fun i => 16 * leAt b (leAt b 0x4C 4 + i) 1),
    segM := (upto nm).map (fun i => 16 * leAt b (leAt b 0x4C 4 + nn + i) 1),
    exps := cutBytes b (leAt b 0x50 4) ((upto 16).map segOf), accE := cutBytes b (leAt b 0x54 4) [nn, nm, nn, nn],
    blocks := (upto (leAt b 0x14 2)).map (fun i => leAt b (leAt b 0x58 4 + i) 1 + 1),
    rows := (upto m).map (fun i => leAt b (leAt b 0x5C 4 + i / 2) 1 / 16 ^ (i % 2) % 16),
    tiles := parseTiles b (leAt b 0x1C 4) (leAt b 0x60 4) 0,
    slots := (upto (leAt b 0x1A 2)).map (fun i =>
      have o := leAt b 0x64 4 + 8 * i
      { op := leAt b o 1, n := leAt b (o + 1) 1, m := leAt b (o + 2) 1, nrhs := leAt b (o + 3) 1, eMat := sxN 8 (leAt b (o + 4) 1),
        eRhs := sxN 8 (leAt b (o + 5) 1), eSol := sxN 8 (leAt b (o + 6) 1), eFac := sxN 8 (leAt b (o + 7) 1) }),
    runs := (upto (min 16384 (leAt b (asmOff b) 4))).map (fun i => parseRun b (asmOff b + 16 + 16 * i)) }

/-- MAC of a slot (R239). -/
def BSlot.mac (s : BSlot) : Nat :=
  have chol := fun n => n * (n * n - 1) / 6
  have sub := fun n => n * (n - 1)
  match s.op with
  | 1 => chol s.n + s.nrhs * sub s.n
  | 2 => chol s.n + s.n * (s.n - 1) / 2 + s.nrhs * (sub s.n + s.n)
  | 3 =>
    have k := min s.m s.n
    k * (k + 1) / 2 * max s.m s.n + chol k + sub k + s.m * s.n
  | _ => chol s.n

/-- Operation and sizes of a slot (R238). -/
def BSlot.ok (s : BSlot) : Bool :=
  decide (1 ≤ s.n) && decide (s.n ≤ 16) && match s.op with
  | 1 => s.m == 0 && decide (1 ≤ s.nrhs) && decide (s.nrhs ≤ 4)
  | 2 => s.m == 0 && decide (1 ≤ s.nrhs) && decide (s.nrhs ≤ 4)
  | 3 => decide (1 ≤ s.m) && decide (s.m ≤ 16) && s.nrhs == 1
  | 4 => s.m == 0 && s.nrhs == 0
  | _ => false

/-- Segments of 16 to 1 024 elements that cover 0 to `n` − 1 in order (R244). -/
def segsCover (l : List Nat) (n : Nat) : Bool :=
  l.all (fun x => decide (16 ≤ x) && decide (x ≤ 1024)) && decide (n ≤ l.sum) && (l.isEmpty || decide (l.dropLast.sum < n))

/-- Vectors that a phase takes as input (R248). -/
def phaseInputs (ph : Nat) : List Nat := match ph with | 0 => [vXT, vP] | 1 => [vXT, vP] | 2 => [vAV] | _ => [vR]

/-- A tile: its entries inside its input segment, a phase 3 entry inside the block of its output index, every shift in
−63 to +8 (R248). -/
def FaceSched.tileOk (f : FaceSched) (t : Tile) : Bool :=
  have inSegs := if t.phase = 2 then f.segM else f.segN
  have outSegs := if t.phase = 1 then f.segM else f.segN
  have inLen := if t.phase = 2 then f.m else f.n
  have outLen := if t.phase = 1 then f.m else f.n
  have s0 := (segStarts 0 inSegs).getD t.seg 0
  have ea := (spread outSegs (f.accE.getD t.phase [])).getD t.out 0
  have blk := (blockStarts 0 f.blocks).find? (fun b => decide (b.1 ≤ t.out) && decide (t.out < b.1 + b.2))
  decide (t.seg < inSegs.length) && decide (t.out < outLen) &&
    t.cols.all (fun c => decide (c < inSegs.getD t.seg 0) && decide (s0 + c < inLen) &&
      (t.phase != 3 || match blk with | some b => decide (b.1 ≤ s0 + c) && decide (s0 + c < b.1 + b.2) | none => false)) &&
    (phaseInputs t.phase).all (fun v =>
      have d := t.eM + (f.exps.getD v []).getD t.seg 0 - ea
      decide (-63 ≤ d) && decide (d ≤ 8))

/-- A run stays inside its destination and the frame (R257, R258). -/
def FaceSched.runOk (f : FaceSched) (r : ARun) : Bool :=
  have last := (r.word : Int) + ((r.count : Int) - 1) * r.stride
  decide (1 ≤ r.count) && decide (r.count ≤ 1024) && [0, 5, 6, 7].contains r.target &&
    decide (r.dest + r.count ≤ (if r.target = 0 then f.nnzOp else f.len r.target)) &&
    (r.wgroup == 0xFF || decide (r.wgroup < 64)) &&
    (r.kind == 2 || (decide (r.kind < 2) && decide (r.word < 8192) && decide (0 ≤ last) && decide (last < 8192)))

/-- Reserved bits and bytes of the tables. -/
def faceReserved (b : List Byte) : Bool :=
  have a := asmOff b
  zeros b 0x68 24 && (upto (leAt b 0x1C 4)).all (fun i =>
      have o := leAt b 0x60 4 + 32 * i
      leAt b o 4 / 2 ^ 25 == 0 && leAt b (o + 4) 2 / 1024 == 0 && zeros b (o + 6) 2 &&
        (upto 16).all (fun k => !bit (leAt b (o + 8) 24) (12 * k + 11))) &&
    zeros b (a + 4) 12 && (upto (leAt b a 4)).all (fun i =>
      have o := a + 16 + 16 * i
      leAt b o 4 / 2 ^ 24 == 0 && zeros b (o + 0xE) 2)

/-- Every table lies inside the body, at an offset that is a multiple of 4. -/
def facePlaced (b : List Byte) : Bool :=
  have nn := leAt b 0x16 2
  have nm := leAt b 0x18 2
  have tabs := [(0x4C, nn + nm), (0x50, 9 * nn + 7 * nm), (0x54, 3 * nn + nm), (0x58, leAt b 0x14 2), (0x5C, (leAt b 2 2 + 1) / 2),
    (0x60, 32 * leAt b 0x1C 4), (0x64, 8 * leAt b 0x1A 2)]
  decide (128 ≤ b.length) && tabs.all (fun t => leAt b t.1 4 % 4 == 0 && decide (leAt b t.1 4 + t.2 ≤ b.length)) &&
    decide (asmOff b + 16 + 16 * leAt b (asmOff b) 4 ≤ b.length)

/-- An exponent of a segment or slot (R223). -/
def expOk (e : Int) : Bool := decide (-64 ≤ e) && decide (e ≤ 63)

/-- Every exponent of a segment and of a slot lies in −64 to +63 (R223, R240, R244). -/
def FaceSched.expsOk (f : FaceSched) : Bool :=
  f.exps.all (·.all expOk) && f.slots.all (fun b => expOk b.eMat && expOk b.eRhs && expOk b.eSol && expOk b.eFac)

/-- The checks of R222, R223, R248 and R258. -/
def faceOk (b : List Byte) : Bool :=
  have f := parseFace b
  facePlaced b && faceReserved b &&
    decide (f.n ≤ 16384) && decide (f.m ≤ 16384) && decide (f.nnzOp ≤ 262144) && f.nnzOp == f.nnzP + 2 * f.nnzA &&
    decide (f.preOff ≤ 16384) && decide (f.slots.length ≤ 256) && decide (f.bCost ≤ 262144) &&
    decide ((f.slots.map BSlot.mac).sum ≤ 262144) && f.slots.all BSlot.ok && decide (leAt b (asmOff b) 4 ≤ 16384) &&
    f.nnzOp == ((f.tiles.filter (fun t => decide (t.phase < 3))).map (fun t => t.cols.length)).sum && f.expsOk &&
    decide (((f.tiles.filter (fun t => t.phase == 3)).map (fun t => t.cols.length)).sum ≤ 16384) &&
    segsCover f.segN f.n && segsCover f.segM f.m && f.blocks.all (fun x => decide (x ≤ 16)) && f.blocks.sum == f.n &&
    f.rows.all (fun r => decide (r ≤ 4)) && f.tiles.all f.tileOk && f.runs.all f.runOk &&
    [0, 5, 6, 7].all (fun tg => disjoint ((f.runs.filter (fun r => r.target == tg)).map (fun r => (r.dest, r.count))))

/-! ### Checks on private sections that the chapters state -/

/-- Breakpoints rise by more than twice the hysteresis (R171). -/
def bpOk (hys : Int) : List Int → Bool
  | a :: b :: t => decide (2 * hys < b - a) && decide (a < b) && bpOk hys (b :: t)
  | _ => true

/-- GAIN_SCHED (R170, R171). -/
def GainSched.ok (g : GainSched) : Bool :=
  decide (1 ≤ g.na) && decide (g.na ≤ 4) && decide (1 ≤ g.nb) && decide (g.nb ≤ 4) && decide (g.na * g.nb ≤ 16) &&
    g.bpA.length == g.na - 1 && g.bpB.length == g.nb - 1 && decide (0 ≤ g.hysA) && decide (0 ≤ g.hysB) && bpOk g.hysA g.bpA &&
    bpOk g.hysB g.bpB && decide (g.varA ≤ 4) && decide (g.varB ≤ 4) && g.sets.length == g.na * g.nb

/-- A counted slot: kinds PRIMARY, DUAL, TWIN and FILL (R407, R414). -/
def SrtSlot.counted (s : SrtSlot) : Bool := s.kind != 3

/-- No node owns three counted slots in a row on one channel (R407). -/
def runsOk : List SrtSlot → Bool
  | a :: b :: c :: t =>
    !(a.counted && b.counted && c.counted && a.owner == b.owner && b.owner == c.owner) && runsOk (b :: c :: t)
  | _ => true

/-- FAILOVER slots of one channel: after the third counted slot that begins at the primary's slot or later on the other
channel, and of the frame's owner (R407). -/
def failoverOk (own other : List SrtSlot) : Bool :=
  ((upto own.length).zip own).all (fun js => js.2.kind != 3 ||
    match ((upto other.length).zip other).find? (fun ks => ks.2.frame == js.2.frame && (ks.2.kind == 0 || ks.2.kind == 2)) with
    | some ks =>
      have third := ((((upto other.length).zip other).filter (fun x => decide (ks.1 ≤ x.1) && x.2.counted)).map (·.1))[2]?
      js.2.owner == ks.2.owner && match third with | some t => decide (t < js.1) | none => false
    | none => false)

/-- The schedule (R407): all of slots 4-67 assigned. -/
def SrtTopo.ok (t : SrtTopo) : Bool :=
  t.chA.length == 64 && t.chB.length == 64 && (t.chA ++ t.chB).all (fun s => decide (s.owner < 32) && decide (s.kind ≤ 4)) &&
    runsOk t.chA && runsOk t.chB && failoverOk t.chA t.chB && failoverOk t.chB t.chA

/-- The mirrors of SAFETY (R363). -/
def safeMirrors : List Nat :=
  [SAFE.DEG_CFG, SAFE.SPD_CFG, SAFE.STILL_CFG, SAFE.SSM_CFG, SAFE.SSM_VH, SAFE.SSM_TERMS] ++ (upto 8).map SAFE.ZONE_CFG ++
    (upto 4).map SAFE.CD_CFG ++ (upto 24).map SAFE.FN_CFG ++ (upto 24).map SAFE.SI_CFG ++ (upto 8).map SAFE.LEVEL_SCALE ++
    (upto 8).map SAFE.SSM_ARM_CFG ++ (upto 8).map SAFE.SSM_ARM_CFG2 ++ (upto 8).map SAFE.SENSOR_CFG

/-- Every mirror with its value; one that the section does not give is 0. -/
def SafeTopo.mirrors (t : SafeTopo) : List (Nat × Nat) :=
  safeMirrors.map (fun a => (a, match t.regs.find? (fun p => p.1 == a) with | some p => p.2 | none => 0))

/-- The ranges of the mirrors (R335, R340, R341, R345, R347, R351-R353, R360, R374, R381, R429); `s`: with the mirrors set. -/
def State.safeOk (s : State) (t : SafeTopo) : Bool :=
  have fnOk := fun f => !s.b (SAFE.FN_CFG'EN f) ||
    ((s.b (SAFE.FN_CFG'REMOTE f) || (decide (5 ≤ s.f (SAFE.FN_CFG'T_OFF f)) && decide (s.f (SAFE.FN_CFG'T_OFF f) ≤ 200))) &&
      decide (1 ≤ s.f (SAFE.FN_CFG'T_DISC f)) && (decide (4 ≤ f) || !s.b (SAFE.FN_CFG'AUTO_RST f)))
  have toff := fun i =>
    if s.f (SAFE.SI_CFG'ROLE i) = 4 then 5
    else s.f (SAFE.FN_CFG'T_OFF (if s.f (SAFE.SI_CFG'ROLE i) = 5 then 4 + s.f (SAFE.SI_CFG'TARGET i) else s.f (SAFE.SI_CFG'TARGET i)))
  have siOk := fun i => !s.b (SAFE.SI_CFG'EN i) ||
    (decide (s.f (SAFE.SI_CFG'ROLE i) ≤ 5) && (decide (s.f (SAFE.SI_CFG'SUPPLY i) < 8) || s.f (SAFE.SI_CFG'SUPPLY i) == 0xE) &&
      decide (s.f (SAFE.SI_CFG'TARGET i) < (if s.f (SAFE.SI_CFG'ROLE i) < 4 then 24 else if s.f (SAFE.SI_CFG'ROLE i) = 4 then 4 else 8)) &&
      decide ((if s.f (SAFE.SI_CFG'SUPPLY i) = 0xE then 15 else 5) ≤ toff i) && decide (toff i ≤ 200))
  have armOk := fun a => !s.b (SAFE.SSM_ARM_CFG'EN a) ||
    (decide (1 ≤ s.f (SAFE.SSM_ARM_CFG'T_S a)) && decide (s.f (SAFE.SSM_ARM_CFG'T_S a) ≤ 1000) &&
      decide (15 ≤ s.f (SAFE.SSM_ARM_CFG'T_R a)) && decide (s.f (SAFE.SSM_ARM_CFG'T_R a) ≤ 4000))
  have ssm := (upto 8).any (fun a => s.b (SAFE.SSM_ARM_CFG'EN a))
  have lv := fun l => s.rdN (SAFE.LEVEL_SCALE l)
  (upto 24).all fnOk && (upto 24).all siOk && (upto 8).all armOk &&
    (upto 8).all (fun z => decide (s.f (SAFE.ZONE_CFG'SS1_T z) ≤ 5000)) &&
    (upto 4).all (fun k => !s.b (SAFE.CD_CFG'EN k) || (decide (20 ≤ s.f (SAFE.CD_CFG'EDM_T k)) &&
      decide (s.f (SAFE.CD_CFG'EDM_T k) ≤ 250) && decide (s.f (SAFE.CD_CFG'CD_DELAY k) ≤ 100))) &&
    decide (1000 ≤ s.f SAFE.DEG_CFG'DEG_T) && decide (s.f SAFE.DEG_CFG'DEG_T ≤ 30000) && decide (s.f SAFE.SPD_CFG'V_RED ≤ 250) &&
    decide (1 ≤ s.f SAFE.STILL_CFG'HUB_AGE_MAX) && decide (s.f SAFE.STILL_CFG'HUB_AGE_MAX ≤ 4) && decide (250 ≤ t.ageMax) && decide (t.ageMax ≤ 2000) &&
    (!ssm || (lv 0 == 0 && (upto 7).all (fun l => decide (lv l < lv (l + 1))) && decide (lv 7 ≤ 0x8000) && decide (2 ≤ s.f SAFE.SSM_CFG'DIST_TOL) &&
      (s.b SAFE.SSM_CFG'LOW_VH || (decide (1600 ≤ s.f SAFE.SSM_VH'V_H) && decide (1600 ≤ s.f SAFE.SSM_VH'V_H_FLOOR)))))

end Sys2Proof.Machine
end

