-- ==== Sys2Proof/Machine/Image.lean ====
section
/-!
DEFINITION. Loading, applying and patching the grain image (spec/02_grain_image.md, R39-R48, R585; log entry 37), and the
boot ROM of the gouge cores (R306).
-/
namespace Sys2Proof.Machine
open Sys2Proof

/-! ### The content of an image -/

/-- A list brought to `n` entries. -/
def fill {α : Type} [Inhabited α] (n : Nat) (l : List α) : List α := (upto n).map (fun i => l.getD i default)

def secOf {α : Type} (l : List Byte) (ty inst : Nat) (parse : Nat → List Byte → Option α) : Option α :=
  (sectBody l ty inst).bind (fun vb => parse vb.1 vb.2)

def imgTopo (l : List Byte) : Option (Sec TopoSec) := secOf l 1 0 Config.parseTopology
def imgBrick (l : List Byte) : Option (Sec (List BrickTopo)) := secOf l 3 0 Config.parseBrick
def imgLocal (l : List Byte) : Option (Sec (List LocalTopo)) := secOf l 4 0 Config.parseLocal
def imgScale (l : List Byte) : Option (Sec Unit) := secOf l 5 0 Config.parseScale
def imgPwm (l : List Byte) : Option (Sec Unit) := secOf l 7 0 Config.parsePwmTiming
def imgLimits (l : List Byte) : Option (Sec Unit) := secOf l 0xD 0 Config.parseLimits
def imgSafe (l : List Byte) : Option (Sec SafeTopo) := secOf l 0x20 0 Config.parseSafety
def imgCalRef (l : List Byte) : List Nat := (secOf l 0x10 0 Config.parseCalRef).getD []
def imgGains (l : List Byte) (a : Nat) : GainSched :=
  match secOf l 6 a Config.parseGains with | some g => { g with used := true } | none => default
def imgPortal (l : List Byte) (p : Nat) : PortTopo :=
  match secOf l 0xC p Config.parsePortal with | some q => { q with used := true } | none => default
def imgSrt (l : List Byte) : SrtTopo :=
  match secOf l 0xA 0 Config.parseSertik with | some t => { t with used := true } | none => default
def imgFace (l : List Byte) : FaceSched := match sectBody l 9 0 with | some vb => parseFace vb.2 | none => default
def imgWeights (l : List Byte) : CellWeights := match sectBody l 0xE 0 with | some vb => parseWeights vb.2 | none => default
def imgTiming (l : List Byte) : List Byte := ((sectBody l 2 0).map (·.2)).getD []
def imgPower (l : List Byte) : List Byte := ((sectBody l 0xF 0).map (·.2)).getD []

def imgTopoBody (l : List Byte) : TopoSec := match imgTopo l with | some t => t.body | none => default

/-- The kinematic chain of an arm: its axis slots in the order of their joints (R15, R196). -/
def armChain (l : List AxisTopo) (arm : Nat) : List Nat :=
  (upto 8).flatMap (fun j => (upto l.length).filter (fun i => have a := l.getD i default; a.used && a.arm == arm && a.jnt == j))

/-- Q[0..7] are the chains of ARM[0..7] in chain order; an axis of an arm reads the arm's queue (R160, R196). -/
def armQueues (l : List AxisTopo) (q : List QueueTopo) : List QueueTopo :=
  (upto 16).map (fun i => have x := q.getD i default
    if i < 8 then { x with used := !(armChain l i).isEmpty, axes := armChain l i } else x)

/-- The place of an arm's axis in its queue. -/
def armAxes (l : List AxisTopo) : List AxisTopo :=
  (upto l.length).map (fun i => have a := l.getD i default
    if a.used && decide (a.arm < 8) then { a with queue := a.arm, qpos := (armChain l a.arm).idxOf i } else a)

/-- The content of an image, as the blocks use it. -/
def imgCfg (l : List Byte) : Cfg :=
  have t := imgTopoBody l
  have s := match imgSafe l with | some x => x.body | none => default
  { burstN := leAt (imgTiming l) 1 1, roughEnd := leAt (imgTiming l) 4 4, solveDl := leAt (imgTiming l) 8 4,
    axes := fill 64 (armAxes (t.axes.take 64)), queues := armQueues (t.axes.take 64) t.queues,
    bricks := fill 16 (match imgBrick l with | some x => x.body | none => []),
    locals := fill 8 (match imgLocal l with | some x => x.body | none => []),
    gains := (upto 64).map (imgGains l), face := imgFace l, weights := imgWeights l,
    models := (upto 8).map (fun a => match sectBody l 8 a with | some vb => parseModel vb.2 | none => default),
    casc := t.casc, safe := { s with regs := s.mirrors }, portals := (upto 8).map (imgPortal l), srt := imgSrt l }

/-- Register bits that the private sections set, by type. -/
def imgRegs (l : List Byte) : List (Nat × List RegSet) :=
  [(1, match imgTopo l with | some x => x.regs | none => []), (5, match imgScale l with | some x => x.regs | none => []),
   (4, match imgLocal l with | some x => x.regs | none => []), (7, match imgPwm l with | some x => x.regs | none => []),
   (13, match imgLimits l with | some x => x.regs | none => [])]

/-- The state with the registers of an image set, on which its ranges are judged. -/
def State.overlay (s : State) (l : List Byte) : State :=
  have t := { s with cfg := imgCfg l }
  have t := t.each (imgRegs l) fun p u => u.regsLoad p.1 p.2
  t.each t.cfg.safe.regs fun p u => u.wrN p.1 p.2

/-! ### Step 13: ranges -/

/-- The axes of arm `k` in chain order (R196). -/
def TopoSec.chain (t : TopoSec) (k : Nat) : List Nat :=
  (upto 8).flatMap (fun j => (upto 64).filter (fun a => have x := t.axes.getD a default; x.used && x.arm == k && x.jnt == j))

/-- Q[0..7] hold the chains of ARM[0..7], and an axis stands where it says it stands in its queue (R160, R196); that an image
which breaks this is refused with RANGE is the model's choice (log entry 37). -/
def TopoSec.queuesOk (t : TopoSec) : Bool :=
  (upto 8).all (fun k => have q := t.queues.getD k default; !q.used || q.axes == t.chain k) &&
    (upto 64).all (fun a =>
      have x := t.axes.getD a default
      !x.used || decide (15 < x.queue) ||
        ((t.queues.getD x.queue default).used && (t.queues.getD x.queue default).axes[x.qpos]? == some a))

/-- TOPOLOGY: numbers inside their ranges; PAIR_OFS (R448); the cascade part (R463, R468) and the round window (R469). -/
def topoOk (l : List Byte) (t : TopoSec) : Bool :=
  have tm := imgTiming l
  have t0 := 50000 / max 1 (leAt tm 0 1)
  have f := imgFace l
  t.axes.all (fun a => !a.used || (decide (a.arm ≤ 8) && decide (a.jnt < 8) && decide (a.ainA < 144) && decide (a.ainB < 144) &&
    decide (a.ainDc < 144) && decide (a.fb < 72) && decide (a.lpg < 8) && decide (a.queue ≤ 16) && decide (a.qpos < 8))) &&
    t.queues.all (fun q => decide (q.stopArm < 8) || q.stopArm == 15) && t.queuesOk &&
    (t.queues.drop 8).all (fun q => !q.used || (decide (1 ≤ q.axes.length) && decide (q.axes.length ≤ 8) && q.axes.all (fun x => decide (x < 64)))) &&
    decide (t.pairOfs < 1024) && decide (2 * (200 * (leAt tm 1 1 - 1) + 4190) + 5 * t.pairOfs ≤ t0 - 1200) &&
    decide (1 ≤ t.casc.npos) && decide (t.casc.npos ≤ 4) && decide (t.casc.pos < t.casc.npos) && decide (t.casc.rounds ≤ 8) &&
    decide (t.casc.shared.length ≤ 1024) && t.casc.shared.all (fun p => decide (p.1 < f.n) && decide (p.2 < 2048)) &&
    (t.casc.rounds == 0 || decide (100 ≤ (leAt tm 8 4 - leAt tm 4 4) / (1000 * t.casc.rounds)))

/-- SPD_LO < SPD_HI on every channel (R140, R149). -/
def State.fbRangeOk (s : State) : Bool :=
  (upto 72).all (fun c => decide (s.f (FB.SPD_CFG'SPD_LO c) < s.f (FB.SPD_CFG'SPD_HI c)))

/-- The value ranges of one section. CELL_WEIGHTS in an image without FACE_SCHED is judged against limits of 0: R237 judges it
by the schedule header and does not say what holds without one (the model's choice, log entry 37). `o`: the state with the image's registers set. -/
def State.rangeOk (o : State) (l : List Byte) (d : DirEnt) : Bool :=
  have b := d.body l
  have regs := fun (r : Option (List RegSet)) => match r with | some x => o.regsOk x | none => false
  if 0x8000 ≤ d.ty then true
  else match d.ty with
  | 0x1 => regs ((imgTopo l).map (·.regs)) && topoOk l (imgTopoBody l) && o.fbRangeOk
  | 0x2 => timingOk b
  | 0x3 => match imgBrick l with
    | some x => x.body.all (fun k => !k.used || (decide (k.axes.length ≤ 4) && k.axes.all (fun a => decide (a ≤ 64)) && decide (k.zone < 8)))
    | none => false
  | 0x4 => match imgLocal l with
    | some x => o.regsOk x.regs && x.body.all (fun g => decide (g.mode ≤ 2) && decide (g.ainA < 144) && decide (g.ainB < 144) && decide (g.zone < 8))
    | none => false
  | 0x5 => regs ((imgScale l).map (·.regs)) && o.fbRangeOk &&
    (upto 64).all (fun a => decide (o.f (CTL.VLIM'VLIM a) ≤ 0x8000))
  | 0x6 => match Config.parseGains d.ver b with | some g => g.ok | none => false
  | 0x7 => regs ((imgPwm l).map (·.regs))
  | 0x8 => modelOk ((o.qTopo d.inst).axes.length) b
  | 0x9 => faceOk b
  | 0xA => match Config.parseSertik d.ver b with | some t => t.ok | none => false
  | 0xB => (Config.parseZone d.ver b).isSome
  | 0xC => match Config.parsePortal d.ver b with
    | some q => decide (q.kind ≤ 2) && decide (q.lpg < 8) && decide (q.ain < 144) && decide (64 ≤ q.fb) && decide (q.fb < 72) && decide (q.zone < 8) &&
      decide (q.closedLs < 24) && decide (q.openLs < 24) && decide (q.runOpen < 16) && decide (q.runClose < 16) &&
      decide (o.f (SAFE.FN_CFG'T_OFF (4 + d.inst)) + 10 * q.brakeT ≤ 190)
    | none => false
  | 0xD => regs ((imgLimits l).map (·.regs)) && (upto 72).all (fun g => decide (o.pgLo g ≤ o.pgHi g))
  | 0xE => weightsOk (imgFace l) b
  | 0xF => powerOk b
  | 0x10 => (Config.parseCalRef d.ver b).isSome
  | _ => match imgSafe l with | some x => o.safeOk x.body | none => false

/-! ### Step 14: resources (R15, R40, R194) -/

/-- What a section takes, as (kind, number): 0 input, 1 feedback channel, 2 local group, 3 axis at a brick, 4 axis of a
queue, 5 place in an arm or queue, 6 field output, 7 field input. -/
def State.uses (o : State) (l : List Byte) (d : DirEnt) : List (Nat × Nat) :=
  match d.ty with
  | 0x1 =>
    have ax := o.cfg.axes.filter (·.used)
    ax.flatMap (fun a => [(0, a.ainA), (0, a.ainB), (1, a.fb)] ++ (if a.isLocal then [(2, a.lpg)] else []) ++
        (if a.arm < 8 then [(5, 8 * a.arm + a.jnt)] else []) ++ (if a.queue < 16 then [(5, 1000 + 8 * a.queue + a.qpos)] else [])) ++
      ((ax.filter (·.isLocal)).map (fun a => (0, a.ainDc))).eraseDups ++
      (o.cfg.queues.filter (·.used)).flatMap (fun q => q.axes.map (fun x => (4, x)))
  | 0x3 => match imgBrick l with
    | some x => (x.body.filter (·.used)).flatMap (fun k => (k.axes.filter (fun a => decide (a < 64))).map (fun a => (3, a)))
    | none => []
  | 0x4 => match imgLocal l with
    | some x => (x.body.filter (fun g => g.mode == 2)).flatMap (fun g => [(0, g.ainA), (0, g.ainB)])
    | none => []
  | 0xC =>
    have q := imgPortal l d.inst
    have g := o.cfg.locals.getD q.lpg default
    (if q.kind = 2 then [(0, q.ain), (6, q.runOpen), (6, q.runClose)]
     else [(2, q.lpg)] ++ (if q.kind = 0 then [(0, g.ainA), (0, g.ainB)] else [(0, q.ain)])) ++
      (if q.posLs then [(7, q.closedLs), (7, q.openLs)] else [(1, q.fb)])
  | _ => []

/-- A slot, group or channel described twice within one section. -/
def secTwice (l : List Byte) (ty : Nat) : Bool :=
  match ty with
  | 0x1 => match imgTopo l with | some x => x.twice | none => false
  | 0x3 => match imgBrick l with | some x => x.twice | none => false
  | 0x4 => match imgLocal l with | some x => x.twice | none => false
  | 0x5 => match imgScale l with | some x => x.twice | none => false
  | 0x7 => match imgPwm l with | some x => x.twice | none => false
  | 0xD => match imgLimits l with | some x => x.twice | none => false
  | 0x20 => match imgSafe l with | some x => x.twice | none => false
  | _ => false

/-- R15: axis slots of TOPOLOGY. R15 names RESOURCE for an input above AIN[125] on AXIS[0..3], R40 for a local group that
is not in INVERTER mode and for more than 8 axes in an arm; that a local axis in an arm, or with inputs or a feedback
channel that are not local, gets RESOURCE too is the model's choice (log entry 37). -/
def State.axesOk (o : State) : Bool :=
  ((upto 64).zip o.cfg.axes).all (fun ia =>
    have a := ia.2
    !a.used || ((decide (4 ≤ ia.1) || (decide (a.ainA ≤ 125) && decide (a.ainB ≤ 125) && (!a.isLocal || decide (a.ainDc ≤ 125)))) &&
      (!a.isLocal || (a.arm == 8 && decide (128 ≤ a.ainA) && decide (128 ≤ a.ainB) && decide (128 ≤ a.ainDc) && decide (64 ≤ a.fb) &&
        (o.cfg.locals.getD a.lpg default).mode == 1)))) &&
    (upto 8).all (fun arm => decide ((o.cfg.axes.filter (fun a => a.used && a.arm == arm)).length ≤ 8))

/-- A used axis at a brick is assigned and not local (R15). -/
def State.bricksOk (o : State) : Bool :=
  o.cfg.bricks.all (fun k => !k.used || k.axes.all (fun a => decide (64 ≤ a) || (o.axUsed a && !(o.axTopo a).isLocal)))

/-- No trip selector names a comparator that a chopper owns (R194). -/
def State.selectorsOk (o : State) : Bool :=
  have own := (o.cfg.locals.filter (fun g => g.mode == 2)).flatMap (fun g => [16 + g.ainA, 16 + g.ainB])
  (upto 72).all (fun g => (upto 8).all (fun i =>
    !own.contains (o.rdN (if i < 4 then PWM.TRIP_SEL_A g else PWM.TRIP_SEL_B g) / 256 ^ (i % 4) % 256)))

/-- A portal with a motor of its own stands on a local group in INVERTER mode (R382; that the refusal is RESOURCE, as R40
names it for a local axis, is the model's choice, log entry 37). -/
def State.portalOk (o : State) (p : Nat) : Bool :=
  have q := o.cfg.portals.getD p default
  !q.used || q.kind == 2 || (o.cfg.locals.getD q.lpg default).mode == 1

/-- Step 14 for the entry after the entries `before`. -/
def State.resourceOk (o : State) (l : List Byte) (before : List DirEnt) (d : DirEnt) : Bool :=
  have prior := before.flatMap (o.uses l)
  have u := o.uses l d
  !secTwice l d.ty && decide (u.Nodup) && u.all (fun x => !prior.contains x) &&
    (d.ty != 1 || o.axesOk) && (d.ty != 0xC || o.portalOk d.inst) && (d.ty != 3 || o.bricksOk) && (d.ty != 4 || o.selectorsOk) && (d.ty != 7 || o.selectorsOk)

/-! ### The checks of R40 -/

/-- The option area in force (R551). -/
def State.opt (s : State) : OptArea := if s.f RST.RST_STAT'OPT_COPY = 2 then s.optB else s.optA

/-- Image key slot `k` verifies a signature over `msg` (R38). -/
def State.imgKeyOk (s : State) (k : Nat) (msg sig : List Byte) : Bool :=
  have key := s.opt.imgKeys.getD k []
  decide (k < 4) && !key.isEmpty && !bit s.opt.revoked k && Config.ed25519 key msg sig

/-- Safety key slot `k` verifies a signature over `msg` (R37, R38). -/
def State.safeKeyOk (s : State) (k : Nat) (msg sig : List Byte) : Bool :=
  have key := s.opt.safeKeys.getD k []
  !key.isEmpty && !bit s.opt.revoked (4 + k) && Config.ed25519 key msg sig

/-- A check that failed: its status, and the directory index for steps 7, 12, 13 and 14. -/
abbrev ImgFail := Nat × Option Nat

/-- First entry of a list, with its index, that fails a check. -/
def firstBad (i : Nat) (ok : List DirEnt → DirEnt → Bool) (before : List DirEnt) : List DirEnt → Option Nat
  | [] => none
  | d :: t => if ok before d then firstBad (i + 1) ok (before ++ [d]) t else some i

/-- The first check that fails of a list in order. -/
def firstFail : List (Bool × ImgFail) → Option ImgFail
  | [] => none
  | (ok, f) :: t => if ok then firstFail t else some f

/-- Steps 2-8 of R40. -/
def State.checkFormat (s : State) (l : List Byte) : Option ImgFail :=
  have ds := imgDir l
  have bad7 := firstBad 0 (fun _ d => crc32c (d.body l) == d.crc) [] ds
  firstFail [
    (leAt l 0 4 == 0x4947584A && leAt l 4 2 == 2, (0x11, none)),
    (leAt l 6 2 == 0x6408 && decide (leAt l 8 1 ≤ 16 * s.f SYS.CHIP_ID'STEP_MAJOR + s.f SYS.CHIP_ID'STEP_MINOR), (0x12, none)),
    (decide (0x100 ≤ imgLen l) && decide (imgLen l ≤ imgMax) && decide (1 ≤ sectCount l) && decide (sectCount l ≤ 64) &&
      decide (dirOff l + 32 * sectCount l + 4 ≤ imgLen l), (0x13, none)),
    (dirOk l, (0x14, none)),
    ([0x1, 0x2, 0x5, 0xF, 0x20].all (fun t => (findSect l t 0).isSome), (0x15, none)),
    (bad7.isNone, (0x16, bad7)),
    (Config.sha256 (digestBytes l) == slice l 0x80 32, (0x17, none))]

/-- Steps 9-15 of R40. A SAFETY body of less than 68 bytes cannot hold SAFETY_VER and its signature: it gets SIG_SAFETY,
the model's choice (R37; log entry 37). -/
def State.checkContent (s : State) (l : List Byte) : Option ImgFail :=
  have ds := imgDir l
  have safe := ((sectBody l 0x20 0).map (·.2)).getD []
  have dg := safeDigest safe
  have sg := safe.drop (safe.length - 64)
  have o := s.overlay l
  have bad13 := firstBad 0 (fun _ d => o.rangeOk l d) [] ds
  have bad14 := firstBad 0 (o.resourceOk l) [] ds
  have idx2 := firstBad 0 (fun _ d => d.ty != 2) [] ds
  have recs := (s.nand.pages.cells.filter (fun c => c.2.part == 3)).map (fun c => leAt c.2.data 2 2)
  firstFail [
    (!(bit (leAt l 9 1) 0 || s.b SYS.IMG_POLICY'REQUIRE_SIG) || s.imgKeyOk (leAt l 0xA 1) (slice l 0x80 32) (slice l 0xA0 64), (0x18, none)),
    (decide (68 ≤ safe.length) && (s.safeKeyOk 0 dg sg || s.safeKeyOk 1 dg sg), (0x19, none)),
    (decide (s.opt.safetyFloor ≤ leAt safe 0 4), (0x1A, none)),
    (!burstOver (imgTiming l), (0x1B, idx2)),
    (headerOk l, (0x1C, none)),
    (bad13.isNone, (0x1C, bad13)),
    (bad14.isNone, (0x1D, bad14)),
    ((imgCalRef l).all (fun r => recs.contains r), (0x1E, none))]

/-! ### Sources (R40, step 1) -/

def stageWindow : Nat := 0x3000000
def shadowWindow : Nat := 0x3400000

/-- The bytes of an image slot: the pages of its good blocks from the lowest, up to the first that is not valid. -/
def State.slotBytes (s : State) (slot : Nat) : List Byte :=
  have keys := (s.goodAfter (1 + slot) ((partRange (1 + slot)).1 - 1)).flatMap (fun b => (upto 256).map (256 * b + ·))
  have pages := (keys.map (fun k => lookupCell k s.nand.pages.cells)).takeWhile (·.isSome)
  pages.flatMap (fun p => match p with | some x => x.data | none => [])

/-- The bytes of the source in use, where it is readable: whole up to IMAGE_LEN. -/
def State.sourceBytes (s : State) (src : Nat) : Option (List Byte) :=
  have l := match src with
    | 3 => s.bytes stageWindow s.sys.stageLen
    | 4 => if s.fyv.imgBad then [] else s.fyv.imgRx
    | n => if s.fbit NAND.NAND_STAT'FAILED n then [] else s.slotBytes (n - 1)
  if l.length < 0x10 ∨ l.length < imgLen l then none else some (l.take (imgLen l))

/-! ### Applying an image (R41) -/

/-- The fields that mirror the structural sections. -/
def State.imgMirrors (s : State) (t : TopoSec) : State :=
  have c := s.cfg
  have s := s.each (upto 72) fun g u =>
    u.set (PWM.GRP_CFG'MODE g) (if 64 ≤ g then (c.locals.getD (g - 64) default).mode
      else if (u.grpPort g).isSome && u.axUsed g then modeREMOTE else 0)
  have s := s.each (upto 16) fun n u =>
    have k := c.bricks.getD n default
    have ax := fun i => k.axes.getD i 64
    have u := u.iff k.used (·.set (BLK.PORT_CFG'EN n) 1)
    have u := u.wrN (BLK.PORT_MAP n) (((upto 4).map (fun i => ax i % 64 * 256 ^ i)).sum)
    u.wrN (BLK.POS_EN n) (((upto 4).map (fun i => if k.used && decide (ax i < 64) then 2 ^ i else 0)).sum)
  have s := s.each (upto 16) fun q u =>
    have x := c.queues.getD q default
    have u := ((u.setB (TRJ.Q_CFG'EN q) x.used).set (TRJ.Q_CFG'ARM q) (if x.used then x.stopArm else 0xF)).set (TRJ.Q_CFG'NAX q) x.axes.length
    (u.wrN (TRJ.Q_MAP_A q) (((upto 4).map (fun i => x.axes.getD i 0 * 256 ^ i)).sum)).wrN (TRJ.Q_MAP_B q)
      (((upto 4).map (fun i => x.axes.getD (4 + i) 0 * 256 ^ i)).sum)
  have s := (s.set FYV.PAIR_CFG'ALIGN_TOL t.alignTol).set FYV.PAIR_CFG'PAIR_OFS t.pairOfs
  have k := c.casc
  ((((s.set FYV.CASC_CFG'POS k.pos).set FYV.CASC_CFG'NPOS_M1 (k.npos - 1)).set FYV.CASC_CFG'ROUNDS k.rounds).set FYV.CASC_CFG'SHARED
    k.shared.length).masterShow

/-- The gain-schedule view of an axis, in its first region. -/
def State.gainView (s : State) (a : Nat) : State :=
  have g := s.cfg.gains.getD a default
  have s := s.wrN (CTL.GS_CFG a) (if g.used then (g.nb - 1) * 1024 + (g.na - 1) * 256 + g.varB * 16 + g.varA else 0)
  have s := s.each (upto 3) fun i u => (u.wrI (CTL.GS_BP_A a i) (g.bpA.getD i 0)).wrI (CTL.GS_BP_B a i) (g.bpB.getD i 0)
  (((s.wrI (CTL.GS_HYS_A a) g.hysA).wrI (CTL.GS_HYS_B a) g.hysB).set (CTL.AX_STAT'REGION a) 0).loadGains a (g.sets.getD 0 [])

/-- The channels of the assigned axes are enabled (R149). -/
def State.fbLoad (s : State) : State :=
  s.each (s.cfg.axes.filter (·.used)) fun a u =>
    if u.b (FB.FB_CFG'EN a.fb) then u else (u.set (FB.FB_CFG'EN a.fb) 1).fbEnabled a.fb

/-- Blanking channels of the section replace all others (R96). -/
def State.blankLoad (s : State) (l : List RegSet) : State :=
  have t := s.each (upto 32) fun b u => u.wrN (PWM.BLANK_CFG b) 0
  have t := t.regsLoad 7 l
  t.each (upto 32) fun b u => u.iff (!u.b (PWM.BLANK_CFG'EN b)) (·.set (PWM.BLANK_STAT'OPEN b) 0)

/-- BUDGET and THROT_TOK (R564). -/
def State.budgetLoad (s : State) (b : List Byte) : State :=
  ((s.set PWR.LEDGER_CFG'BUDGET (leAt b 0 2)).set PWR.THROT_TOK'THROT_TOK (leAt b 2 2)).ledgerSync

/-- The coefficients of the ADC record that CAL_REF names last (R76). -/
def State.calCoefs (s : State) (ids : List Nat) : Option (List Nat) :=
  have recs := s.nand.pages.cells.filter (fun c => c.2.part == 3 && leAt c.2.data 0 1 == 1)
  (ids.reverse.findSome? (fun id => recs.find? (fun c => leAt c.2.data 2 2 == id))).map
    (fun c => (upto 144).map (fun i => leAt c.2.data (16 + 4 * i) 4))

/-- FACE_SIZE, and a memory of the Faceplate that an image load clears (R258, R269). -/
def State.faceLoad (s : State) : State :=
  have f := s.cfg.face
  have blocks := fun n => (n + 4095) / 4096
  have s := (s.set FACE.FACE_SIZE'S_SET_BUFS (if f.n = 0 then 0 else blocks (64 + 4 * (f.n + 2 * f.m)))).set FACE.FACE_SIZE'B_IN_BUFS
    (if f.slots.isEmpty then 0 else blocks (bInBytes f))
  have s := s.set FACE.FACE_SIZE'B_OUT_BUFS (if f.slots.isEmpty then 0 else blocks (bOutBytes f))
  { s with face := { s.face with vals := ⟨[]⟩, vecs := ⟨[]⟩, pre := [], prevOk := false },
           fyv := { s.fyv with consU := ⟨[]⟩, consZ := ⟨[]⟩, consQ0 := ⟨[]⟩ } }

/-- Field outputs and third pairs that a PORTAL section takes (R382, R474). -/
def State.portalPins (s : State) : State :=
  s.each (s.cfg.portals.filter (·.used)) fun q u =>
    if q.kind = 2 then
      have u := u.wr DIO.DIO_OUT_SRC (putBits (u.rd DIO.DIO_OUT_SRC) (2 * q.runOpen + 1) (2 * q.runOpen) 2)
      u.wr DIO.DIO_OUT_SRC (putBits (u.rd DIO.DIO_OUT_SRC) (2 * q.runClose + 1) (2 * q.runClose) 2)
    else if q.brake then u.set (PWM.GRP_CFG'SPARE_SRC (64 + q.lpg)) 2 else u

/-- Outputs that no PORTAL section of the new image takes go back to the DIO_OUT bit. -/
def State.portalPinsFree (s : State) : State :=
  have s := s.each (upto 16) fun i u => u.iff (u.foSrc i == 2) (fun x => x.wr DIO.DIO_OUT_SRC (putBits (x.rd DIO.DIO_OUT_SRC) (2 * i + 1) (2 * i) 0))
  s.each (upto 8) fun n u => u.iff (u.f (PWM.GRP_CFG'SPARE_SRC (64 + n)) == 2) (·.set (PWM.GRP_CFG'SPARE_SRC (64 + n)) 0)

/-- HALF = T0 / 5 ns (R82), for the divider in force. -/
def State.halfLoad (s : State) : State := s.set PWM.PWM_STAT'HALF (s.t0 / 5)

/-- What the image sets in the registers and the state of one domain: at the load, and again at a release of that domain
alone (R41, R585). `forget`: the portals forget their envelopes (R389). -/
def State.imgDomain (s : State) (l : List Byte) (d : Nat) (forget : Bool) : State :=
  if d = pdCTL then
    have s := s.each (upto 72) fun g u => u.set (PWM.GRP_CFG'SRC g) 0
    have s := s.each ((imgRegs l).filter (fun p => p.1 != 7)) fun p u => u.regsLoad p.1 p.2
    have s := s.blankLoad (match imgPwm l with | some x => x.regs | none => [])
    ((((s.halfLoad.each (upto 64) fun a u => u.gainView a).fbLoad.portalPins).portalsLoad forget).imgMirrors (imgTopoBody l))
  else if d = pdLINK then (s.imgMirrors (imgTopoBody l)).srtLoad
  else if d = pdADC then s.adcLoad (s.calCoefs (imgCalRef l))
  else if d = pdFACE then s.faceLoad
  else if d = pdAON then s.budgetLoad (imgPower l)
  else s

/-- The image shadow holds the image. -/
def State.shadowStore (s : State) (l : List Byte) : State :=
  { s with mem := s.mem.clearIf (fun k => decide (shadowWindow ≤ k) && decide (k < shadowWindow + imgMax)) }.putBytes shadowWindow l

/-- The image shadow as bytes. -/
def State.shadow (s : State) : List Byte := s.bytes shadowWindow (s.ldn (shadowWindow + 0xC) 4)

/-- TIMING is read from the image shadow (R36): L0_DIV, the burst length and the instants of L3 work come into force. -/
def State.timingTake (s : State) : State :=
  if !s.imgValid then s
  else
    have b := imgTiming s.shadow
    have k := leAt b 0 1
    have s := { s with cfg := { s.cfg with burstN := leAt b 1 1, roughEnd := leAt b 4 4, solveDl := leAt b 8 4 } }
    ((s.set SYS.CYCLE_CFG'L0_DIV k).set SYS.CYCLE_CFG'BURST_MAX (if k = 5 then 2 else 8)).iff (s.domOn pdCTL) (·.halfLoad)

/-- All sections take effect in one step (R41). TIMING comes into force at the next L3 boundary, which reads it from the
shadow (R36); while no boundaries come, at once (log entry 46). -/
def State.imgApply (s : State) (l : List Byte) : State :=
  have dg := safeDigest (((sectBody l 0x20 0).map (·.2)).getD [])
  have s := { (s.shadowStore l) with cfg := { imgCfg l with burstN := s.cfg.burstN, roughEnd := s.cfg.roughEnd, solveDl := s.cfg.solveDl } }
  have s := ((s.set SYS.IMG_STAT'VALID 1).set SYS.IMG_STAT'MODIFIED 0).set SYS.PATCH_STAT'PATCH_COUNT 0
  have s := (s.wrN SYS.IMG_SEQ (leAt l 0x18 4)).wrN SYS.IMG_SAFE_ID (leAt dg 0 4)
  have s := (s.wrN SYS.STRUCT_HASH_LO (leAt l 0x28 4)).wrN SYS.STRUCT_HASH_HI (leAt l 0x2C 4)
  have s := { s with nand := { s.nand with refs := s.nand.refs.set 0 (imgCalRef l) } }
  have s := s.iff (!s.cycRun) (·.timingTake)
  (s.each [pdAON, pdADC, pdFACE, pdLINK, pdCTL] fun d u => u.imgDomain l d true).safeLoad

/-- The register bits that sections set go back to their reset values: no part of the image drives a block any more (R40),
and a block whose section the next image leaves out is unconfigured (R584). A feedback channel that the image did not
concern keeps what was written (R149). -/
def State.imgRegsReset (s : State) : State :=
  have named := (imgRegs s.shadow).flatMap (fun p => (p.2.filter (fun r => decide (FB.FB_CFG 0 ≤ r.addr ∧ r.addr < FB.FB_CFG 72))).map
    (fun r => (r.addr - FB.FB_CFG 0) / 0x100))
  have mine := fun c => (s.fbAxis c).isSome || s.cfg.portals.any (fun q => q.used && q.fb == c) || named.contains c
  { s with regs := s.regs.update (fun a v =>
      have m := if FB.FB_CFG 0 ≤ a ∧ a < FB.FB_CFG 72 ∧ !mine ((a - FB.FB_CFG 0) / 0x100) then 0 else w32 (imgMask a)
      (v &&& ~~~m) ||| (regReset a &&& m)) regReset }

/-- No part of the image in force drives any block; the safety channels keep their copy of SAFETY (R40, R526). -/
def State.imgDiscard (s : State) : State :=
  have s := (s.set SYS.IMG_STAT'VALID 0).portalPinsFree.imgRegsReset
  have s := s.each ((upto 16).filter (fun n => (s.brick n).used && s.domOn pdLINK)) fun n u => (u.set (BLK.PORT_CFG'EN n) 0).portDown n
  have s := s.each (upto 72) fun g u => u.setGrp g default
  have s := { s with cfg := { (default : Cfg) with safe := s.cfg.safe }, dio := { s.dio with portOut := 0 } }
  have s := { s with trj := { s.trj with claims := [], entries := ⟨[]⟩, q := ⟨[]⟩ },
                     nand := { s.nand with refs := s.nand.refs.set 0 [] } }
  have s := (s.each (upto 16) fun q u => u.qSync q).trjSync
  have s := (s.imgMirrors default).srtLoad.portalsLoad false
  (s.each (upto 64) fun a u => u.gainView a).budgetLoad []

/-! ### Commands and events of a load (R39-R43) -/

/-- An attempt begins: SRC_USED names its source; a follower asks for its image (R467). -/
def State.loadAttempt (s : State) (src : Nat) : State :=
  have s := s.set SYS.IMG_STAT'SRC_USED src
  if src ≠ 4 then s
  else
    have s := { s with fyv := { s.fyv with imgWait := true, imgRx := [], imgBad := false } }
    have fr := s.fyvFrame 0x20 8 0 []
    (s.fyvSend 0 fr).fyvSend 1 fr

/-- A load from `src` is accepted (R39, R40): a patch is discarded (R47), a calibration ends (R74), the mode becomes M2. -/
def State.loadStart (s : State) (src cause : Nat) : State :=
  have s := if s.f SYS.PATCH_STAT'STATE = 0 then s else s.patchEnd 0x38
  have s := if s.adc.calStep = 0 then { s with adc := { s.adc with calBegun := false, calZeroed := false } } else s.calAbort
  have s := (s.modeTo 2 cause false).imgDiscard
  have s := { s with sys := { s.sys with loading := true, loadSrc := src, secondTry := false, bootPend := false } }
  (s.set SYS.IMG_STAT'LOAD_STAT 1).loadAttempt (if src = 0 then 1 + s.f NAND.NAND_STAT'PREF_SLOT else src)

/-- A host write that the standby module of a pair ignores (R452, R510). -/
def State.standbyWrite (s : State) (w : Req) : Bool := s.actsAsHost w && s.standby && s.paired

/-- IMG_CTRL: SRC, and LOAD (R39). -/
def State.imgCtrlWrite (s : State) (w : Req) (v : Word) : State :=
  if s.standbyWrite w then s.set FYV.PAIR_ERR'STANDBY_WR 1
  else
    have s := s.plainWrite SYS.IMG_CTRL v
    if !bit v.toNat 31 ∨ s.mode = 2 then s
    else if s.mode = 1 ∨ s.mode = 3 then s.loadStart (s.f SYS.IMG_CTRL'SRC) 2
    else (s.set SYS.IMG_STAT'LOAD_STAT 0x1F).refusal 0

/-- IMG_CTRL.LOAD starts a load in M1 and M3 (R39). -/
def execImageLoad (w : Req) (v : Word) (s : State) : Host.Outcome State Fault Refusal :=
  .next (s.regCmd w SYS.IMG_CTRL (·.imgCtrlWrite w (putBits v 31 31 1)))

/-- The boot load of M0 (R523), once the options are valid and the FLASH domain is released. -/
def State.bootLoad (s : State) : State :=
  if s.mode ≠ 0 ∨ !s.sys.bootPend ∨ !s.b RST.RST_STAT'OPTIONS_VALID ∨ !s.released pdFLASH then s
  else
    have b := s.f RST.RST_STRAP'BOOT_SRC
    if b = 2 then ({ s with sys := { s.sys with bootPend := false } }).modeTo 1 0 false
    else s.loadStart (if b = 3 then 4 else b) 2

/-- The load ends (R41): applied, or refused with a status. -/
def State.loadEnd (s : State) (fail : Option ImgFail) (l : List Byte) : State :=
  have s := { s with sys := { s.sys with loading := false, secondTry := false }, fyv := { s.fyv with imgWait := false, imgRx := [], imgBad := false } }
  have s := match fail with
    | none => ((s.imgApply l).set SYS.IMG_STAT'LOAD_STAT 2).modeTo 9 2 false
    | some (st, idx) =>
      have s := s.set SYS.IMG_STAT'LOAD_STAT st
      have s := match idx with | some i => s.set SYS.IMG_STAT'SECT_IDX i | none => s
      s.modeTo 1 2 false
  (s.work 0).raise 2

/-- The checks of an attempt end (R40-R42). Of a flash slot: `ecc` codewords were uncorrectable, `corr` had 40 or more
corrected bits, `bits` the most (R479); its pages count as read (R485). -/
def State.loadDone (s : State) (ecc corr bits : Nat) : State :=
  if !s.sys.loading then s
  else
    have src := s.f SYS.IMG_STAT'SRC_USED
    have flash := src == 1 || src == 2
    have read := fun (u : State) => u.each ((upto (partRange src).2.1).map (· + (partRange src).1)) fun b u =>
      if (u.blockPages b).isEmpty then u else u.blockRead b (u.blockPages b).length bits
    have s := if flash && s.domOn pdFLASH then read (s.eccCount ecc corr) else s
    have l := if flash && (decide (0 < ecc) || !s.domOn pdFLASH) then none else s.sourceBytes src
    have fail := match l with
      | none => some (0x10, none)
      | some x => match s.checkFormat x with | some f => some f | none => s.checkContent x
    if fail.isSome && s.sys.loadSrc == 0 && !s.sys.secondTry then
      ({ s with sys := { s.sys with secondTry := true } }).loadAttempt (3 - src)
    else s.loadEnd fail (l.getD [])

/-- The staged image is applied whole or refused, with a second attempt where R42 applies. -/
def execImageLoadDone (e : NandEcc) (s : State) : Host.Outcome State Fault Refusal := .next (s.loadDone e.unc e.fix.corr e.fix.bits)

/-! ### Patches (R45-R48) -/

/-- The body of a section after a patch. -/
def patched (b : List Byte) (p : PatchJob) : List Byte := b.take p.off ++ p.data ++ b.drop (p.off + p.data.length)

/-- The image after a patch. -/
def patchedImg (l : List Byte) (d : DirEnt) (p : PatchJob) : List Byte :=
  l.take d.off ++ patched (d.body l) p ++ l.drop (d.off + d.len)

/-- PATCH_CTRL.GO from the host or the supervisor core (R46, R47). Choices of the model where R46 and R47 are silent (log
entry 37): a GO of another core is ignored and leaves RESULT as it is; a GO refused with BUSY that names the buffer of the
pending patch itself does not return that buffer. -/
def State.patchCtrlWrite (s : State) (w : Req) (v : Word) : State :=
  if s.standbyWrite w then s.set FYV.PAIR_ERR'STANDBY_WR 1
  else
    have s := s.plainWrite SYS.PATCH_CTRL v
    if !bit v.toNat 31 ∨ !s.hostOrSupv w then s
    else
      have b := s.f SYS.PATCH_CTRL'BUF
      if s.f SYS.PATCH_STAT'STATE ≠ 0 then
        have t := (s.set SYS.PATCH_STAT'RESULT 0x35).refusal 0
        if b ≠ s.sys.patch.buf ∧ s.owner b = ownDEVICE then t.returnBuf b else t
      else if s.owner b ≠ ownDEVICE then (s.set SYS.PATCH_STAT'RESULT 0x36).refusal 0
      else
        have a := smwAt b
        have len := s.ldn (a + 8) 4
        have p := { buf := b, prevOwner := s.f (CHUCK.SMW_FLAG'PREV b), ty := s.ldn a 2, inst := s.ldn (a + 2) 2, off := s.ldn (a + 4) 4,
                    data := s.bytes (a + 16) (min len 4080), crc := s.ldn (a + 12) 4, checkedNs := 0, len := len }
        { s with sys := { s.sys with patch := p } }.set SYS.PATCH_STAT'STATE 1

/-- PATCH_CTRL.GO starts the checks of a patch (R46). -/
def execPatchGo (w : Req) (v : Word) (s : State) : Host.Outcome State Fault Refusal :=
  .next (s.regCmd w SYS.PATCH_CTRL (·.patchCtrlWrite w (putBits v 31 31 1)))

/-- The checks of R46 from step 2 on. A record whose OFFSET or LENGTH is not a multiple of 4, or whose LENGTH lies outside
4 to 4 080, gets BOUNDS: R45 excludes it and names no RESULT, the model's choice (log entry 37). -/
def State.patchCheck (s : State) (p : PatchJob) : Option Nat :=
  have l := s.shadow
  have d := findSect l p.ty p.inst
  if !s.imgValid ∨ !([3, 5, 6, 7].contains s.mode) then some 0x30
  else if !tunable p.ty then some 0x31
  else if s.mode ≠ 3 ∧ !runWritable p.ty then some 0x32
  else match d with
    | none => some 0x33
    | some d =>
      have img := patchedImg l d p
      if p.off % 4 ≠ 0 ∨ p.len % 4 ≠ 0 ∨ p.len < 4 ∨ 4080 < p.len ∨ d.len < p.off + p.len then some 0x33
      else if crc32c (patched (d.body l) p) ≠ p.crc then some 0x34
      else if !(s.overlay img).rangeOk img d then some 0x37
      else none

/-- The checks of a patch end: PENDING, or refused (R46, R47). -/
def State.patchChecked (s : State) : State :=
  if s.f SYS.PATCH_STAT'STATE ≠ 1 then s
  else match s.patchCheck s.sys.patch with
    | some r => (s.patchEnd r).refusal 0
    | none => { s with sys := { s.sys with patch := { s.sys.patch with checkedNs := s.ns } } }.set SYS.PATCH_STAT'STATE 2

def execPatchCheckDone (s : State) : Host.Outcome State Fault Refusal := .next s.patchChecked

/-- A patched body takes the place of the old one (R47, R48): the shadow, and the registers and content that come from it. -/
def State.patchTake (s : State) (p : PatchJob) : State :=
  match findSect s.shadow p.ty p.inst with
  | none => s
  | some d =>
    have img := patchedImg s.shadow d p
    have s := s.putBytes (shadowWindow + d.off + p.off) p.data
    match p.ty with
    | 0x6 =>
      have s := { s with cfg := { s.cfg with gains := s.cfg.gains.set p.inst (imgGains img p.inst) },
                         ctl := { s.ctl with gsPatch := setBit s.ctl.gsPatch p.inst true } }
      have g := s.cfg.gains.getD p.inst default
      have s := (((s.set (CTL.GS_CFG'NB_M1 p.inst) (g.nb - 1)).set (CTL.GS_CFG'NA_M1 p.inst) (g.na - 1)).set (CTL.GS_CFG'VAR_B p.inst) g.varB).set
        (CTL.GS_CFG'VAR_A p.inst) g.varA
      have s := s.each (upto 3) fun i u => (u.wrI (CTL.GS_BP_A p.inst i) (g.bpA.getD i 0)).wrI (CTL.GS_BP_B p.inst i) (g.bpB.getD i 0)
      (s.wrI (CTL.GS_HYS_A p.inst) g.hysA).wrI (CTL.GS_HYS_B p.inst) g.hysB
    | 0x7 => s.blankLoad (match imgPwm img with | some x => x.regs | none => [])
    | 0xD => s.regsLoad 13 (match imgLimits img with | some x => x.regs | none => [])
    | 0xE => { s with cfg := { s.cfg with weights := imgWeights img } }
    | 0xF => s.budgetLoad (imgPower img)
    | _ => { s with nand := { s.nand with refs := s.nand.refs.set 0 (imgCalRef img) } }

/-- The first L3 boundary 50 µs or more after the checks of the pending patch (R47). -/
def State.patchAt (s : State) : Nat := (s.sys.patch.checkedNs + us 50 + ms 1 - 1) / ms 1 * ms 1

/-- The pending patch applies, or is discarded with MODE, by the mode in force at the boundary (R47, R48). -/
def State.patchTakeHold (s : State) : State :=
  if s.f SYS.PATCH_STAT'STATE ≠ 2 then s
  else if !(patchModes s.sys.patch.ty).contains s.mode then s.patchEnd 0x30
  else
    have s := (s.patchTake s.sys.patch).patchEnd 0
    ((s.sat SYS.PATCH_STAT'PATCH_COUNT).set SYS.IMG_STAT'MODIFIED 1).raise 3

/-! ### Release of a domain with an image in force (R585) -/

/-- Registers that the load sets are set again from the image shadow. -/
def State.imgReapply (s : State) (d : Nat) : State := if s.imgValid then s.imgDomain s.shadow d false else s

/-! ### The boot ROM (R306) -/

/-- Bytes copied from the section to a core's local memory, from word address `a`. -/
def State.romCopy (s : State) (c sp a : Nat) (ws : List Byte) : State := s.putBytes (coreMem c sp + 4 * a) ws

/-- Words of a local memory: P, X, Y. -/
def romWords (sp : Nat) : Nat := match sp with | 0 => 0x4000 | 1 => 0x8000 | 2 => 0x8000 | _ => 0

/-- The load records of a user section; the answer is the entry point, or none where a record leaves its memory. -/
def State.romLoad (s : State) (c : Nat) : Nat → List Byte → Option Nat × State
  | 0, _ => (some 0, s)
  | n + 1, l =>
    have h := leAt l 0 4
    have k := h / 65536
    have a := leAt l 4 4
    if k = 0 then (some a, s)
    else if romWords (h % 4) < a + k then (none, s)
    else (s.romCopy c (h % 4) a (slice l 8 (4 * k))).romLoad c n (l.drop (8 + 4 * k))

/-- The ROM has found VALID = 1: it copies the user section and jumps to its entry point, or halts with BOOT_WAIT. A
record that leaves its memory raises the address-error exception (log entry 27). -/
def State.bootRomLoad (s : State) (n : Nat) : State :=
  if !s.domOn (pdGC (n / 4)) ∨ s.coreSt n ≠ gsRUNNING ∨ (s.core n).userCode ∨ s.corePC n < 0x4000 ∨ !s.imgValid then s
  else match sectBody s.shadow (0x8100 + n) 0 with
    | none => s.coreHalt n 7
    | some vb =>
      have r := s.romLoad n (vb.2.length / 8 + 1) vb.2
      match r.1 with
      | some a =>
        if 2 ^ 15 ≤ a then r.2.coreExc n 3 0 (s.corePC n) (s.corePC n)
        else ((r.2.setCore n { r.2.core n with userCode := true }).setPC n a).coreShow n
      | none => r.2.coreExc n 3 0 (s.corePC n) (s.corePC n)

def execBootRomLoad (n : Fin 16) (s : State) : Host.Outcome State Fault Refusal := .next (s.bootRomLoad n)

end Sys2Proof.Machine
end

