-- ==== Sys2Proof/Machine/Nand.lean ====
section
/-!
DEFINITION. Flash commands of software: user records, ring reads, image writes, the scrub scan and the calibration record
(spec/21_storage.md, R479, R485, R489, R491, R492, R494; R73, R74; log entry 28).
-/
namespace Sys2Proof.Machine
open Sys2Proof

/-- A NAND command of software in the standby module of a pair is refused; one of the host sets STANDBY_WR (R452). -/
def State.nandStandby (s : State) (w : Req) : Bool × State :=
  if s.standby && s.paired then (true, s.iff (s.actsAsHost w) (·.set FYV.PAIR_ERR'STANDBY_WR 1)) else (false, s)

/-! ### User records (R489) -/

/-- CR_CMD: GO appends CR_DATA, FLUSH programmes the buffer of the CYCLE ring (R487, R489). -/
def State.crCmdWrite (s : State) (w : Req) (v : Word) : State :=
  have st := s.nandStandby w
  if st.1 then st.2.iff (bit v.toNat 31) (fun t => (t.set NAND.CR_CMD'RESULT 2).refusal 22)
  else
    have data := (upto 15).flatMap (fun i => toLE 4 (s.rdN (NAND.CR_DATA i)))
    have s := if !bit v.toNat 31 then s
      else if leAt data 0 1 < 0x80 then (s.set NAND.CR_CMD'RESULT 1).refusal 22
      else if s.fbit NAND.NAND_STAT'FAILED 6 then ((s.set NAND.CR_CMD'RESULT 3).ringAppend 6 (data ++ toLE 4 (crc32c data))).refusal 22
      else (s.set NAND.CR_CMD'RESULT 0).ringAppend 6 (data ++ toLE 4 (crc32c data))
    if bit v.toNat 30 then s.ringFlush 6 else s

/-- CR_CMD.GO appends a user entry (R489). -/
def execCrAppend (w : Req) (v : Word) (s : State) : Host.Outcome State Fault Refusal :=
  .next (s.regCmd w NAND.CR_CMD (·.crCmdWrite w (putBits v 31 31 1)))

/-- CR_CMD.FLUSH programmes the buffer (R487). -/
def execCrFlush (w : Req) (v : Word) (s : State) : Host.Outcome State Fault Refusal :=
  .next (s.regCmd w NAND.CR_CMD (·.crCmdWrite w (putBits (putBits v 31 31 0) 30 30 1)))

/-! ### Ring reads (R479, R485) -/

/-- Bytes of an entry of a ring. -/
def entryLen (p : Nat) : Nat := if p = 5 then 32 else 64

/-- The durable entries of a ring from `r` on, with the block that holds each, in order; of a page that a scrub has copied,
one copy. -/
def State.ringEntries (s : State) (p r : Nat) : List (Nat × Nat × List Byte) :=
  have all := s.nand.pages.cells.filter (fun c => c.2.part == p && decide (r < c.2.first + c.2.count))
  have pages := all.filter (fun c => !(all.any (fun d => d.2.pseq == c.2.pseq && decide (d.1 < c.1))))
  have sorted := pages.mergeSort (fun a b => decide (a.2.first ≤ b.2.first))
  sorted.flatMap (fun c => ((upto c.2.count).filter (fun i => decide (r ≤ c.2.first + i))).map (fun i =>
    (c.2.first + i, c.1 / 256, slice c.2.data (entryLen p * i) (entryLen p))))

/-- RD_CMD after its RW fields (R479). -/
def State.rdCmdWrite (s : State) (w : Req) (v : Word) : State :=
  have st := s.nandStandby w
  if st.1 && s.actsAsHost w then st.2
  else
    have s := s.plainWrite NAND.RD_CMD v
    if !bit v.toNat 31 then s
    else
      have p := if s.b NAND.RD_CMD'PART then 5 else 6
      have r := s.rdN NAND.RD_RSEQ_LO + 2 ^ 32 * s.rdN NAND.RD_RSEQ_HI
      have res := if s.nand.rdBusy then 1
        else if s.owner (s.f NAND.RD_CMD'BUF) ≠ ownDEVICE then 3
        else if r < s.oldest p ∨ s.durable p < r ∨ r = 0 then 2 else 0
      if res ≠ 0 then (s.set NAND.RD_STAT'RESULT res).refusal 22
      else
        ({ s with nand := { s.nand with rdBusy := true, rdBuf := s.f NAND.RD_CMD'BUF, rdPart := p, rdFrom := r } }.set
          NAND.NAND_STAT'BUSY 1).set NAND.RD_STAT'RESULT 1

/-- RD_CMD.GO starts a ring read. -/
def execRdGo (w : Req) (v : Word) (s : State) : Host.Outcome State Fault Refusal :=
  .next (s.regCmd w NAND.RD_CMD (·.rdCmdWrite w (putBits v 31 31 1)))

/-- A ring read completes (R479): `unc` codewords were uncorrectable and `corr` had 40 or more corrected bits; `raw` gives
the entries, by their place in the buffer, that are delivered as read; `bits` is the largest number of corrected bits. -/
def State.readDone (s : State) (unc corr bits : Nat) (raw : List (Nat × List Byte)) : State :=
  if !s.domOn pdFLASH ∨ !s.nand.rdBusy then s
  else
    have p := s.nand.rdPart
    have n := entryLen p
    have es := (s.ringEntries p s.nand.rdFrom).take (4096 / n)
    have out := ((upto es.length).zip es).map (fun ie => match raw.find? (fun x => x.1 == ie.1) with
      | some x => (x.2 ++ List.replicate n 0).take n
      | none => ie.2.2.2)
    have bad := (out.filter (fun e => crc32c (e.take (n - 4)) != leAt e (n - 4) 4)).length
    have t := (s.eccCount unc corr).devWrite ownDEVICE s.nand.rdBuf 0 out.flatten
    have t := ((t.set NAND.RD_STAT'RESULT 0).set NAND.RD_STAT'BAD bad).set NAND.RD_STAT'COUNT out.length
    have t := { t with nand := { t.nand with rdBusy := false } }
    have t := (t.setB NAND.NAND_STAT'BUSY t.nand.cur.isSome).iff (decide (t.owner t.nand.rdBuf = ownDEVICE)) (·.returnBuf t.nand.rdBuf)
    (t.each (es.map (fun e => e.2.1)).eraseDups fun b u => u.blockRead b 1 bits).work 22

def execNandReadDone (unc : Nat) (fix : NandFix) (raw : List (Nat × List (BitVec 8))) (s : State) :
    Host.Outcome State Fault Refusal := .next (s.readDone unc fix.corr fix.bits raw)

/-- The background scan has read the pages of block `b`: `bits` is the largest number of corrected bits (R485). It yields
to every append and every read command. -/
def State.scrubScan (s : State) (b bits unc corr : Nat) : State :=
  if !s.domOn pdFLASH ∨ s.nand.cur.isSome ∨ s.nand.rdBusy ∨ !s.nand.ops.isEmpty ∨ (s.nblk b).bad then s
  else
    (s.eccCount unc corr).blockRead b (s.blockPages b).length bits

def execScrubScan (b : Fin 4096) (bits unc corr : Nat) (s : State) : Host.Outcome State Fault Refusal :=
  .next (s.scrubScan b bits unc corr)

/-! ### Image writes and the boot record (R492, R494) -/

/-- The copy of the boot record in force. -/
def State.bootRec (s : State) : BootRec :=
  if s.nand.boot1.good && (!s.nand.boot0.good || decide (s.nand.boot0.cnt < s.nand.boot1.cnt)) then s.nand.boot1 else s.nand.boot0

/-- An update writes the other copy (R492). -/
def State.bootUpdate (s : State) (f : BootRec → BootRec) : State :=
  have one := s.nand.boot1.good && (!s.nand.boot0.good || decide (s.nand.boot0.cnt < s.nand.boot1.cnt))
  have r := f s.bootRec
  have r := { r with good := true, cnt := r.cnt + 1 }
  have t := { s with nand := if one then { s.nand with boot0 := r } else { s.nand with boot1 := r } }
  t.set NAND.NAND_STAT'PREF_SLOT r.pref

/-- Bytes cut into pages. -/
def pagesOf : Nat → List Byte → List (List Byte)
  | 0, _ => []
  | n + 1, l => if l.isEmpty then [] else l.take 16384 :: pagesOf n (l.drop 16384)

/-- A slot's blocks are erased. -/
def State.slotErase (s : State) (slot : Nat) : State :=
  have r := partRange (1 + slot)
  have t := s.each ((upto r.2.1).map (· + r.1)) fun b u =>
    if (u.nblk b).bad ∨ (u.nblk b).next = 0 then u
    else u.setNblk b { u.nblk b with erase := (u.nblk b).erase + 1, reads := 0, next := 0, closed := false }
  { t with nand := { t.nand with pages := t.nand.pages.clearIf (fun k => blockPart (k / 256) == 1 + slot) } }

/-- The staged image goes into a slot's good blocks from the lowest (R483). -/
def State.slotWrite (s : State) (slot : Nat) (l : List Byte) : State :=
  have t := s.slotErase slot
  have keys := (t.goodAfter (1 + slot) ((partRange (1 + slot)).1 - 1)).flatMap (fun b => (upto 256).map (256 * b + ·))
  t.each (keys.zip (pagesOf 256 l)) fun kp u =>
    have b := kp.1 / 256
    have q := u.nand.pseq.get (1 + slot) + 1
    have u := u.setNblk b { u.nblk b with next := (u.nblk b).next + 1 }
    have pg : NPage := { part := 1 + slot, partialPage := false, pseq := q, first := 0, count := kp.2.length, data := kp.2 }
    { u with nand := { u.nand with pseq := u.nand.pseq.set (1 + slot) q, pages := u.nand.pages.set kp.1 pg } }

/-- IMG_WR after its RW fields: checks 1-8 of R40 on the staged image (R494). -/
def State.imgWrWrite (s : State) (w : Req) (v : Word) : State :=
  have st := s.nandStandby w
  if st.1 then st.2.iff (bit v.toNat 31) (fun t => (t.set NAND.IMG_WR'RESULT 0x23).refusal 22)
  else
    have busy := s.nand.ops.any (fun o => match o with | .image _ _ => true | _ => false) ||
      match s.nand.cur with | some (.image _ _) => true | _ => false
    if !bit v.toNat 31 then s.plainWrite NAND.IMG_WR v
    else if busy then (s.set NAND.IMG_WR'RESULT 1).refusal 22
    else
      have s := s.plainWrite NAND.IMG_WR v
      have slot := s.f NAND.IMG_WR'SLOT
      if s.fbit NAND.NAND_STAT'FAILED (1 + slot) then (s.set NAND.IMG_WR'RESULT 0x22).refusal 22
      else match s.sourceBytes 3 with
        | none => (s.set NAND.IMG_WR'RESULT 0x10).refusal 22
        | some l => match s.checkFormat l with
          | some f => (s.set NAND.IMG_WR'RESULT f.1).refusal 22
          | none => (s.set NAND.IMG_WR'RESULT 1).nandQueue (.image slot (s.b NAND.IMG_WR'SET_PREF))

/-- IMG_WR.GO checks and programmes the staged image (R494). -/
def execImgWrGo (w : Req) (v : Word) (s : State) : Host.Outcome State Fault Refusal :=
  .next (s.regCmd w NAND.IMG_WR (·.imgWrWrite w (putBits v 31 31 1)))

/-- A page of the slot's image fails to programme (R482): its block is retired and the content is programmed again to the
next good block; with none left the write ends with PROG_FAIL. Or the programme and the comparison of DIGEST end (R494): a
failure leaves the slot invalid, and the boot record names the other slot. -/
def State.imgWrDone (s : State) (prog verify : Bool) : State :=
  if !s.domOn pdFLASH ∨ !s.nand.run then s
  else match s.nand.cur with
  | some (.image slot pref) =>
    have s := s.iff (!prog) (fun u => (u.set NAND.NAND_ERR'PROG_FAIL 1).retire s.nand.blk)
    have left := s.goodAfter (1 + slot) ((partRange (1 + slot)).1 - 1)
    match prog, left with
    | false, b :: _ => { s with nand := { s.nand with blk := b } }
    | _, _ =>
      match prog && verify, (s.sourceBytes 3).filter (fun l => (s.checkFormat l).isNone) with
      | true, some l =>
        have t := (s.slotWrite slot l).set NAND.IMG_WR'RESULT 2
        have t := { t with nand := { t.nand with refs := t.nand.refs.set (1 + slot) (imgCalRef l) } }
        have t := t.iff pref (·.bootUpdate (fun r => if slot = 0 then { r with pref := 0, seqA := leAt l 0x18 4, digA := slice l 0x80 32 }
          else { r with pref := 1, seqB := leAt l 0x18 4, digB := slice l 0x80 32 }))
        ((t.partShow (1 + slot)).work 22).nandDone
      | _, _ =>
        have t := (s.slotErase slot).set NAND.IMG_WR'RESULT (if prog then 0x21 else 0x20)
        have t := { t with nand := { t.nand with refs := t.nand.refs.set (1 + slot) [] } }
        ((t.bootUpdate (fun r => { r with pref := 1 - slot })).partShow (1 + slot)).nandDone
  | _ => s

def execImgWrDone (prog verify : Bool) (s : State) : Host.Outcome State Fault Refusal := .next (s.imgWrDone prog verify)

/-! ### The calibration record (R73, R74, R491) -/

/-- A record of the live CH_COEF of all channels. -/
def State.adcRecord (s : State) (id : Nat) : List Byte :=
  have b := [b8 1, 0] ++ toLE 2 id ++ List.replicate 12 0 ++ (upto 144).flatMap (fun c => toLE 4 (s.rdN (ADC.CH_COEF c)))
  b ++ toLE 4 (crc32c b)

/-- SAVE: the record is queued for the CAL partition (R73). -/
def State.syscalSave (s : State) (w : Req) (v : Word) : State :=
  if s.standbyWrite w then s.set FYV.PAIR_ERR'STANDBY_WR 1
  else
    have idle := s.adc.calStep == 0
    have t := s.syscalGo v 2
    if !(idle && t.adc.calStep == 3) then t
    else
      have id := (t.nand.recId + 1) % 65536
      have d := t.adcRecord id
      { t with nand := { t.nand with recId := id }, adc := { t.adc with saveId := id } }.nandQueue (.rec_ 3 d 1)

/-- System calibration command SAVE (R73). -/
def execSyscalSave (w : Req) (v : Word) (s : State) : Host.Outcome State Fault Refusal :=
  .next (s.regCmd w ADC.SYSCAL_CTRL (·.syscalSave w v))

/-- The record has been programmed, or no block took it (R73, R74). -/
def State.syscalSaved (s : State) : State :=
  have mine := fun (o : NOp) => match o with | .rec_ _ _ 1 => true | _ => false
  have busy := s.nand.ops.any mine || s.nand.cur.toList.any mine
  if !s.domOn pdADC ∨ s.adc.calStep ≠ 3 ∨ busy then s
  else
    have found := s.nand.pages.cells.find? (fun c => c.2.part == 3 && leAt c.2.data 0 1 == 1 && leAt c.2.data 2 2 == s.adc.saveId)
    match found with
    | some _ =>
      have t := s.set ADC.SYSCAL_STAT'REC_ID s.adc.saveId
      { t with adc := { t.adc with calBegun := false, calZeroed := false } }.calEnd 4
    | none => s.calEnd 0x45

def execSyscalSaveDone (s : State) : Host.Outcome State Fault Refusal := .next s.syscalSaved

end Sys2Proof.Machine
end

