-- ==== Sys2Proof/Machine/Net.lean ====
section
/-!
DEFINITION. The Ethernet ports (spec/22_host_and_events.md, R500-R503; R441-R444 of spec/18_time_base.md; log entries 38
and 39).
-/
namespace Sys2Proof.Machine
open Sys2Proof

def State.netPort (s : State) (p : Nat) : NetPort := s.net.port.get p
def State.setNetPort (s : State) (p : Nat) (x : NetPort) : State := { s with net := { s.net with port := s.net.port.set p x } }

/-- A sticky bit of NET_STAT; the port event is raised when it goes from 0 to 1. -/
def State.netSticky (s : State) (p : Nat) (l : Loc) : State := if s.b l then s else (s.set l 1).raise (204 + p)

/-- The port is enabled and its link is up. -/
def State.netLive (s : State) (p : Nat) : Bool := s.domOn pdHOST && s.b (NET.NET_CFG'EN p) && s.b (NET.NET_STAT'LINK p)

/-! ### What a frame is (R500, R503; the layouts of IEEE 802.3 and IEEE 1588, log entry 39) -/

/-- A number of `n` bytes from offset `o`, most significant first. -/
def beAt (l : List Byte) (o n : Nat) : Nat := (upto n).foldl (fun m i => 256 * m + (l.getD (o + i) 0).toNat) 0

/-- Offset of the EtherType, past a VLAN tag. -/
def etherOfs (fr : List Byte) : Nat := if beAt fr 12 2 = 0x8100 then 16 else 12

/-- Offset of the PTP message in a PTP frame: EtherType 0x88F7, or UDP over IPv4 to port 319 or 320 (R441, R503). -/
def ptpOfs (fr : List Byte) : Option Nat :=
  have o := etherOfs fr
  if beAt fr o 2 = 0x88F7 then some (o + 2)
  else if beAt fr o 2 = 0x0800 ∧ beAt fr (o + 2) 1 / 16 = 4 ∧ beAt fr (o + 11) 1 = 17 then
    have u := o + 2 + 4 * (beAt fr (o + 2) 1 % 16)
    if beAt fr (u + 2) 2 = 319 ∨ beAt fr (u + 2) 2 = 320 then some (u + 8) else none
  else none

/-- The PTP message in a frame of the transport that the port is set to (PTP_CFG.TRANSPORT). -/
def State.ptpIn (s : State) (p : Nat) (fr : List Byte) : Option Nat :=
  if (beAt fr (etherOfs fr) 2 == 0x88F7) == !s.b (TIME.PTP_CFG'TRANSPORT p) then ptpOfs fr else none

/-- The destination is a multicast or the broadcast address. -/
def isMulti (fr : List Byte) : Bool := bit (fr.getD 0 0).toNat 0

/-- The port accepts the destination (R500). -/
def State.netAccepts (s : State) (p : Nat) (fr : List Byte) : Bool :=
  have d := beAt fr 0 6
  have mac := (upto 6).foldl (fun m i => 256 * m + (if i < 4 then s.rdN (NET.NET_MAC_LO p) / 2 ^ (8 * i) % 256 else s.f (NET.NET_MAC_HI'MAC p) / 2 ^ (8 * (i - 4)) % 256)) 0
  d == mac || (d == 0xFFFFFFFFFFFF && s.b (NET.NET_CFG'BCAST p)) || d == 0x011B19000000 || d == 0x0180C200000E
    || (isMulti fr && d != 0xFFFFFFFFFFFF && s.b (NET.NET_CFG'MCAST_ALL p)) || s.b (NET.NET_CFG'PROMISC p)

/-- A timestamp of `ts` units of 0.8 ns with a latency in 0.1 ns, rounded convergently to the nanosecond (R442). -/
def stampNs (ts : Nat) (lat : Int) : Nat := (rdiv ((8 * ts : Nat) + lat) 10).toNat

/-! ### Reception -/

/-- The header of a received frame (R503). Only the messages of R441 carry a timestamp, while timestamping is on
(PTP_CFG.EN). -/
def State.rxHeader (s : State) (p : Nat) (fr : List Byte) (ns : Nat) : List Byte :=
  have po := ptpOfs fr
  have stamped := s.b (TIME.PTP_CFG'EN p) && (match s.ptpIn p fr with | some o => decide (beAt fr o 1 % 16 < 4) | none => false)
  have t := if stamped then ns else 0
  toLE 2 fr.length ++ [b8 (stamped.toNat + 2 * po.isSome.toNat + 4 * (isMulti fr).toNat), b8 p]
    ++ toLE 4 (t % 1000000000) ++ toLE 6 (t / 1000000000) ++ toLE 18 0

/-- What the time base takes from a PTP message on its servo port: the grandmaster of an Announce, and the arrival of a
Sync (R444). -/
def State.ptpWatch (s : State) (p : Nat) (fr : List Byte) : State :=
  match s.ptpIn p fr with
  | none => s
  | some o =>
    if !s.domOn pdTIME ∨ s.f TIME.TIME_CTRL'SRC ≠ p + 1 then s
    else if beAt fr o 1 % 16 = 0xB then s.announce p (beAt fr (o + 53) 8)
    else if beAt fr o 1 % 16 = 0 then { s with time := { s.time with syncNs := s.ns } }
    else s

/-- An accepted frame goes into the next buffer of the receive ring, or is dropped (R501). -/
def State.netStore (s : State) (p : Nat) (fr : List Byte) (ns : Nat) : State :=
  have n := s.netPort p
  have b := s.f (NET.NET_RX_RING'RX_BASE p) + n.rxIdx
  if s.domOn pdMEM ∧ s.owner b = ownDEVICE then
    have t := (s.putBytes (smwAt b) (s.rxHeader p fr ns ++ fr)).passBuf b (s.f (NET.NET_CFG'RX_TO p))
    (t.setNetPort p { n with rxIdx := if n.rxIdx < s.f (NET.NET_RX_RING'RX_N_M1 p) then n.rxIdx + 1 else 0 }).raise (204 + p)
  else (s.sat (NET.NET_CNT'RX_DROP p)).netSticky p (NET.NET_STAT'RX_NOBUF p)

/-- A frame has arrived on port `p` (R500, R501, R442, R444). -/
def State.netReceive (s : State) (p : Nat) (fcs : Bool) (ts : Nat) (fr : List Byte) : State :=
  if !s.netLive p then s
  else
    have s := s.advanceTo (8 * ts / 10)
    if !fcs ∨ 4064 < fr.length then s.sat (NET.NET_CNT'RX_BAD p)
    else if s.netAccepts p fr then
      ((s.work 19).netStore p fr (stampNs ts (Neg.neg (s.f (TIME.PTP_LAT'RX_LAT p) : Int)))).ptpWatch p fr
    else s

def execEthernetReceive (p : Fin 2) (fcs : Bool) (ts : Nat) (fr : List (BitVec 8)) (s : State) :
    Host.Outcome State Fault Refusal := .next (s.netReceive p fcs ts fr)

/-! ### Transmission (R502) -/

/-- The transmit header in buffer `b` is formed as R503 says. -/
def State.txFormat (s : State) (b : Nat) : Bool :=
  have a := smwAt b
  have len := s.ldn a 2
  decide (14 ≤ len) && decide (len ≤ 4064) && decide (s.ldb (a + 2) < 2) && s.ldb (a + 3) == 0 && s.ldn (a + 6) 26 == 0

/-- NET_TX_STAT of the requester. -/
def State.netResult (s : State) (w : Req) (p r : Nat) : State :=
  have v := r * 2 ^ 28 + (s.netPort p).queue.length * 2 ^ 16
  have t := { s with perReq := s.perReq.set (reqCode w * 2 ^ 32 + NET.NET_TX_STAT p) v }
  t.iff (r != 0) (·.refusal 19)

/-- A write of NET_TX_CMD: the checks of R502 in their order; the first failure refuses the frame. -/
def State.netTxGo (s : State) (w : Req) (p : Nat) (v : Word) : State :=
  have b := bitsOf v 10 0
  have n := s.netPort p
  if !bit v.toNat 31 then s
  else if !s.owns w b then s.netResult w p 3
  else if !s.txFormat b then s.netResult w p 2
  else if !s.netLive p then s.netResult w p 4
  else if 64 ≤ n.queue.length then s.netResult w p 1
  else ((s.passBuf b ownDEVICE).setNetPort p { n with queue := n.queue ++ [b] }).netResult w p 0

def execNetTxGo (w : Req) (p : Fin 2) (v : BitVec 32) (s : State) : Host.Outcome State Fault Refusal :=
  .next (s.regCmd w (NET.NET_TX_CMD p) (·.netTxGo w p v))

/-- A list of at least `n` bytes: padded with zeros. -/
def padTo (n : Nat) (l : List Byte) : List Byte := l ++ List.replicate (n - l.length) 0

/-- The oldest queued frame has left the port, its first bit at `ts` units of 0.8 ns (R502, R442, R443). -/
def State.netSent (s : State) (p ts : Nat) : State :=
  have n := s.netPort p
  match n.queue with
  | [] => s
  | b :: q =>
    if !s.netLive p then s
    else
      have s := s.advanceTo (8 * ts / 10)
      have a := smwAt b
      have fr := padTo 60 (s.bytes (a + 0x20) (s.ldn a 2))
      have t := (s.work 19).setNetPort p { n with queue := q, lastTx := fr }
      have t := t.iff (bit (s.ldb (a + 2)) 0 && s.b (TIME.PTP_CFG'EN p)) (·.txTimestamp p (s.ldn (a + 4) 2) (stampNs ts (s.f (TIME.PTP_LAT'TX_LAT p))))
      have t := t.iff (s.owner b == ownDEVICE) (·.returnBuf b)
      t.iff q.isEmpty (·.netSticky p (NET.NET_STAT'TX_DRAIN p))

def execEthernetFrameSent (p : Fin 2) (ts : Nat) (s : State) : Host.Outcome State Fault Refusal := .next (s.netSent p ts)

/-! ### Link (R503, R541, R563) -/

/-- LINK of NET_STAT; a change sets LINK_CHG. -/
def State.netLinkSet (s : State) (p : Nat) (up : Bool) : State :=
  if s.b (NET.NET_STAT'LINK p) = up then s
  else (s.setB (NET.NET_STAT'LINK p) up).netSticky p (NET.NET_STAT'LINK_CHG p)

/-- PLL_NET runs (R541). -/
def State.netClock (s : State) : Bool := s.b CLK.CLK_STAT'NET_LOCK && s.b CLK.CLK_CFG'NET_EN

/-- The link is down, and a training that waits for tokens is withdrawn. -/
def State.netDown (s : State) (p : Nat) : State :=
  ((if s.pwr.waiting.any (fun r => r.cls == 3 && r.id == 5 + p) then s.ledgerCancel 3 (5 + p) else s).netLinkSet p false)

/-- The SFP+ or the link changes state; a link that comes up has trained with 2 tokens (R563, log entry 38). -/
def State.netLink (s : State) (p : Nat) (up present los : Bool) : State :=
  if !s.domOn pdHOST then s
  else
    have s := (s.setB (NET.NET_STAT'SFP_PRESENT p) present).setB (NET.NET_STAT'SFP_LOS p) los
    if !up ∨ !s.netClock then s.netDown p
    else if s.b (NET.NET_STAT'LINK p) ∨ s.pwr.waiting.any (fun r => r.cls == 3 && r.id == 5 + p) then s
    else if !s.imgValid then s.netLinkSet p true
    else
      have q := s.ledgerRequest 3 (5 + p) 2
      if q.1 then (q.2.netLinkSet p true).ledgerRelease 3 (5 + p) else q.2

/-- The training of port `p` is granted its tokens. -/
def State.netGranted (s : State) (p : Nat) : State :=
  (s.iff (s.domOn pdHOST && s.netClock) (·.netLinkSet p true)).ledgerRelease 3 (5 + p)

def execEthernetLinkChange (p : Fin 2) (up present los : Bool) (s : State) : Host.Outcome State Fault Refusal :=
  .next (s.netLink p up present los)

/-- A write of NET_RX_RING: a ring that would pass buffer 2 047 is ignored; a new ring starts at its first buffer. -/
def State.rxRingWrite (s : State) (p : Nat) (v : Word) : State :=
  if 2047 < bitsOf v 26 16 + bitsOf v 7 0 then s
  else (s.plainWrite (NET.NET_RX_RING p) v).setNetPort p { s.netPort p with rxIdx := 0 }

end Sys2Proof.Machine
end

