-- ==== Sys2Proof/Machine/Power.lean ====
section
/-!
DEFINITION. Power commands: latency tolerance, clocks in P1, ledger grants, die temperature (spec/26_power.md, R560, R561,
R563-R567; log entry 44).
-/
namespace Sys2Proof.Machine
open Sys2Proof

/-- A write of LAT_TOL re-evaluates the power state (R560). -/
def execLatTolWrite (w : Req) (v : BitVec 32) (s : State) : Host.Outcome State Fault Refusal :=
  .next (s.regCmd w PWR.LAT_TOL (·.latTolWrite w v))

/-- In P1 a request to a stopped domain, an event routed to a core, a dispatch or a submission restarts its clock (R561). -/
def execClockRestart (d : Fin 16) (s : State) : Host.Outcome State Fault Refusal := .next (s.wakeClock d)

/-- 100 µs have passed without a request to the domain (R561). -/
def State.clockIdle (s : State) (d : Nat) : State :=
  if !bit s.pwr.restarted d then s
  else
    have t := s.advanceTo (s.pwr.reqAt.get d - 1 + us 100)
    { t with pwr := { t.pwr with restarted := setBit t.pwr.restarted d false } }

def execClockIdleStop (d : Fin 16) (s : State) : Host.Outcome State Fault Refusal := .next (s.clockIdle d)

/-- The clock of a domain runs: it is stopped in P1 until a request (R561). -/
def State.clockRuns (s : State) (d : Nat) : Bool :=
  !(s.f PWR.PWR_STAT'STATE == 1 && p1Stopped d) || bit s.pwr.restarted d

/-- The user of a granted request goes on (R563). -/
def State.grantUse (s : State) (r : LedReq) : State :=
  match r.cls with
  | 0 => s.nandGranted 0
  | 1 => s.faceGranted 1
  | 2 => s.faceGranted 2
  | 3 => if r.id < 5 then s.fyvGranted r.id else s.netGranted (r.id - 5)
  | 4 => s.nandGranted 4
  | 5 => s.rotGranted
  | _ => if r.id = 0 then s.capArmed else s.ccArmed

/-- The first waiting request is granted if it fits (R565). -/
def State.ledgerStep (s : State) : State :=
  match s.ledgerGrant with
  | (none, t) => t
  | (some r, t) => t.grantUse r

def execLedgerGrant (s : State) : Host.Outcome State Fault Refusal := .next s.ledgerStep

/-! ### Temperature (R567) -/

/-- T_DIE measured, 100 µs after the last time, with WARN and THROTTLE. The trip is a reset. -/
def State.thermal (s : State) (t : Int) : State :=
  have s := if s.pwr.thermNs = 0 then s else s.advanceTo (s.pwr.thermNs - 1 + us 100)
  have cool := decide (t ≤ (s.f PWR.THERM_CFG'T_THROT : Int) - 5)
  have from_ := if !cool then 0 else if s.pwr.coolFrom = 0 then s.ns + 1 else s.pwr.coolFrom
  have s := { s with pwr := { s.pwr with thermNs := s.ns + 1, coolFrom := from_ } }
  have warn := decide ((s.f PWR.THERM_CFG'T_WARN : Int) ≤ t)
  have hot := decide ((s.f PWR.THERM_CFG'T_THROT : Int) ≤ t)
  have rise := (warn && !s.b PWR.THERM_STAT'WARN) || (hot && !s.b PWR.THERM_STAT'THROTTLE)
  have u := (s.set PWR.THERM_STAT'T_DIE (uN 9 (satI 9 t))).setB PWR.THERM_STAT'WARN warn
  have u := (u.iff hot (·.set PWR.THERM_STAT'THROTTLE 1)).ledgerSync
  u.iff rise (·.raise 12)

/-- The die temperature in °C as T_DIE shows it. -/
def State.tDie (s : State) : Int := sxN 9 (s.f PWR.THERM_STAT'T_DIE)

/-- T_DIE has been 5 °C or more below T_THROT for 1 s (R567). -/
def State.throttleClear (s : State) : State :=
  if s.pwr.coolFrom = 0 then s
  else ((s.advanceTo (s.pwr.coolFrom - 1 + ms 1000)).set PWR.THERM_STAT'THROTTLE 0).ledgerSync

def execThrottleClear (s : State) : Host.Outcome State Fault Refusal := .next s.throttleClear

end Sys2Proof.Machine
end

