-- ==== Sys2Proof/Machine/Reset.lean ====
section
/-!
DEFINITION. Resets, the release sequence and the clock tree (spec/25_reset_clocks.md, R535-R557; log entry 43).
-/
namespace Sys2Proof.Machine
open Sys2Proof

/-! ### What a reset of one domain does -/

/-- The number of a register's reset domain; retained registers have none. -/
def Dom.num (m : Dom) (a : Nat) : Option Nat :=
  match m with
  | .aon => some pdAON | .dead => some pdDEAD | .live => some pdLIVE | .adc => some pdADC | .ctl => some pdCTL
  | .time => some pdTIME | .link => some pdLINK | .mem => some pdMEM | .flash => some pdFLASH | .host => some pdHOST
  | .face => some pdFACE | .rough => some pdROUGH | .gc _ => some (domOfAddr a) | .ret => none

/-- First register of the array that row `r`, found at offset `a`, describes. -/
def RegRow.base (r : RegRow) (a : Nat) : Nat := a / 0x10000 * 0x10000 + r.off

/-- The reset domain of the register at `a`. -/
def regDom (a : Nat) : Option Nat :=
  match rowAt a with
  | some (r, ix) => if r.base a = PERF.PC_LO 0 0 ∨ r.base a = PERF.PC_HI 0 0 then some (blkDom (ix.getD 0 0)) else r.dom.num a
  | none => none

/-- The domain in which a ledger user works. -/
def ledgerDom (cls id : Nat) : Nat :=
  match cls with
  | 0 => pdFLASH | 4 => pdFLASH | 1 => pdFACE | 2 => pdFACE | 5 => pdADC
  | 3 => if id < 5 then pdLINK else pdHOST
  | _ => if id = 0 then pdADC else pdCTL

/-- Requesters that lie in a domain (R554). -/
def domRequesters (d : Nat) : List Nat :=
  if 7 ≤ d ∧ d ≤ 10 then (upto 4).map (4 * (d - 7) + ·) else if d = pdHOST then [0x10] else if d = pdLIVE then [0x13] else []

/-- Registers, latches, counters, tokens and generation tags of a domain. -/
def State.domClear (s : State) (d : Nat) : State :=
  have s := { s with
    regs := s.regs.clearIf (fun a => regDom a == some d)
    latches := s.latches.clearIf (fun k => regDom (k % 2 ^ 32) == some d)
    perReq := s.perReq.clearIf (fun k => regDom (k % 2 ^ 32) == some d)
    perf := { s.perf with pc := s.perf.pc.clearIf (fun k => blkDom (k / 8) == d) } }
  have s := { s with pwr := { s.pwr with
    waiting := s.pwr.waiting.filter (fun r => ledgerDom r.cls r.id != d)
    holding := s.pwr.holding.filter (fun r => ledgerDom r.cls r.id != d) } }
  s.each (domRequesters d) fun r t => { t with rst := { t.rst with gens := t.rst.gens.set r ((t.rst.gens.get r + 1) % 16) } }

/-- A stopped live centre as its registers show it (R363). -/
def State.liveStop (s : State) : State :=
  have t := ((s.set SAFE.ZONE_STAT'VOTE_B_L 0xFF).wr SAFE.SI_FILT_L 0).wr SAFE.SSM_LVL_L 0
  have t := t.each (upto 4) fun k u => u.setCd k 1 false
  have t := t.each (upto 24) fun f u => ((u.set (SAFE.FN_STAT'DEM_L f) 1).set (SAFE.SI_STAT'LVL_L f) 0).set (SAFE.SI_STAT'FILT_L f) 0
  t.each (upto 8) fun a u => u.wr (SAFE.MIN_DIST_L a) 0x01000000

/-- A safety channel starts again: its inputs read stop, its functions stand in DEMAND, and it is failed until its start-up
self-test passes (R358, R544). The mirrors of the dead centre's domain are set again from the image in force (R585). -/
def State.channelReset (s : State) (l : Bool) : State :=
  have mine := fun (k : Nat) => (decide (24 ≤ k)) == l
  have ok := s.f SAFE.SAFE_STAT'LIVE_OK
  have t := s.domClear (if l then pdLIVE else pdDEAD)
  have t := { t with safe := { t.safe with
    si := t.safe.si.clearIf mine, remote := t.safe.remote.clearIf mine
    rx := t.safe.rx.clearIf (fun k => (decide (1024 ≤ k)) == l), tr := none, xNs := ⟨[]⟩, xPend := false, xTest := ⟨[]⟩ } }
  have t := if l then { t with safe := { t.safe with
      failL := false, pulseL := 0, lkdL := 0, hbL := 0, liveIn := 0, liveAt := 0, lvlL := 0, overL := 0
      arm := t.safe.arm.mapV (fun x => { x with th := [], thOk := false }) } }
    else { t with safe := { t.safe with
      failD := false, pulseD := 0, lkdD := 0, hbD := 0, tpsNs := ⟨[]⟩, outFlt := 0
      arm := t.safe.arm.mapV (fun x => { x with pts := [], ptsOk := false }) } }
  have t := if l then (t.set SAFE.SAFE_STAT'LIVE_OK 0).liveStop
    else
      have u := t.set SAFE.SAFE_STAT'LIVE_OK ok
      have u := ((u.wrN SAFE.SSM_LVL_L u.safe.lvlL).wrN SAFE.SSM_LEVEL (if ok = 1 then u.safe.lvlL else 0)).set SAFE.ARM_SAFE'OVERSPEED u.safe.overL
      if u.imgValid then u.each u.cfg.safe.regs fun p x => x.wrN p.1 p.2
      else { u with cfg := { u.cfg with safe := default } }
  t.each (upto 24) fun f u => u.setFnc l f { (default : FnCh) with st := if u.fnEn f then 1 else 0 }

/-- The cores of a cluster: their jobs are lost (R327), their registers go, their memories stay. -/
def State.clusterReset (s : State) (c : Nat) : State :=
  have t := s.each ((upto 4).map (4 * c + ·)) fun n u =>
    u.iff (u.coreSt n == gsRUNNING || u.coreSt n == gsWAITING) (·.jobLost n)
  { t.domClear (pdGC c) with gc := { t.gc with cores := t.gc.cores.clearIf (fun n => n / 4 == c) } }.chuckStall

/-- PD[d] goes into reset, its registers and its state to their reset values (R543, R553). -/
def State.domReset (s : State) (d : Nat) : State :=
  have s := if d = pdFLASH then s.nandAbort else s
  have s := s.iff (d == pdTIME) (fun t => t.shiftTimes (Neg.neg (t.ns : Int)))
  have t :=
    if d = pdDEAD then s.channelReset false
    else if d = pdLIVE then s.channelReset true
    else if 7 ≤ d ∧ d ≤ 10 then s.clusterReset (d - 7)
    else s.domClear d
  have t : State := match d with
    | 3 => { t with pwm := default, fb := default, ctl := default, prf := default, trj := default, port := default,
                    dio := { t.dio with cmpOn := 0, cmpNs := ⟨[]⟩, portOut := 0 } }
    | 4 => { t with adc := default }
    | 5 => { t with face := default }
    | 6 => { t with rough := default }
    | 11 => { t with chuck := default, perf := { (default : PerfH) with pc := t.perf.pc } }
    | 12 => { t with time := { (default : TimeH) with ticks := t.time.ticks } }
    | 13 => { ((t.set SYS.HOST_CFG'PCIE_UP 0).set SYS.HOST_CFG'WIDTH 0).set SYS.HOST_CFG'SPEED 0 with
              net := default, evt := { t.evt with bme := false, d3 := false } }
    | 14 => { t with blk := default, srt := default,
                     fyv := { (default : FyvH) with pinActive := t.fyv.pinActive, swapNs := t.ns } }
    | 15 => t
    | _ => t
  have t := { t with rst := { t.rst with holdTick := t.rst.holdTick.set d (t.time.ticks + 1), relWait := t.rst.relWait.filter (· != d) } }
  (t.setBitF RST.RST_STAT'RELEASED d false).setBitF RST.RST_PEND'PEND d false

/-- What a full reset does to AON: its registers but the retained ones, the straps sampled (R536, R543, R556). -/
def State.aonReset (s : State) (straps : Nat) : State :=
  have trips := s.f PWR.THERM_STAT'TRIP_CNT
  have t := s.domClear pdAON
  have t := { t with sys := { (default : SysH) with bootPend := true }, clk := default, pwr := default, evt := default, cfg := default,
                     latches := ⟨[]⟩, perReq := ⟨[]⟩, rst := { t.rst with coreWdNs := [] },
                     nand := { t.nand with refs := t.nand.refs.set 0 [] } }
  (t.set PWR.THERM_STAT'TRIP_CNT trips).wrN RST.RST_STRAP (straps % 512 - straps % 256 + straps % 128)

/-- What a power-on reset clears of the retained state (R556). Whether the buffers of R486, cleared, pass their own CRC
is free. -/
def State.porClear (s : State) : State :=
  have t := { s with regs := s.regs.clearIf (fun a => match rowAt a with | some (r, _) => r.dom == Dom.ret | none => false) }
  have q := t.set PWR.THERM_STAT'TRIP_CNT 0 |>.fresh 1
  have bad := q.1 == 1
  { q.2 with nand := { q.2.nand with safe := { (default : NRing) with bufBad := bad }, cyc := { (default : NRing) with bufBad := bad }, upper := false } }

/-! ### Asserting a reset (R543-R547) -/

/-- The order of release after the option load (R548). -/
def releaseOrder : List Nat := [1, 2, 12, 3, 4, 14, 11, 6, 5, 7, 8, 9, 10, 13, 15]

/-- Reach System, and Demand (R543). -/
def reachSystem : List Nat := [12, 3, 4, 14, 11, 6, 5, 7, 8, 9, 10, 15]
def reachDemand : List Nat := [2, 12, 3, 4, 14, 11, 6, 5, 7, 8, 9, 10, 13, 15]

/-- A mask as the list of its domains, and back. -/
def maskList (m : Nat) : List Nat := (upto 16).filter (bit m)
def listMask (l : List Nat) : Nat := l.foldl (fun m d => setBit m d true) 0

/-- Causes that R493 copies to a DUMP record (R544). -/
def dumpCause (c : Nat) : Bool := decide (5 ≤ c ∧ c ≤ 0xF)

/-- The last reset as RST_CAUSE and RST_CNT record it (R547). -/
def State.recordReset (s : State) (cause inst mask : Nat) : State :=
  have t := ((s.set RST.RST_CAUSE'CAUSE cause).set RST.RST_CAUSE'INST inst).set RST.RST_CAUSE'DOMAINS mask
  have t := (t.sat RST.RST_CNT'TOTAL_CNT).iff (bit mask 0) (·.sat RST.RST_CNT'FULL_CNT)
  (t.work 1).raise 8

/-- The DUMP record: cause, DT, backup registers, lower half of the retained SRAM (R493; log entry 43). -/
def State.dumpWrite (s : State) (cause : Nat) : State :=
  have words := fun (f : Nat → Nat) (n : Nat) => (upto n).flatMap (fun i => toLE 4 (s.rdN (f i)))
  have l := toLE 4 cause ++ s.secBytes ++ toLE 2 0 ++ s.nsBytes ++ words RST.BKP 16 ++ words RST.RSRAM 8192
  s.each (pagesOf 3 l) fun p t => t.nandQueue (.rec_ 4 p 0)

/-- A channel whose domain has been reset counts as failed: M10 from M3-M8, M9 from M10 (R359, R360, R544). -/
def State.channelDown (s : State) (l : Bool) : State :=
  have other := s.chOk (!l)
  have t := (s.setB SAFE.SAFE_STAT'DEGRADED other).raise 176
  if s.mode = 10 ∨ (voteMode s.mode && !other) then t.safetyStop 3
  else if 3 ≤ s.mode ∧ s.mode ≤ 8 then
    have t := { t with safe := { t.safe with degNs := t.ns } }
    ((t.set SAFE.SAFE_STAT'DEG_LEFT (t.f SAFE.DEG_CFG'DEG_T)).raise 178).modeTo 10 4 false
  else t.safeEval

/-- A reset that reaches TIME or CTL: the image in force is discarded, and the mode becomes M0, in P0 (R43, R523, R559). -/
def State.toBoot (s : State) : State :=
  have t := if s.sys.loading then { s with sys := { s.sys with loading := false, secondTry := false, stageLen := 0 } } else s
  have t := (t.set SYS.IMG_STAT'LOAD_STAT 0).iff t.imgValid (·.imgDiscard)
  have t := ((t.set PWR.PWR_STAT'STATE 0).set PWR.PWR_STAT'TARGET 0).set PWR.PWR_STAT'WAKING 0
  if t.mode = 0 then { t with sys := { t.sys with bootPend := true } } else t.modeTo 0 0 false

/-- A reset of the domains `l` is asserted, joined with a release sequence that runs (R546). In P3 the domains that are off
are released with it. -/
def State.resetAssert (s : State) (l : List Nat) (cause inst : Nat) : State :=
  have run := !s.rst.seq.isEmpty && !s.rst.wakeSeq
  have reach := if run then listMask l ||| s.rst.reach else listMask l
  have off := if s.f PWR.PWR_STAT'STATE = 3 then listMask (releaseOrder.filter (fun d => !s.released d)) else 0
  have all := reach ||| off ||| (if s.rst.wakeSeq then listMask s.rst.seq else 0)
  have big := !run || decide (s.rst.size < l.length) || (s.rst.size == l.length && decide (cause < s.rst.cause))
  have t := if reach.testBit 12 || reach.testBit 3 then s.iff s.imgValid (·.imgDiscard) else s
  have t := t.each (releaseOrder.filter (bit reach)) fun d u => u.domReset d
  have t := { t with rst := { t.rst with
    seq := releaseOrder.filter (bit all), reach := reach, wakeSeq := false, gapTick := 0, size := if big then l.length else t.rst.size
    cause := if big then cause else t.rst.cause, inst := if big then inst else t.rst.inst } }
  have t := (t.setB RST.RST_STAT'SEQ_BUSY true).ledgerSync
  if reach.testBit 12 || reach.testBit 3 then t.toBoot
  else (t.iff (reach.testBit 1) (·.channelDown false)).iff (reach.testBit 2) (·.channelDown true)

/-- A full reset: every domain, the straps sampled, the option load started (R543, R552). The release sequence begins once
the options are valid. -/
def State.fullReset (s : State) (cause straps : Nat) : State :=
  have t := s.iff s.imgValid (·.imgDiscard)
  have t := t.each releaseOrder fun d u => u.domReset d
  have t := t.aonReset straps
  have t := { t with rst := { t.rst with seq := releaseOrder, reach := 0xFFFF, size := 16, gapTick := 0, cause := cause, inst := 0, coolHold := t.rst.coolHold && cause != 1, wakeSeq := false } }
  t.ledgerSync

/-- The AON supply fell below its threshold (R544, code 0x01). -/
def execPowerOnReset (straps : BitVec 9) (s : State) : Host.Outcome State Fault Refusal :=
  .next (s.fullReset 0x01 straps.toNat).porClear

/-- A main rail failed while AON stays supplied (R557, code 0x02). -/
def execSupplyReset (straps : BitVec 9) (s : State) : Host.Outcome State Fault Refusal := .next (s.fullReset 0x02 straps.toNat)

/-- RESET_N low: from 1 µs on a full reset (R544, R571, code 0x03). -/
def execResetNAssert (straps : Held (BitVec 9)) (s : State) : Host.Outcome State Fault Refusal :=
  .next (if straps.held < us 1 then s else s.fullReset 0x03 straps.v.toNat)

/-- PERST_N, or a hot reset (R571, code 0x04). -/
def execPcieHotReset (s : State) : Host.Outcome State Fault Refusal := .next (s.resetAssert [pdHOST] 0x04 0)

/-- The live centre's watchdog (code 0x08). -/
def execLiveWatchdogExpiry (s : State) : Host.Outcome State Fault Refusal :=
  .next (if s.released pdLIVE then s.resetAssert [pdLIVE] 0x08 0 else s)

/-- A demand of the dead centre (R540, code 0x09): MAIN_UNLOCK is recorded first. -/
def State.deadDemand (s : State) (unlock : Bool) : State :=
  if !s.released pdDEAD then s
  else (s.iff unlock (fun t => (t.set CLK.CLK_ERR'MAIN_UNLOCK 1).set CLK.CLK_STAT'MAIN_LOCK 0)).resetAssert reachDemand 0x09 0

def execDeadCentreDemand (unlock : Bool) (s : State) : Host.Outcome State Fault Refusal := .next (s.deadDemand unlock)

/-- A double-bit ECC or parity error in a safety parameter RAM (codes 0x0A, 0x0B). -/
def execSafetyRamError (live : Bool) (s : State) : Host.Outcome State Fault Refusal :=
  .next (if !s.released (if live then pdLIVE else pdDEAD) then s
    else s.resetAssert [if live then pdLIVE else pdDEAD] (if live then 0x0B else 0x0A) 0)

/-- An error in the image shadow (R43, code 0x0C). -/
def execImageShadowError (s : State) : Host.Outcome State Fault Refusal := .next (s.resetAssert reachSystem 0x0C 0)

/-- A parity error in the control engine's parameter RAM (code 0x0D). -/
def execEngineParityError (s : State) : Host.Outcome State Fault Refusal :=
  .next (if s.domOn pdCTL then s.resetAssert reachSystem 0x0D 0 else s)

/-- A parity error in the DT registers (code 0x0E). -/
def execDtParityError (s : State) : Host.Outcome State Fault Refusal :=
  .next (if s.domOn pdTIME then s.resetAssert reachSystem 0x0E 0 else s)

/-- RST_CTRL (R545): SYS_RST, code 0x10. -/
def State.rstCtrlWrite (s : State) (w : Req) (v : Word) : State :=
  if !s.hostOrSupv w then (s.set RST.RST_ERR'REFUSED 1).refusal 1
  else if bit v.toNat 31 then s.resetAssert reachSystem 0x10 0 else s

def execSysRst (w : Req) (v : BitVec 32) (s : State) : Host.Outcome State Fault Refusal :=
  .next (s.regCmd w RST.RST_CTRL (·.rstCtrlWrite w (v ||| 0x80000000)))

/-- The Chuck watchdog expires (R330, code 0x07): a dispatchable job and an idle core that takes it stand for TIMEOUT. -/
def State.chuckExpire (s : State) : State :=
  have s := s.chuckStall
  if !s.domOn pdMEM ∨ !s.b CHUCK.CHUCK_WDOG_CFG'EN ∨ s.chuck.stallFrom = 0 then s
  else
    have t := s.advanceTo (s.chuck.stallFrom - 1 + us (s.f CHUCK.CHUCK_WDOG_CFG'TIMEOUT))
    ((t.set CHUCK.CHUCK_ERR'WDOG_EXPIRED 1).raise 112).resetAssert [pdMEM] 0x07 0

def execChuckWatchdogExpiry (s : State) : Host.Outcome State Fault Refusal := .next s.chuckExpire

/-- A core's watchdog expires (R307): SOFT_RST (code 0x05), or within 1 s of the last one its cluster (code 0x06). -/
def State.coreExpire (s : State) (n : Nat) : State :=
  have st := s.coreSt n
  if !s.domOn (pdGC (n / 4)) ∨ !s.b (GC.GC_WDOG_CFG'EN n) ∨ st = gsHALTED ∨ st = gsRESET then s
  else
    have due := s.ns + (us (s.f (GC.GC_WDOG_CFG'TIMEOUT n)) - s.wdCount n)
    have t := (s.advanceTo due).raise (96 + n)
    have again := t.rst.coreWdNs.any (fun p => p.1 == n && decide (t.ns + 1 ≤ p.2 + 1000000000))
    have t := { t with rst := { t.rst with coreWdNs := (n, t.ns + 1) :: t.rst.coreWdNs.filter (fun p => p.1 != n) } }
    if again then t.resetAssert [pdGC (n / 4)] 0x06 n
    else
      have t := t.coreSoftRst n
      have t := t.setCore n { t.core n with wdFrom := t.ns, wdUsed := 0 }
      (t.recordReset 0x05 n 0).dumpWrite 0x05

def execCoreWatchdogExpiry (n : Fin 16) (s : State) : Host.Outcome State Fault Refusal := .next (s.coreExpire n)

/-- T_DIE measured every 100 µs; at 125 °C the thermal trip (R567, R568, code 0x0F), once until the domains are released. -/
def State.thermalSample (s : State) (t : Int) : State :=
  have u := s.thermal t
  if t < 125 ∨ u.rst.coolHold then u
  else
    have u := (u.sat PWR.THERM_STAT'TRIP_CNT).resetAssert reachSystem 0x0F 0
    { u with rst := { u.rst with coolHold := true } }

def execThermalSample (t : Int) (s : State) : Host.Outcome State Fault Refusal := .next (s.thermalSample t)

/-- T_DIE has fallen to 100 °C or below: the held domains may be released (R568). -/
def execThermalRelease (s : State) : Host.Outcome State Fault Refusal :=
  .next (if s.rst.coolHold ∧ s.tDie ≤ 100 then { s with rst := { s.rst with coolHold := false } } else s)

/-! ### Options and releases (R547-R552) -/

/-- The option load ends (R551, R552): copy A, else copy B; both failed: OPT_FAIL. At power-on RST_GAP comes from the
area. -/
def State.optionsDone (s : State) : State :=
  if s.b RST.RST_STAT'OPTIONS_VALID ∨ s.b RST.RST_STAT'OPT_FAIL then s
  else if !s.optA.good ∧ !s.optB.good then s.set RST.RST_STAT'OPT_FAIL 1
  else
    have t := ((s.set RST.RST_STAT'OPTIONS_VALID 1).set RST.RST_STAT'OPT_COPY (if s.optA.good then 1 else 2)).set RST.RST_STAT'SEQ_BUSY 1
    have t := { t with rst := { t.rst with gapTick := t.time.ticks + 1 } }
    t.iff (t.rst.cause == 1) (·.set RST.RST_GAP'RST_GAP t.opt.gap)

def execOptionLoadDone (s : State) : Host.Outcome State Fault Refusal := .next s.optionsDone

/-- The corrections of the converters at the release of ADC: their trim values (R71). -/
def State.convTrimLoad (s : State) : State :=
  s.each (upto 8) fun i t =>
    (t.set (ADC.CONV_CORR'OFS_CORR i) (uN 16 (t.convTrim i).1)).set (ADC.CONV_CORR'GAIN_CORR i) (uN 16 (t.convTrim i).2)

/-- What the release of a domain sets going (R488, R493, R585, R388). -/
def State.domStart (s : State) (d : Nat) : State :=
  have t := (s.iff (d == pdADC) (·.convTrimLoad)).imgReapply d
  have t := t.iff (d == pdCTL) (·.halfLoad)
  match d with
  | 3 =>
    have t := { t with port := { t.port with recallDue := t.imgValid } }
    if t.imgValid then t.envRecall else t.portalsLoad false
  | 13 => t.each (upto 2) fun p u =>
      have m := if p = 0 then u.opt.mac0 else u.opt.mac1
      (u.wrN (NET.NET_MAC_LO p) (m % 2 ^ 32)).wrN (NET.NET_MAC_HI p) (m / 2 ^ 32 % 65536)
  | 14 =>
    have t := t.set FYV.PAIR_STAT'MEMBER (t.f RST.RST_STRAP'PAIR_ROLE)
    if t.cycRun then t else t.roleL1
  | 15 =>
    have t := t.envRecall.nandMount
    if dumpCause t.rst.cause && bit t.rst.reach 15 && !t.rst.wakeSeq then t.dumpWrite t.rst.cause else t
  | _ => t

/-- PD[d] is released: powered, clock-good, out of reset (R542, R549). -/
def State.domUp (s : State) (d : Nat) : State :=
  have t := ((s.setBitF RST.RST_STAT'RELEASED d true).domPower [d] true).setBitF RST.RST_PEND'PEND d false
  (t.iff (d != pdDEAD) (·.set CLK.CLK_STAT'MAIN_LOCK 1)).domStart d

/-- The sequence ends once its last domain has been released (R547): the reset is recorded; a cause with a dump whose reach
leaves FLASH out is copied now; in M0 the boot load begins (R523). -/
def State.seqEnd (s : State) : State :=
  if !s.rst.seq.isEmpty then s
  else
    have r := s.rst
    have t := { (s.set RST.RST_STAT'SEQ_BUSY 0) with rst := { s.rst with reach := 0, wakeSeq := false } }
    if r.wakeSeq then t
    else
      have t := t.recordReset r.cause r.inst r.reach
      (t.iff (dumpCause r.cause && !bit r.reach 15) (·.dumpWrite r.cause)).bootLoad

/-- CTL edges in `n` cycles of REF (R537). -/
def refCycles (n : Nat) : Nat := 16 * n

/-- The CTL edge from which domain `d` may be released: 256 REF cycles after it was put into reset (R550). -/
def State.heldUntil (s : State) (d : Nat) : Nat := s.rst.holdTick.get d - 1 + refCycles 256

/-- Time passes up to a CTL edge of the module's count. -/
def State.waitTick (s : State) (n : Nat) : State := s.edges (n - s.time.ticks)

/-- The next domain of the sequence is due, RST_GAP cycles after the one before, or a release by RST_BLK pends (R548-R550).
A domain that RST_BLK holds stays in reset and does not stop the sequence; after a thermal trip the domains of its reach wait
for the die to cool (R568). -/
def State.domRelease (s : State) (d : Nat) (good : Bool) : State :=
  if !s.b RST.RST_STAT'OPTIONS_VALID ∨ s.rst.coolHold ∧ reachSystem.contains d then s
  else if s.rst.seq.head? = some d then
    if s.fbit RST.RST_BLK'HOLD d then { s with rst := { s.rst with seq := s.rst.seq.tail } }.seqEnd
    else
      have gap := if s.rst.gapTick = 0 then 0 else s.rst.gapTick - 1 + refCycles (s.f RST.RST_GAP'RST_GAP)
      have s := s.waitTick (max (s.heldUntil d) gap)
      if good then
        have t := s.domUp d
        { t with rst := { t.rst with seq := t.rst.seq.tail, gapTick := t.time.ticks + 1 } }.seqEnd
      else s.setBitF RST.RST_PEND'PEND d true
  else if (s.fbit RST.RST_PEND'PEND d ∨ s.rst.relWait.contains d) ∧ !s.rst.seq.contains d then
    have s := { s with rst := { s.rst with relWait := s.rst.relWait.filter (· != d) } }.waitTick (s.heldUntil d)
    if good then ((s.domUp d).recordReset 0x11 0 (2 ^ d)).bootLoad else s.setBitF RST.RST_PEND'PEND d true
  else s

def execDomainRelease (d : Fin 16) (good : Bool) (s : State) : Host.Outcome State Fault Refusal := .next (s.domRelease d good)

/-- One bit of RST_BLK changes (R545, R549); a release inside the 256 REF cycles of R550 waits for DOMAIN_RELEASE. -/
def State.blkHold (s : State) (d : Nat) (hold : Bool) : State :=
  have t := s.setBitF RST.RST_BLK'HOLD d hold
  if hold then
    have t := t.iff ((d == pdTIME || d == pdCTL) && t.imgValid) (·.imgDiscard)
    have t := (t.domReset d).ledgerSync
    if d = pdTIME ∨ d = pdCTL then t.toBoot else t
  else if t.released d ∨ t.rst.seq.contains d then t
  else if t.time.ticks < t.heldUntil d then { t with rst := { t.rst with relWait := d :: t.rst.relWait } }
  else if t.b RST.RST_STAT'OPTIONS_VALID ∧ t.fbit CLK.CLK_STAT'CLK_GOOD d then
    ((t.domUp d).recordReset 0x11 0 (2 ^ d)).bootLoad
  else t.setBitF RST.RST_PEND'PEND d true

/-- A write of RST_BLK (R545): not by others, and not for the writer's own domain. -/
def State.rstBlkWrite (s : State) (w : Req) (v : Word) : State :=
  if !s.hostOrSupv w then (s.set RST.RST_ERR'REFUSED 1).refusal 1
  else
    have own := match w with | .core n => pdGC (n / 4) | _ => pdHOST
    (releaseOrder.filter (fun d => d != pdDEAD && d != pdLIVE)).foldl (fun t d =>
      have h := bit v.toNat d
      if h = t.fbit RST.RST_BLK'HOLD d then t
      else if h ∧ d = own then (t.set RST.RST_ERR'SELF 1).refusal 1
      else t.blkHold d h) s

def execRstBlkWrite (w : Req) (v : BitVec 32) (s : State) : Host.Outcome State Fault Refusal :=
  .next (s.regCmd w RST.RST_BLK (·.rstBlkWrite w v))

/-! ### Clocks (R537-R542) -/

/-- CLK_MODE as sampled. -/
def State.clkMode (s : State) : Nat := s.f RST.RST_STRAP'CLK_MODE

/-- CLK_MEAS, saturating. -/
def State.clkMeas (s : State) (ppm : Int) : State := s.set CLK.CLK_MEAS'PPM (uN 16 (satI 16 ppm))

/-- REF switches to the external source (R538). -/
def State.refSwitch (s : State) : State :=
  have t := (s.set CLK.CLK_STAT'REF_SRC s.clkMode).set CLK.CLK_STAT'REF_FALLBACK 0
  { t with clk := { t.clk with switchedOnce := true, restoreArmed := false } }.work 2

/-- The selected source measures `ppm` against the crystal, within ±50 ppm for `held` ns: it qualifies after 1 ms; the line
clock of Fyver is there only while a link to the position above is UP (R538, R539). -/
def State.refQualified (s : State) (ppm : Int) (held : Nat) : State :=
  if s.clkMode = 0 ∨ ppm < -50 ∨ 50 < ppm ∨ held < ms 1 ∨ s.clkMode = 3 ∧ !s.upstream then s
  else
    have t := (s.clkMeas ppm).set CLK.CLK_STAT'EXT_OK 1
    if t.f CLK.CLK_STAT'REF_SRC = 0 ∧ (!t.clk.switchedOnce ∨ t.clk.restoreArmed) then t.refSwitch else t

def execRefQualified (ppm : Held Int) (s : State) : Host.Outcome State Fault Refusal := .next (s.refQualified ppm.v ppm.held)

/-- The selected source measures `ppm` and has stopped for `gone` REF cycles: beyond ±200 ppm, or from 10 cycles on, REF
falls back to the crystal (R539). -/
def State.refLost (s : State) (ppm : Int) (gone : Nat) : State :=
  if s.clkMode = 0 ∨ -200 ≤ ppm ∧ ppm ≤ 200 ∧ gone < 10 then s
  else
    have t := (s.clkMeas ppm).set CLK.CLK_STAT'EXT_OK 0
    if t.f CLK.CLK_STAT'REF_SRC = 0 then t
    else (((t.set CLK.CLK_STAT'REF_SRC 0).set CLK.CLK_STAT'REF_FALLBACK 1).set CLK.CLK_ERR'REF_LOST 1 |>.work 2).raise 9

def execRefLost (ppm : Held Int) (s : State) : Host.Outcome State Fault Refusal := .next (s.refLost ppm.v ppm.held)

/-- CLK_CMD.REF_RESTORE permits the switch back (R539). -/
def State.clkCmdWrite (s : State) (v : Word) : State :=
  if !bit v.toNat 31 ∨ s.clkMode = 0 ∨ s.f CLK.CLK_STAT'REF_SRC ≠ 0 then s
  else if s.b CLK.CLK_STAT'EXT_OK then s.refSwitch
  else { s with clk := { s.clk with restoreArmed := true } }

def execRefRestore (w : Req) (v : BitVec 32) (s : State) : Host.Outcome State Fault Refusal :=
  .next (s.regCmd w CLK.CLK_CMD (·.clkCmdWrite (v ||| 0x80000000)))

/-- PLL_NET loses lock: both Ethernet links go down (R541). -/
def execNetPllUnlock (s : State) : Host.Outcome State Fault Refusal :=
  .next (if s.b CLK.CLK_STAT'NET_LOCK then
      ((((s.set CLK.CLK_STAT'NET_LOCK 0).set CLK.CLK_ERR'NET_UNLOCK 1).raise 9).netDown 0).netDown 1
    else s)

/-- PLL_NET locks, after power-on or again (R541). -/
def execNetPllRelock (s : State) : Host.Outcome State Fault Refusal :=
  .next (if s.b CLK.CLK_CFG'NET_EN then s.set CLK.CLK_STAT'NET_LOCK 1 else s)

/-- A write of CLK_CFG: with NET_EN = 0 PLL_NET is off (R541). -/
def State.clkCfgWrite (s : State) (v : Word) : State :=
  have t := s.plainWrite CLK.CLK_CFG v
  if t.b CLK.CLK_CFG'NET_EN then t else ((t.set CLK.CLK_STAT'NET_LOCK 0).netDown 0).netDown 1

/-- The clock-good signal of a released domain falls (R542). -/
def State.clockLoss (s : State) (d : Nat) : State :=
  if !s.fbit CLK.CLK_STAT'CLK_GOOD d ∨ d = 0 then s
  else
    have t := s.setBitF CLK.CLK_STAT'CLK_GOOD d false
    if s.released d then (t.set CLK.CLK_ERR'DOM_CLK 1).raise 9 else t

def execClockGoodLoss (d : Fin 16) (s : State) : Host.Outcome State Fault Refusal := .next (s.clockLoss d)

end Sys2Proof.Machine
end

