-- ==== Sys2Proof/Machine/ModeCmd.lean ====
section
/-!
DEFINITION. Mode requests, their checks and their taking effect; park and the wake from it (spec/24_modes.md, R518-R530;
R562 of spec/26_power.md; log entry 45).
-/
namespace Sys2Proof.Machine
open Sys2Proof

/-- The modes from which a request for `t` is permitted (R527). -/
def permitted (m t : Nat) : Bool :=
  match t with
  | 3 => decide (5 ≤ m ∧ m ≤ 9)
  | 5 => m == 3 || decide (5 ≤ m ∧ m ≤ 9)
  | 6 => m == 3 || decide (5 ≤ m ∧ m ≤ 9)
  | 7 => [3, 5, 6, 8, 9].contains m
  | 8 => decide (5 ≤ m ∧ m ≤ 7)
  | 9 => decide (3 ≤ m ∧ m ≤ 8) || m == 10 || m == 11
  | 11 => m == 1 || m == 9
  | _ => false

/-- Checks 2 to 6 of R528, as a RESULT code; 0 = all pass. A request for the present mode passes (R527). -/
def State.modeCheck (s : State) (t : Nat) : Nat :=
  have arms := (upto 8).filter (fun a => s.b (SAFE.SSM_ARM_CFG'EN a))
  if t = s.mode then 0
  else if !permitted s.mode t then 1
  else if !runMode t then 0
  else if !s.imgValid then 2
  else if !s.cycRun then 3
  else if !s.b SAFE.SAFE_STAT'DEAD_OK ∨ !s.b SAFE.SAFE_STAT'LIVE_OK ∨ s.b SAFE.SAFE_STAT'DEG_EXPIRED then 4
  else if t = 7 ∧ (arms.isEmpty ∨ arms.any (fun a => !s.fbit SAFE.SSM_STAT'SSM_OK a) ∨ s.f SAFE.SSM_STAT'SENSOR_STALE ≠ 0) then 5
  else 0

/-- RESULT of the last request. -/
def State.modeResult (s : State) (r : Nat) : State := (s.set SYS.MODE_STAT'RESULT r).iff (r != 0) (·.refusal 0)

/-! ### Park (R526) -/

/-- The domains that are off in P3 (R559). -/
def p3Off : List Nat := [3, 4, 14, 11, 6, 5, 7, 8, 9, 10, 13]

/-- The domains are switched off, with all they held; P3. -/
def State.parkPower (s : State) : State :=
  have t := (s.each p3Off fun d u => u.domReset d).domPower p3Off false
  ({ t with rst := { t.rst with seq := [], wakeSeq := false } }.set RST.RST_STAT'SEQ_BUSY 0).ledgerSync.powSet 3

/-- Entry into M11: the image in force is discarded, the module goes into P3. -/
def State.enterPark (s : State) : State := (((s.modeTo 11 1 true).reqEnd 0).iff s.imgValid (·.imgDiscard)).parkPower

/-- A request for M9 in M11 starts the wake: the domains that are off are released in the order of R548 (R562). -/
def State.parkWake (s : State) : State :=
  have t := { s with rst := { s.rst with seq := releaseOrder.filter p3Off.contains, wakeSeq := true } }
  (t.set RST.RST_STAT'SEQ_BUSY 1).set PWR.PWR_STAT'WAKING 1

/-! ### Requests (R519-R525) -/

/-- A request that has passed its checks (R520, R521, R525, R562). -/
def State.modeAccept (s : State) (t : Nat) : State :=
  have wait := s.mode == 9 && (t == 3 || decide (5 ≤ t ∧ t ≤ 7))
  have s := ((s.modeResult 0).set SYS.MODE_STAT'REQ_TARGET t).set SYS.MODE_STAT'REQ_STATE 0
  have s := { s with sys := { s.sys with reqNs := s.ns, reqPulse := false } }
  if t = s.mode then s
  else if t = 9 ∧ s.mode ≠ 11 then s.modeTo 9 1 true
  else if t = 11 ∧ !s.cycRun then s.enterPark
  else
    have s := s.set SYS.MODE_STAT'REQ_STATE (if wait then 2 else 1)
    if t = 9 then s.parkWake else s.powEval

/-- MODE_REQ.GO. -/
def State.modeReqGo (s : State) (w : Req) (t : Nat) : State :=
  if !s.hostOrSupv w then s.modeResult 8
  else if s.modeCheck t ≠ 0 then s.modeResult (s.modeCheck t)
  else s.modeAccept t

/-- MODE_REQ.ABORT withdraws the request that waits. -/
def State.modeReqAbort (s : State) (w : Req) : State :=
  if !s.hostOrSupv w then s.modeResult 8
  else if s.f SYS.MODE_STAT'REQ_STATE = 0 then s
  else s.reqEnd 9

/-- A write of MODE_REQ: ABORT, then GO. -/
def State.modeReqWrite (s : State) (w : Req) (v : Word) : State :=
  (s.iff (bit v.toNat 30) (·.modeReqAbort w)).iff (bit v.toNat 31) (·.modeReqGo w (bitsOf v 3 0))

def execModeReqGo (w : Req) (v : BitVec 32) (s : State) : Host.Outcome State Fault Refusal :=
  .next (s.regCmd w SYS.MODE_REQ (·.modeReqWrite w (v ||| 0x80000000)))

def execModeReqAbort (w : Req) (v : BitVec 32) (s : State) : Host.Outcome State Fault Refusal :=
  .next (s.regCmd w SYS.MODE_REQ (·.modeReqWrite w (v ||| 0x40000000)))

/-- A write of MODE_CFG, from the requesters of R519 only. -/
def State.modeCfgWrite (s : State) (w : Req) (v : Word) : State := if s.hostOrSupv w then s.plainWrite SYS.MODE_CFG v else s

/-- The first L3 boundary after `t` ns. -/
def nextL3Ns (t : Nat) : Nat := (t / 1000000 + 1) * 1000000

/-- A request may take effect at the L3 boundary reached: it waits, and not for a reset pulse that has not come. -/
def State.changeWaits (s : State) : Bool :=
  have st := s.f SYS.MODE_STAT'REQ_STATE
  st != 0 && (st != 2 || s.sys.reqPulse) && s.mode != 11 && s.cycRun
    && (s.f PWR.PWR_STAT'STATE == 0 || s.f SYS.MODE_STAT'REQ_TARGET == 11)

/-- A request that waits takes effect (R520, R525, R528, R529, R562): the checks are repeated; in a standby module M4 stands in
for M3 and M5-M8. -/
def State.modeNow (s : State) : State :=
  have t := s.f SYS.MODE_STAT'REQ_TARGET
  have r := s.modeCheck t
  if r ≠ 0 then (s.reqEnd r).refusal 0
  else if t = 11 then s.enterPark
  else (s.reqEnd 0).modeTo (if s.standby && runMode t then 4 else t) 1 true

/-- What waits for the L3 boundary `x` takes hold in this order: the results of the evaluation, the change of mode, the patch
(R47, R214, R520). -/
def State.l3Changes (s : State) (x : Nat) : State :=
  have s := s.iff (s.domOn pdCTL) (·.trjTakeHold)
  have s := s.iff (s.changeWaits && decide (nextL3Ns s.sys.reqNs ≤ x)) (·.modeNow)
  s.iff (s.f SYS.PATCH_STAT'STATE == 2 && decide (s.patchAt ≤ x)) (·.patchTakeHold)

/-- A request that waits takes effect at its boundary; for M11 without boundaries at once (R520, R526). -/
def State.modeChange (s : State) : State :=
  if s.f SYS.MODE_STAT'REQ_STATE ≠ 0 ∧ s.f SYS.MODE_STAT'REQ_TARGET = 11 ∧ s.mode ≠ 11 ∧ !s.cycRun then s.enterPark
  else if !s.changeWaits then s
  else
    have s := s.advanceTo (nextL3Ns s.sys.reqNs)
    (s.iff (s.domOn pdCTL) (·.trjTakeHold)).modeNow

def execModeChange (s : State) : Host.Outcome State Fault Refusal := .next s.modeChange

/-- The boundary of R47 comes: the pending patch takes hold there. -/
def State.patchApply (s : State) : State :=
  if s.f SYS.PATCH_STAT'STATE ≠ 2 then s else (s.advanceTo s.patchAt).l3Changes s.patchAt

def execPatchApply (s : State) : Host.Outcome State Fault Refusal := .next s.patchApply

/-- No valid reset pulse within MODE_TIMEOUT.SECONDS of acceptance (R525). -/
def State.modeReqTimeout (s : State) : State :=
  if s.f SYS.MODE_STAT'REQ_STATE ≠ 2 ∨ s.sys.reqPulse then s
  else (s.advanceTo (s.sys.reqNs + 1000000000 * s.f SYS.MODE_TIMEOUT'SECONDS)).reqEnd 7

def execModeRequestTimeout (s : State) : Host.Outcome State Fault Refusal := .next s.modeReqTimeout

/-! ### The end of a wake (R562) -/

/-- P0 is reached: from P2 the domains return with what they held; from P3 the mode becomes M2 with a load from the boot
source. -/
def State.wakeDone (s : State) : State :=
  if !s.b PWR.PWR_STAT'WAKING ∨ (s.f PWR.PWR_STAT'STATE = 3 ∧ !s.rst.seq.isEmpty) then s
  else
    have p := s.f PWR.PWR_STAT'STATE
    have t := s.set PWR.PWR_STAT'WAKING 0
    if p = 3 then
      if t.f SYS.MODE_STAT'REQ_STATE = 0 then t.parkPower
      else
        have b := t.f RST.RST_STRAP'BOOT_SRC
        ((t.powSet 0).reqEnd 0).loadStart (if b = 2 then 3 else if b = 3 then 4 else b) 8
    else
      have t := if p = 2 then t.domPower ((upto 16).filter (fun d => p2Off d && t.released d)) true else t
      (t.powSet 0).powEval

def execWakeDone (s : State) : Host.Outcome State Fault Refusal := .next s.wakeDone

end Sys2Proof.Machine
end

