-- ==== Sys2Proof/Machine/Boundary.lean ====
section
/-!
DEFINITION. The boundaries of the levels L0 to L3 and the carrier midpoint (spec/01_cell_and_cycles.md, R18-R21; what each
holds, in the order in which its parts read one another; log entry 46).
-/
namespace Sys2Proof.Machine
open Sys2Proof

/-- A boundary of period `p` may fall at `x`: the generator runs, `x` is a multiple of the period, and it is not one that
has been (R18, R21). -/
def State.boundaryAt (s : State) (x p next : Nat) : Bool := s.domOn pdTIME && s.cycRun && x % p == 0 && decide (next ≤ x)

/-- The reload of the L0 boundary `x`, made once (R83, R105, R194). -/
def State.reload (s : State) (x : Nat) : State :=
  if s.pwm.relNs = x + 1 then s
  else
    have cleared := (upto 72).filter (fun g => (s.grp g).held)
    (s.pwmReload x).iff (s.domOn pdCTL) (·.chopperReload cleared)

/-- POS_BND and SPEED of every channel are latched at the instant of an L0 boundary, once, before a boundary of a higher level
at that instant reads them (R137, R250; log entry 46). -/
def State.bndLatch (s : State) (x : Nat) : State :=
  if !s.boundaryAt x s.t0 s.time.l0next ∨ s.fb.bndNs = x + 1 then s
  else { s.fbL0 with fb := { s.fbL0.fb with bndNs := x + 1 } }

/-- DT reaches the boundary. A trim below 0 brings the reload of that instant before it (R105). -/
def State.toBoundary (s : State) (x : Nat) : State :=
  have t := if s.trim < 0 ∧ s.boundaryAt x s.t0 s.time.l0next then s.reload x else s
  have t := t.advanceTo x
  { t with time := { t.time with bnd := x } }.bndLatch x

/-- The L3 boundary: TIMING is read, what waits for the boundary takes hold, the snapshots are taken, L3 work starts. -/
def State.l3Boundary (s : State) (x : Nat) : State :=
  if !s.boundaryAt x 1000000 s.time.l3next then s
  else
    have t := s.toBoundary x
    have t := { t with time := { t.time with l3next := x + 1000000 } }
    have t := if x = t.time.startNs then t else t.inc SYS.CYCLE_STAT'L3_SEQ
    have t := t.timingTake.l3Changes x
    have t := t.perfLatch.roughSnapshot.ssmSnapshot.faceIssue
    have t := t.iff (t.domOn pdLINK) fun u =>
      { (u.set FYV.CONS_STAT'ROUNDS_DONE (min 15 u.fyv.consDone)) with fyv := { u.fyv with consDone := 0 } }
    t.adcL3.iff (t.domOn pdLINK) (·.pairL3)

def execL3Boundary (x : Nat) (s : State) : Host.Outcome State Fault Refusal := .next (s.l3Boundary x)

/-- The L2 boundary, after the L3 boundary of the same instant (R20): claims that have ended are freed, a Sertik cycle begins,
the joint-side cross-checks run, a task cycle of the live centre starts (R331). -/
def State.l2Boundary (s : State) (x : Nat) : State :=
  if !s.boundaryAt x 250000 s.time.l2next then s
  else
    have t := (s.l3Boundary x).toBoundary x
    have t := { t with time := { t.time with l2next := x + 250000 } }
    have t := t.iff (t.domOn pdCTL) (·.trjL2)
    have t := t.iff (t.domOn pdLINK) (·.srtCycle)
    have t := t.iff (t.domOn pdCTL) (fun u => u.xChecks.fbL2)
    t.rateRamp.liveCycle x

def execL2Boundary (x : Nat) (s : State) : Host.Outcome State Fault Refusal := .next (s.l2Boundary x)

/-- The speed scale of PG[64 + n] moves towards the scale of its arm (R162, R182). Its generator has no SRAMP register: the steps
are SRAMP's reset values, the model's choice (log entry 19). -/
def State.stScale (s : State) (n : Nat) : State :=
  have x := s.pg (64 + n)
  s.setPg (64 + n) { x with sc := rampTo 0x0800 0x0100 (s.armScale (s.f (PRF.ST_CFG'SCALE_SRC n))) x.sc }

/-- The generator and the winding targets of a stepper group (R182, R184, R190, R191). -/
def State.stepperL1 (s : State) (n : Nat) : State :=
  have s := s.stScale n
  have t := s.pgUpdate (64 + n) (s.b (PRF.ST_CFG'EN n)) 0 0 (s.pg (64 + n)).sc
  (t.pgOutside (64 + n) (t.pg (64 + n)).pos).stTargets n

/-- The L1 boundary, after the L2 boundary of the same instant (R20): the role in force, the joint loops and generators, queues, portals. -/
def State.l1Boundary (s : State) (x : Nat) : State :=
  if !s.boundaryAt x 50000 s.time.l1next then s
  else
    have t := (s.l2Boundary x).toBoundary x
    have t := { t with time := { t.time with l1next := x + 50000 } }
    have t := t.iff (t.domOn pdLINK) (·.roleL1)
    if !t.domOn pdCTL then t
    else
      have t := t.srcReturn.engineL1
      have t := t.each (upto 8) fun n u => u.stepperL1 n
      t.trjL1.portalsL1.ccTick true

def execL1Boundary (x : Nat) (s : State) : Host.Outcome State Fault Refusal := .next (s.l1Boundary x)

/-- The L0 boundary, after the L1 boundary of the same instant (R20): POS_BND and SPEED of every channel, the reload of every
carrier group. -/
def State.l0Boundary (s : State) (x : Nat) : State :=
  if !s.boundaryAt x s.t0 s.time.l0next then s
  else
    have t := (s.l1Boundary x).toBoundary x
    have t := (t.engineReload.adcL0 (x == t.time.startNs)).reload x
    { t with time := { t.time with l0next := x + t.t0 } }.ccTick false

def execL0Boundary (x : Nat) (s : State) : Host.Outcome State Fault Refusal := .next (s.l0Boundary x)

/-- The carrier midpoint, T0/2 before the next reload (R18, R137). -/
def State.midpoint (s : State) : State :=
  if !(s.domOn pdTIME && s.domOn pdCTL && s.cycRun) ∨ s.time.l0next ≤ s.time.startNs then s
  else (s.advanceDt s.midDt).fbMid

def execCarrierMidpoint (s : State) : Host.Outcome State Fault Refusal := .next s.midpoint

end Sys2Proof.Machine
end

