-- ==== Sys2Proof/Machine/Bus.lean ====
section
/-!
DEFINITION. The register bus: every read and write of BAR0 by offset, for the host, the live centre and the gouge cores
(R5-R9, R276-R278, R495-R499). A register that has rules of its own goes to the operation of its block; every other one is
written by its access codes. Log entries 3, 41, 47.
-/
namespace Sys2Proof.Machine
open Sys2Proof

/-! ### The address map (R498, R499) -/

/-- A reserved range of BAR0. -/
def reservedAt (a : Nat) : Bool :=
  have w := a / 0x10000
  if a < 0x1600000 then decide (4 ≤ w) && (decide (w < 16) || w % 16 != 0)
  else if a < 0x2000000 then true
  else if a < 0x2480000 then false
  else if a < 0x2800000 then true
  else decide (0x3800000 ≤ a ∧ a < 0x4000000)

/-- The slot view and the image shadow window, which are read only. -/
def readOnlyWindow (a : Nat) : Bool :=
  decide (0x2400000 ≤ a ∧ a < 0x2480000) || decide (0x3400000 ≤ a ∧ a < 0x3800000)

/-! ### Low and high words (R8) -/

/-- Low words whose read latches the high word for the requester, by the first register of their array. -/
def pairLows : List Nat :=
  [SYS.STRUCT_HASH_LO, FB.POS_MID_LO 0, FB.POS_BND_LO 0, CTL.POS_REF_LO 0, CTL.MAN_POS_LO 0, PRF.TARGET_LO 0,
   PRF.VLIM_LO_LO 0, PRF.VLIM_HI_LO 0, PRF.P_OUT_LO 0, TIME.GM_ID_LO, NAND.DURABLE_LO 0, NAND.OLDEST_LO 0, PERF.PC_LO 0 0]

/-- Registers whose read gives what the requester's last read of another register latched (R8, R328, R435, R443, R516). -/
def latchedRegs : List Nat :=
  [SYS.STRUCT_HASH_HI, FB.POS_MID_HI 0, FB.POS_BND_HI 0, CTL.POS_REF_HI 0, CTL.MAN_POS_HI 0, PRF.TARGET_HI 0,
   PRF.VLIM_LO_HI 0, PRF.VLIM_HI_HI 0, PRF.P_OUT_HI 0, TIME.GM_ID_HI, NAND.DURABLE_HI 0, NAND.OLDEST_HI 0, PERF.PC_HI 0 0,
   TIME.DT_SEC_LO, TIME.DT_SEC_HI, TIME.TXTS_NS 0, TIME.TXTS_SEC_LO 0, TIME.TXTS_SEC_HI 0, CHUCK.CQ_HI 0, PERF.TAG_T 0,
   PERF.TAG_D 0, PERF.TAG_D2 0]

/-- Registers held per requester (R318, R502). -/
def ownRegs : List Nat := [CHUCK.ENQ_DESC 0, CHUCK.ENQ_STAT, NET.NET_TX_STAT 0]

/-- A read of the low word at `a` of a pair (R8); `ix`: the indexes of the register. -/
def State.lowRead (s : State) (w : Req) (a base : Nat) (ix : List Nat) : State :=
  if base = PERF.PC_LO 0 0 then
    have q := s.pcRead (ix.getD 0 0) (ix.getD 1 0)
    (q.2.latch w (a + 4) (q.1 / 2 ^ 32)).answer (.data (q.1 % 2 ^ 32))
  else (s.latch w (a + 4) (s.rdN (a + 4))).answer (.data (s.rdN a))

/-! ### Reads -/

/-- A read of RET_DATA (R556): the upper half of the retained SRAM holds the append buffers of R486, whose layout the spec
does not give; it reads 0 from POR until an entry has been held in it. A double-bit error is answered with an error
response (R557). -/
def State.retRead (s : State) (w : Req) (bad : Bool) : State :=
  have q := if s.nand.upper then s.fresh 32 else (0, s)
  have t := q.2.set RST.RET_PTR'PTR (q.2.f RST.RET_PTR'PTR + 1)
  if bad then t.answer (errAnswer w) else t.answer (.data q.1)

/-- A read of a register by its array and indexes. -/
def State.readReg (s : State) (w : Req) (a base : Nat) (ix : List Nat) : State :=
  have i := ix.getD 0 0
  if pairLows.contains base then s.lowRead w a base ix
  else if latchedRegs.contains base then s.answer (.data (s.latched w a))
  else if ownRegs.contains base then s.answer (.data (s.perReq.get (reqCode w * 2 ^ 32 + a)))
  else if base = TIME.DT_NS then s.dtNsRead w
  else if base = CTL.ENG_STAT then s.answer (.data (if s.cycRun then 0xF else 0))
  else if base = CHUCK.CHUCK_STAT then s.answer (.data (s.rdN a % 2 ^ 29 / 65536 * 65536 + s.idleCores))
  else if base = TIME.NS32 then s.answer (.data s.ns32)
  else if base = FYV.SWAP_AGE then s.answer (.data s.swapAge)
  else if base = TIME.TXTS_HDR 0 then s.txtsPop w i
  else if base = CHUCK.CQ_LO 0 then s.cqPop w i
  else if base = PERF.TAG_PC 0 then s.tagRead w i
  else if base = RST.RET_DATA then s.retRead w false
  else if base = GC.GC_DBG_DATA 0 then s.answer (.data (s.coreDbgRead i))
  else if base = EVT.MSIX_PBA 0 then s.answer (.data (if i = 0 then s.pba else 0))
  else s.answer (.data (s.rdN a))

/-- A read in a memory window of BAR0. What the core windows hold outside P, X and Y memory is free (log entry 47). -/
def State.readMem (s : State) (a : Nat) : State :=
  if 0x4000000 ≤ a then s.answer (.data (s.ldn (smwAt 0 + (a - 0x4000000) % 0x800000) 4))
  else if 0x2400000 ≤ a ∧ a < 0x2480000 then
    have o := a - 0x2400000
    s.answer (.data (s.slotByte o + 256 * s.slotByte (o + 1) + 65536 * s.slotByte (o + 2) + 2 ^ 24 * s.slotByte (o + 3)))
  else if 0x3400000 ≤ a ∧ a < 0x3800000 ∧ !s.imgValid then s.answer (.data 0)
  else if 0x2800000 ≤ a ∧ a < 0x3000000 then
    have o := a % 0x80000
    if o < 0x10000 ∨ 0x20000 ≤ o ∧ o < 0x60000 then s.answer (.data (s.ldn a 4))
    else
      have q := s.fresh 32
      q.2.answer (.data q.1)
  else s.answer (.data (s.ldn a 4))

/-- The local memory of a core that a window address lies in, as (core, space): 0 P, 1 X, 2 Y (R278). -/
def coreWinMem (a : Nat) : Option (Nat × Nat) :=
  have o := a % 0x80000
  if a < 0x2800000 ∨ 0x3000000 ≤ a then none
  else if o < 0x10000 then some ((a - 0x2800000) / 0x80000, 0)
  else if 0x20000 ≤ o ∧ o < 0x60000 then some ((a - 0x2800000) / 0x80000, if o < 0x40000 then 1 else 2)
  else none

/-- What ECC finds in a word read through a window: core memories count it and answer a double-bit error with an error
response (R309); the SMW and the retained SRAM answer a double-bit error with one (R316, R557). -/
def State.winEcc (s : State) (w : Req) (a : Nat) (e : WinEcc) : State :=
  match e, coreWinMem a with
  | .good, _ => s
  | .corrected, some (n, m) => s.eccNote n m false
  | .double, some (n, m) => (s.eccNote n m true).answer (errAnswer w)
  | .corrected, none => s
  | .double, none => if 0x4000000 ≤ a ∨ 0x18000 ≤ a ∧ a < 0x20000 then s.answer (errAnswer w) else s

/-- A read of the aligned word at offset `a` of BAR0, once the bus has let it through. -/
def State.readAt (s : State) (w : Req) (a : Nat) : State :=
  if 0x2000000 ≤ a then s.readMem a
  else match rowAt a with
    | some (r, ix) => s.readReg w a (r.base a) ix
    | none => s.answer (.data 0)

/-- A 32-bit read by requester `w`. `e`: what the ECC of a memory window finds. -/
def State.busRead (s : State) (w : Req) (a : Nat) (e : WinEcc := .good) : State :=
  if w = .host ∧ s.evt.d3 then s.answer .unsupported
  else if reservedAt a then (s.accError w a false 1).answer (.data 0)
  else s.regRead w a (fun t => (t.readAt w a).winEcc w a e)

/-- The bytes that a narrow read takes from a word. -/
def widthPart (k : Width) (v : Nat) : Nat :=
  match k with
  | .word => v
  | .half i => v / 65536 ^ i.val % 65536
  | .byte i => v / 256 ^ i.val % 256

/-- The bytes of an answer that a narrow read delivers. -/
def Answer.narrow (r : Answer) (k : Width) : Answer := match r with | .data v => .data (widthPart k v) | x => x

/-- A read of any width (R5): an 8-bit or 16-bit read of a register delivers its addressed bytes and leaves everything else
as it was; free values that it has shown are used up. -/
def State.busReadPart (s : State) (w : Req) (a : Nat) (k : Width) (e : WinEcc) : State :=
  have t := s.busRead w a e
  if k = .word then t
  else if 0x2000000 ≤ a ∨ reservedAt a ∨ !s.domOn (domOfAddr a) ∨ w = .host ∧ s.evt.d3 then t.answer (t.resp.narrow k)
  else { s with resp := t.resp.narrow k, freeN := t.freeN }

/-! ### Writes -/

/-- A write in a memory window of BAR0 (R278, R498). -/
def State.writeMem (s : State) (w : Req) (a : Nat) (v : Word) : State :=
  if 0x2800000 ≤ a ∧ a < 0x3000000 then
    have o := a % 0x80000
    if o < 0x10000 then s.pWrite w ((a - 0x2800000) / 0x80000) (o / 4) v
    else if 0x20000 ≤ o ∧ o < 0x60000 then s.stn a 4 v.toNat
    else s
  else if 0x3000000 ≤ a ∧ a < 0x3400000 then
    have t := s.stn a 4 v.toNat
    { t with sys := { t.sys with stageLen := max t.sys.stageLen (a - stageWindow + 4) } }
  else s.stn a 4 v.toNat

/-- The chopper owns the comparator thresholds of input `c` (R79). -/
def State.chopperOwns (s : State) (c : Nat) : Bool :=
  (upto 8).any (fun n => s.stOn n && (s.windAin n false == c || s.windAin n true == c))

/-- SYS, RST, CLK and PWR. -/
def State.writeAon (s : State) (w : Req) (a base : Nat) (v : Word) : State :=
  if base = SYS.IMG_CTRL then s.imgCtrlWrite w v
  else if base = SYS.PATCH_CTRL then s.patchCtrlWrite w v
  else if base = SYS.HOST_CFG then (if s.isSupv w then s.plainWrite a v else s)
  else if base = SYS.MODE_REQ then s.modeReqWrite w v
  else if base = SYS.MODE_CFG then s.modeCfgWrite w v
  else if base = RST.RST_CTRL then s.rstCtrlWrite w v
  else if base = RST.RST_BLK then s.rstBlkWrite w v
  else if base = CLK.CLK_CMD then s.clkCmdWrite v
  else if base = CLK.CLK_CFG then s.clkCfgWrite v
  else if base = PWR.LAT_TOL then s.latTolWrite w v
  else if base = PWR.LEDGER_CFG then s.ledgerCfgWrite w v
  else s.plainWrite a v

/-- ADC and PWM. -/
def State.writePower (s : State) (w : Req) (a base i j : Nat) (v : Word) : State :=
  if base = ADC.ADC_CTRL then s.adcCtrlWrite v
  else if base = ADC.SYSCAL_CTRL then
    (if bitsOf v 17 16 = 2 ∧ (bit v.toNat 31 ∨ s.standbyWrite w) then s.syscalSave w v
     else if bit v.toNat 31 then s.syscalGo v (bitsOf v 17 16) else s.plainWrite a v)
  else if base = ADC.CAP_CTRL then s.capCtrlWrite v
  else if base = ADC.CH_CFG 0 then s.chCfgWrite i v
  else if base = ADC.CH_COEF 0 then s.chCoefWrite i v
  else if base = ADC.CMP_TH 0 then (if s.chopperOwns i then s else s.plainWrite a v)
  else if base = PWM.PWM_STAT then s.pwmStatWrite v
  else if base = PWM.TRIP_PIN_CFG then s.tripPinCfg v
  else if base = PWM.BLANK_CFG 0 then s.blankCfgWrite i v
  else if base = PWM.GRP_CFG 0 then s.grpCfgWrite i v
  else if base = PWM.GRP_CMD 0 then s.grpCmdWrite i v
  else if base = PWM.DT_CFG 0 0 then s.dtWrite i j v
  else if base = PWM.DUTY_SH 0 0 then s.dutyWrite i j v
  else s.plainWrite a v

/-- BLK, FB, CTL and PRF. -/
def State.writeMotion (s : State) (a base i : Nat) (v : Word) : State :=
  if base = BLK.PORT_CMD 0 then s.portCmdWrite i v
  else if base = BLK.PORT_CFG 0 then s.portCfgWrite i v
  else if base = FB.FB_CFG 0 then s.fbCfgWrite i 0 v
  else if base = FB.SPD_CFG 0 then s.fbCfgWrite i 1 v
  else if base = FB.SPD_CFG2 0 then s.fbCfgWrite i 2 v
  else if base = FB.XCHK_CFG 0 then s.fbCfgWrite i 3 v
  else if base = FB.FB_CMD 0 then s.fbCmdWrite i v
  else if base = FB.CMP_VAL 0 then s.cmpValWrite i v
  else if base = CTL.AX_CTRL 0 then s.axCtrlWrite i v
  else if base = CTL.INJ_CTRL 0 then s.injCtrlWrite i v
  else if base = CTL.CCAP_CTRL then s.ccapCtrlWrite v
  else if a / 0x10000 = 0x50 ∧ isEngineCfg (base % 0x10000 / 4) then s.engineWrite i (base % 0x10000 / 4) v
  else if base = PRF.PG_CMD 0 then s.pgCmdWrite i v
  else if base = PRF.TARGET_LO 0 then s.pgTargetWrite i false v
  else if base = PRF.TARGET_HI 0 then s.pgTargetWrite i true v
  else if base = PRF.V_MAX 0 then s.pgLimitWrite i 0 v
  else if base = PRF.A_MAX 0 then s.pgLimitWrite i 1 v
  else if base = PRF.J_MAX 0 then s.pgLimitWrite i 2 v
  else if base = PRF.JOG_V 0 then s.pgLimitWrite i 3 v
  else if base = PRF.VLIM_LO_LO 0 then s.pgVlimWrite i false false v
  else if base = PRF.VLIM_LO_HI 0 then s.pgVlimWrite i false true v
  else if base = PRF.VLIM_HI_LO 0 then s.pgVlimWrite i true false v
  else if base = PRF.VLIM_HI_HI 0 then s.pgVlimWrite i true true v
  else if base = PRF.ST_CFG 0 then s.stCfgWrite i v
  else s.plainWrite a v

/-- TRJ, FACE and GC. -/
def State.writeCompute (s : State) (w : Req) (a base i : Nat) (v : Word) : State :=
  if base = TRJ.VT_VERDICT then s.vtWrite w 0 v
  else if base = TRJ.VT_SQ 0 then s.vtWrite w (1 + i) v
  else if base = TRJ.VT_SOLVE then s.vtWrite w 9 v
  else if base = TRJ.VT_SEAL then s.vtSealWrite w v
  else if base = TRJ.PLAN_SEL then (s.plainWrite a v).trjSync
  else if base = TRJ.Q_CFG 0 then s.qCfgWrite i v
  else if base = TRJ.PP_CMD 0 then s.ppCmdWrite i v
  else if base = FACE.FACE_CMD then s.faceCmdWrite v
  else if base = GC.GC_CTRL 0 then
    (((s.iff (bit v.toNat 31) (·.coreSoftRst i)).iff (bit v.toNat 30 && !bit v.toNat 31) (·.coreHaltReq i)).iff
      (bit v.toNat 29 && !bit v.toNat 31 && !bit v.toNat 30) (·.coreRun i)).iff
      (bit v.toNat 28 && !bit v.toNat 31 && !bit v.toNat 30 && !bit v.toNat 29) (·.coreStepReq i)
  else if base = GC.GC_PC 0 then s.corePCWrite i v
  else if base = GC.GC_DBG_DATA 0 then s.coreDbgWrite i v
  else if base = GC.GC_WDOG_CFG 0 then s.wdogCfgWrite i v
  else if base = GC.GC_WDOG_KICK 0 then s.wdogKick i v
  else s.plainWrite a v

/-- CHUCK. -/
def State.writeChuck (s : State) (w : Req) (a base i : Nat) (v : Word) : State :=
  if base = CHUCK.CHUCK_CTRL ∨ base = CHUCK.HOST_CREDIT ∨ base = CHUCK.CHUCK_WDOG_CFG then (s.plainWrite a v).chuckSync
  else if base = CHUCK.ENQ_DESC 0 then { s with perReq := s.perReq.set (reqCode w * 2 ^ 32 + a) v.toNat }
  else if base = CHUCK.ENQ_CMD then s.iff (bit v.toNat 0) (·.enqGo w)
  else if base = CHUCK.CORE_DONE 0 then
    (if bit v.toNat 31 then s.coreDone w i (bitsOf v (CHUCK.CORE_DONE'STATUS 0).hi (CHUCK.CORE_DONE'STATUS 0).lo)
      (bit v.toNat (CHUCK.CORE_DONE'RES_VALID 0).lo) (bitsOf v (CHUCK.CORE_DONE'RES_BUF 0).hi (CHUCK.CORE_DONE'RES_BUF 0).lo)
     else s)
  else if base = CHUCK.FLOW_CFG 0 then s.flowCfgWrite i false v
  else if base = CHUCK.FLOW_MASK 0 then s.flowCfgWrite i true v
  else if base = CHUCK.SMW_FLAG 0 then s.flagWrite w i v
  else if base = CHUCK.SMW_PASS then s.rangePass w v
  else if base = CHUCK.SMW_RECLAIM then s.reclaim w (bitsOf v 10 0)
  else s.plainWrite a v

/-- PORT, SRT and TIME. -/
def State.writeLink (s : State) (w : Req) (a base i : Nat) (v : Word) : State :=
  if base = PORT.PORT_CMD 0 then s.doorCmdWrite w i v
  else if a / 0x10000 = 0xD0 ∧ s.standbyWrite w then s.set FYV.PAIR_ERR'STANDBY_WR 1
  else if base = SRT.SRT_CTRL then s.srtCtrlWrite v
  else if base = SRT.RX_CFG 0 then
    (if s.txFrame i then s.iff (bit v.toNat (SRT.TX_CTRL'COMMIT 0).lo) (·.txCommit i) else s.plainWrite a v)
  else if base = SRT.RX_DATA 0 0 then (if s.txFrame i then s.wr a v else s)
  else if base = TIME.SET_NS ∨ base = TIME.SET_SEC_LO ∨ base = TIME.SET_SEC_HI then
    (if s.hostOrSupv w then s.plainWrite a v else s.adjRefused)
  else if base = TIME.STEP_CMD then s.stepCmdWrite w v
  else if base = TIME.TIME_CTRL then s.timeCtrlWrite v
  else if base = TIME.RATE_ADJ then s.rateAdjWrite w v
  else if base = TIME.RATE_MAX then s.rateMaxWrite v
  else if base = TIME.SLEW_NS then s.slewWrite w v
  else s.plainWrite a v

/-- NET, FYV, DIO, NAND, EVT and PERF. -/
def State.writeOuter (s : State) (w : Req) (a base i : Nat) (v : Word) : State :=
  if base = NET.NET_TX_CMD 0 then s.netTxGo w i v
  else if base = NET.NET_RX_RING 0 then s.rxRingWrite i v
  else if base = FYV.IMG_SEND then s.imgSendWrite v
  else if base = DIO.DIO_OUT_SRC then s.outSrcWrite v
  else if base = DIO.DIO_CMP_SEL 0 then s.cmpSelWrite i v
  else if base = DIO.DIO_OVLD_CLR then s.ovldClr v
  else if base = DIO.DIO_GRP_CTRL 0 then s.grpCtrlWrite i v
  else if base = NAND.IMG_WR then s.imgWrWrite w v
  else if base = NAND.RD_CMD then s.rdCmdWrite w v
  else if base = NAND.CR_CMD then s.crCmdWrite w v
  else if a / 0x10000 = 0x130 ∧ s.standbyWrite w then s.set FYV.PAIR_ERR'STANDBY_WR 1
  else if base = EVT.EVT_PEND 0 then s.pendClear i v
  else if base = EVT.EVT_SET then s.doorbell v
  else if base = EVT.EVT_VEC_ACK then s.vecAck v
  else if base = EVT.EVT_LOCK ∨ base = EVT.EVT_HOLDOFF 0 then s.evtGuarded w a v
  else if base = EVT.EVT_ROUTE 0 then s.routeWrite w i v
  else if base = PERF.PERF_CTRL then s.perfCtrlWrite v
  else if base = PERF.HIST_CFG 0 ∧ i ≠ 9 then s.plainWrite a (v &&& 0xFFF0FFFF)
  else s.plainWrite a v

/-- A write of a register by its array and indexes. -/
def State.writeReg (s : State) (w : Req) (a base : Nat) (ix : List Nat) (v : Word) : State :=
  have i := ix.getD 0 0
  have k := a / 0x10000
  if k < 4 then s.writeAon w a base v
  else if k < 0x30 then s.writePower w a base i (ix.getD 1 0) v
  else if k < 0x70 then s.writeMotion a base i v
  else if k < 0xB0 then s.writeCompute w a base i v
  else if k < 0xC0 then s.writeChuck w a base i v
  else if k < 0x100 then s.writeLink w a base i v
  else s.writeOuter w a base i v

/-- A write of the aligned word at offset `a` of BAR0, once the bus has let it through. -/
def State.writeAt (s : State) (w : Req) (a : Nat) (v : Word) : State :=
  if 0x2000000 ≤ a then s.writeMem w a v
  else match rowAt a with
    | some (r, ix) => s.writeReg w a (r.base a) ix v
    | none => s

/-- A 32-bit write by requester `w`. -/
def State.busWrite (s : State) (w : Req) (a : Nat) (v : Word) : State :=
  if w = .host ∧ s.evt.d3 then s.answer .unsupported
  else if s.hostMuted w then s.answer .nothing
  else if reservedAt a || readOnlyWindow a then (s.accError w a true 1).answer .nothing
  else s.regCmd w a (·.writeAt w a v)

/-! ### The commands -/

/-- A write of a register (R6, R7, R9). -/
def execRegisterWrite (w : Req) (a : BitVec 24) (v : BitVec 32) (s : State) : Host.Outcome State Fault Refusal :=
  .next (s.busWrite w (4 * a.toNat) v)

/-- An 8-bit or 16-bit write to register space: discarded, with the access error event (R5). -/
def State.narrowWrite (s : State) (w : Req) (a : Nat) : State :=
  if w = .host ∧ s.evt.d3 then s.answer .unsupported
  else if s.hostMuted w then s.answer .nothing
  else (s.accError w a true 0).answer .nothing

def execNarrowRegisterWrite (w : Req) (a : BitVec 26) (s : State) : Host.Outcome State Fault Refusal :=
  .next (s.narrowWrite w a.toNat)

/-- A 32-bit read of the low word of a pair latches its high word for the requester (R8); other registers are read
plainly, and a narrow read has no side effect (R5). -/
def execCounterLowRead (w : Req) (r : BarRead) (s : State) : Host.Outcome State Fault Refusal :=
  .next (s.busReadPart w (4 * r.a.toNat) r.k r.e)

/-- An access to a reserved range, or a write to a read-only window (R499); nothing at other offsets. -/
def State.unmapped (s : State) (w : Req) (a : Nat) (write : Bool) : State :=
  if w = .host ∧ s.evt.d3 then s.answer .unsupported
  else if write && s.hostMuted w then s.answer .nothing
  else if reservedAt a || (write && readOnlyWindow a) then
    (s.accError w a write 1).answer (if write then .nothing else .data 0)
  else s

def execUnmappedAccess (w : Req) (a : BitVec 24) (write : Bool) (s : State) : Host.Outcome State Fault Refusal :=
  .next (s.unmapped w (4 * a.toNat) write)

/-- An access to a block whose domain is off or in reset (R497); nothing at other offsets. -/
def State.offAccess (s : State) (w : Req) (a : Nat) (write : Bool) : State :=
  if w = .host ∧ s.evt.d3 then s.answer .unsupported
  else if write && s.hostMuted w then s.answer .nothing
  else if reservedAt a || (write && readOnlyWindow a) || s.domOn (domOfAddr a) then s
  else s.domainOff w a write

def execDomainOffAccess (w : Req) (a : BitVec 24) (write : Bool) (s : State) : Host.Outcome State Fault Refusal :=
  .next (s.offAccess w (4 * a.toNat) write)

/-- A read of RET_DATA (R556, R557). -/
def execRetDataRead (w : Req) (bad : Bool) (s : State) : Host.Outcome State Fault Refusal :=
  .next (s.regRead w RST.RET_DATA (·.retRead w bad))

/-- The memory windows of BAR0 that are written here, and the lower retained SRAM (R498, R556). -/
def memWindow (a : Nat) : Bool :=
  decide (0x2000000 ≤ a ∧ a < 0x2400000) || decide (0x2800000 ≤ a ∧ a < 0x3400000) || decide (0x18000 ≤ a ∧ a < 0x20000)

/-- A write into a memory window of BAR0 (R278, R498, R556); nothing at other offsets. -/
def execMemoryWindowWrite (w : Req) (a : BitVec 24) (v : BitVec 32) (s : State) : Host.Outcome State Fault Refusal :=
  .next (if memWindow (4 * a.toNat) then s.busWrite w (4 * a.toNat) v else s)

end Sys2Proof.Machine
end

