-- ==== Sys2Proof/Machine/Issue.lean ====
section
/-!
DEFINITION. What a gouge core does when an instruction issues: fetch, accesses, parallel moves, loops, control flow,
exceptions, tags (spec/12_gouge_cores.md, R276-R309; R516; log entries 27 and 48).
-/
namespace Sys2Proof.Machine
open Sys2Proof

/-! ### Accesses (R276, R277, R303) -/

/-- An access: space as a watchpoint names it (0 X, 1 Y, 2 P data), word address, direction. -/
structure CAcc where
  sp : Nat
  addr : Nat
  write : Bool
  deriving DecidableEq, Repr, Inhabited

/-- The local memory of a space: 0 P, 1 X, 2 Y. -/
def memOf (sp : Nat) : Nat := (sp + 1) % 3

/-- Where an X address leads (R276): 0 local, 1 SMW, 2 BAR0, 3 nowhere. -/
def xKind (a : Nat) : Nat :=
  if a < 0x8000 then 0 else if 0x100000 ≤ a ∧ a < 0x300000 then 1 else if 0x1000000 ≤ a ∧ a < 0x2000000 then 2 else 3

/-- The access goes to the core's own memory. -/
def CAcc.isLocal (x : CAcc) : Bool := x.sp != 0 || xKind x.addr == 0

/-- The access leaves the core. -/
def CAcc.external (x : CAcc) : Bool := !x.isLocal

/-- The offset in BAR0 of an X address. -/
def barOf (a : Nat) : Nat := 4 * (a - 0x1000000)

/-- The access raises the address-error exception (R276, R303, R517). -/
def State.accBad (s : State) (n : Nat) (x : CAcc) : Bool :=
  match x.sp with
  | 0 =>
    xKind x.addr == 3 || (xKind x.addr == 2 && !srGet (s.core n).sr srPRIV &&
      !(barOf x.addr / 0x10000 == 0x150 && !x.write && s.b PERF.PERF_CTRL'PERF_USER))
  | 1 => decide (0x8000 ≤ x.addr)
  | _ => decide (0x4100 ≤ x.addr)

/-- Buffer `b` begins a result set: one that has been written, a set of the ring or of class B, the set of the present job
(R270-R273). -/
def State.isHdr (s : State) (b : Nat) : Bool :=
  s.face.hdrs.contains b ||
    (decide (0 < s.cfg.face.n) && (upto (s.f FACE.FACE_CTRL'S_RES_N_M1 + 1)).any (fun i => s.f FACE.S_RES_BASE'BASE + i * s.f FACE.FACE_SIZE'S_SET_BUFS == b)) ||
    (!s.cfg.face.slots.isEmpty && s.f FACE.B_RES_CFG'B_RES_BASE == b) || (s.face.s.st != 0 && s.face.s.resBuf == b)

/-- One byte of the shared memory window as it reads: READY of a result set that DEVICE or FACE owns reads 0 (R272). -/
def State.smwByte (s : State) (b o : Nat) : Nat :=
  if o = 3 ∧ s.isHdr b ∧ (s.owner b = ownDEVICE ∨ s.owner b = ownFACE) then s.ldb (smwAt b + o) % 128
  else s.ldb (smwAt b + o)

/-- A 32-bit read in the shared memory window. -/
def State.smwRead (s : State) (b o : Nat) : State :=
  s.answer (.data (s.smwByte b o + 256 * s.smwByte b (o + 1) + 65536 * s.smwByte b (o + 2) + 2 ^ 24 * s.smwByte b (o + 3)))

/-- The answer is an error response (R277). -/
def Answer.isError (r : Answer) : Bool :=
  match r with | .data _ => false | .nothing => false | _ => true

/-- A P word as a data read or a fetch gives it. -/
def State.pWord (s : State) (n a : Nat) : Nat :=
  if a < 0x4000 then s.ldn (coreMem n 0 + 4 * a) 4 else (Config.bootRom (a - 0x4000)).toNat

/-- What ECC finds in the word that an external read reaches (R309, R316): the fourth value of `Ecc`'s operand. -/
def eccExt (e : Ecc) : WinEcc :=
  match e with | .corrected m => if m = 3 then .corrected else .good | .double m => if m = 3 then .double else .good | .none => .good

/-- A read: its value, whether it was answered with an error, and the state it leaves. -/
def State.coreRead (s : State) (n : Fin 16) (x : CAcc) (e : WinEcc) : Nat × Bool × State :=
  if x.sp = 2 then (s.pWord n x.addr, false, s)
  else if x.isLocal then (s.ldn (coreMem n (memOf x.sp) + 4 * x.addr) 4, false, s)
  else
    have t := if xKind x.addr = 1 then
        s.smwCmd (.core n) false (fun t => (t.smwRead ((x.addr - 0x100000) / 1024) ((x.addr - 0x100000) % 1024 * 4)).winEcc (.core n) 0x4000000 e)
      else s.busRead (.core n) (barOf x.addr) e
    match t.resp with
    | .data v => (v, false, t)
    | _ => (0, true, t)

/-- A write. -/
def State.coreWrite (s : State) (n : Fin 16) (x : CAcc) (v : Word) : State :=
  if x.isLocal then s.stn (coreMem n (memOf x.sp) + 4 * x.addr) 4 v.toNat
  else if xKind x.addr = 1 then
    s.smwCmd (.core n) true (·.smwWrite (.core n) ((x.addr - 0x100000) / 1024) ((x.addr - 0x100000) % 1024 * 4) (toLE 4 v.toNat))
  else s.busWrite (.core n) (barOf x.addr) v

/-- A write is answered with an error. -/
def State.writeFails (s : State) (n : Fin 16) (x : CAcc) (v : Word) : Bool := x.external && (s.coreWrite n x v).resp.isError

/-- Accesses of the instruction at `pc` that watchpoints see: the first match stands until the core stops for it (R308). -/
def State.watch (s : State) (n pc : Nat) (l : List CAcc) : State :=
  s.each l fun x t =>
    have k := t.wpMatch n x.sp x.addr x.write
    if k ≠ 0 ∧ (t.core n).wp = 0 then t.setCore n { t.core n with wp := k, wpPc := pc } else t

/-! ### What an instruction comes to -/

/-- Where control goes. -/
inductive CNext
  | next                       -- the instruction after it, or the loop's first
  | jump (a : Nat)             -- a taken branch or jump
  | call (a : Nat)
  | skip (a : Nat)             -- past the body of a loop with count 0
  | ret (e : StackEnt)         -- RTS or RTI: the entry has been popped
  | trap (code : Nat)
  | halt
  | wait
  | lexit
  deriving DecidableEq, Repr

/-- An instruction that completes, with the stores still to be made; or one that raises vector `v` with EXC `code` and has
no effect but what its external accesses did. -/
inductive CRes
  | done (s : State) (go : CNext) (stores : List (CAcc × Word)) (acc : List CAcc)
  | exc (s : State) (v code : Nat)

/-- Instruction `pc` of the core is suppressed by SKIP of an active loop whose body holds it (R288). -/
def GCore.suppressed (c : GCore) (pc : Nat) : Bool :=
  c.loops.any fun l => decide (l.top ≤ pc ∧ pc ≤ l.bot ∧ l.iter < l.skip) && l.depth == c.depth

/-! ### Arithmetic with parallel moves (R280, R288, R297-R299) -/

/-- The operation has a g destination. -/
def gDest (op : Nat) : Bool := op != 0 && !accOp op && op != 0x22 && op != 0x23

/-- The moves of an instruction with their spaces. -/
def CArith.moves (k : CArith) : List (Nat × CMove) := (k.x.toList.map (fun m => (0, m))) ++ (k.y.toList.map (fun m => (1, m)))

def GCore.moveAcc (c : GCore) (m : Nat × CMove) : CAcc := ⟨m.1, (c.i.get m.2.ptr).toNat, m.2.store⟩

/-- What is left of an ECC finding after an access: the first external read takes it. -/
def CAcc.eccLeft (x : CAcc) (e : WinEcc) : WinEcc := if x.external then .good else e

/-- Reads of a list of accesses, one after the other. -/
def State.coreReads (s : State) (n : Fin 16) (e : WinEcc) : List CAcc → List Nat × Bool × State
  | [] => ([], false, s)
  | x :: t =>
    have r := s.coreRead n x e
    if r.2.1 then ([], true, r.2.2)
    else
      have q := r.2.2.coreReads n (x.eccLeft e) t
      (r.1 :: q.1, q.2.1, q.2.2)

def GCore.aluIn (c : GCore) (rb : Nat) (k : CArith) : AluIn :=
  { a := c.rg rb (k.a % 32), b := c.rg rb (k.b % 32), a' := c.rg rb (k.a % 32 ^^^ 1), b' := c.rg rb (k.b % 32 ^^^ 1), imm := k.b,
    d := k.d, sa := k.a, acc := c.ra, sr := c.sr }

/-- The results of an operation. -/
def GCore.aluApply (c : GCore) (rb d : Nat) (o : AluOut) : GCore :=
  have c := { c with sr := o.sr }
  have c := match o.g with | some v => c.wg rb d v | none => c
  o.accs.foldl (fun c p => c.wa p.1 p.2) c

def State.doArith (s : State) (n : Fin 16) (k : CArith) (supp : Bool) (e : WinEcc) : CRes :=
  have c := s.core n
  have rb := s.coreRB n
  have ms := k.moves
  have lds := ms.filter (fun m => !m.2.store)
  have sts := if supp then [] else ms.filter (fun m => m.2.store)
  have stw := sts.map (fun m => (c.moveAcc m, c.rg rb m.2.reg))
  if lds.any (fun m => gDest k.op && m.2.reg == k.d) || ms.any (fun m => c.modIllegal m.2.ptr m.2.md) then .exc s 1 0
  else if (lds ++ sts).any (fun m => s.accBad n (c.moveAcc m)) then .exc s 3 0
  else
    have r := s.coreReads n e (lds.map c.moveAcc)
    if r.2.1 then .exc r.2.2 4 0
    else match stw.find? (fun w => r.2.2.writeFails n w.1 w.2) with
    | some w => .exc (r.2.2.coreWrite n w.1 w.2) 4 0
    | none =>
      have c1 := if supp then c else c.aluApply rb k.d (aluOf k.op (c.aluIn rb k))
      have c2 := (lds.zip r.1).foldl (fun c m => c.wg rb m.1.2.reg (w32 m.2)) c1
      have c3 := ms.foldl (fun c m => c.advance m.2.ptr m.2.md) c2
      .done (r.2.2.setCore n c3) .next stw ((lds ++ sts).map c.moveAcc)

/-! ### Class L (R300) -/

/-- A register write by an instruction (R303). -/
def State.regWrite (s : State) (n : Fin 16) (rn sub : Nat) (v : Word) : CRes :=
  if privReg rn sub && !srGet (s.core n).sr srPRIV then .exc s 1 0 else .done (s.setCoreReg n rn sub v) .next [] []

def State.doLdi (s : State) (n : Fin 16) (rn sub imm : Nat) : CRes := s.regWrite n rn sub (BitVec.ofInt 32 (sxN 16 imm))
def State.doLdih (s : State) (n : Fin 16) (rn sub imm : Nat) : CRes :=
  s.regWrite n rn sub (w32 (imm % 65536 * 65536 + (s.coreReg n rn sub).toNat % 65536))
def State.doMovc (s : State) (n : Fin 16) (rn sub srn ssub : Nat) : CRes := s.regWrite n rn sub (s.coreReg n srn ssub)

/-- A load into a g register, or a store of one, with no modification or with one. -/
def State.doAccess (s : State) (n : Fin 16) (g : Nat) (x : CAcc) (supp : Bool) (e : WinEcc) (upd : GCore → GCore) : CRes :=
  have c := s.core n
  have rb := s.coreRB n
  if x.write && supp then .done (s.setCore n (upd c)) .next [] []
  else if s.accBad n x then .exc s 3 0
  else if x.write then
    (if s.writeFails n x (c.rg rb g) then .exc (s.coreWrite n x (c.rg rb g)) 4 0
     else .done (s.setCore n (upd c)) .next [(x, c.rg rb g)] [x])
  else
    have r := s.coreRead n x e
    if r.2.1 then .exc r.2.2 4 0 else .done (r.2.2.setCore n (upd (c.wg rb g (w32 r.1)))) .next [] [x]

def State.doLdx (s : State) (n : Fin 16) (g : Nat) (store : Bool) (ptr : Nat) (y : Bool) (disp : Int) (supp : Bool) (e : WinEcc) : CRes :=
  s.doAccess n g ⟨y.toNat, uN 32 (((s.core n).i.get ptr).toNat + disp), store⟩ supp e id

def State.doLdp (s : State) (n : Fin 16) (g ptr md : Nat) : CRes :=
  if (s.core n).modIllegal ptr md then .exc s 1 0
  else s.doAccess n g ⟨2, ((s.core n).i.get ptr).toNat, false⟩ false .good (·.advance ptr md)

/-! ### Class C (R286, R301) -/

/-- The top entry of the call stack and the core without it. -/
def GCore.pop (c : GCore) : Option (StackEnt × GCore) :=
  match c.reserve with
  | some e => some (e, { c with reserve := none })
  | none =>
    match c.stack with
    | e :: t => some (e, { c with stack := t })
    | [] => none

def State.doCall (s : State) (n : Fin 16) (cond target : Nat) : CRes :=
  have c := s.core n
  if !condHolds c.sr cond then .done s .next [] []
  else if 16 ≤ c.stack.length then .exc s 2 1
  else .done s (.call target) [] []

/-- RTS: on an empty stack the address is free (log entry 27). -/
def State.doRts (s : State) (n : Fin 16) : CRes :=
  match (s.core n).pop with
  | some (e, c) => .done (s.setCore n c) (.ret e) [] []
  | none =>
    have q := s.fresh 15
    .done q.2 (.ret { (default : StackEnt) with pc := q.1 }) [] []

/-- RTI: SR, the loop state and PC; an entry of CALL holds no SR: it is free (log entry 27). -/
def State.doRti (s : State) (n : Fin 16) : CRes :=
  match (s.core n).pop with
  | some (e, c) =>
    if e.full then .done (s.setCore n { c with sr := e.sr, loops := e.loops, idle := e.idle }) (.ret e) [] []
    else
      have q := s.fresh 32
      .done (q.2.setCore n { c with sr := srMask (w32 q.1) }) (.ret e) [] []
  | none =>
    have p := s.fresh 15
    have q := p.2.fresh 32
    .done (q.2.setCore n { s.core n with sr := srMask (w32 q.1) }) (.ret { (default : StackEnt) with pc := p.1 }) [] []

/-- LOOPI and LOOPG (R286). -/
def State.doLoop (s : State) (n : Fin 16) (rot : Bool) (skip len count : Nat) : CRes :=
  have c := s.core n
  have pc := s.corePC n
  if 2 ≤ c.loops.length then .exc s 2 2
  else if count = 0 then .done s (.skip (pc + len + 1)) [] []
  else
    have l : LoopLvl := { cnt := count, top := (pc + 1) % 2 ^ 15, bot := (pc + len) % 2 ^ 15, rot := rot, skip := skip, iter := 0,
                          depth := c.depth, cached := false, noCache := false }
    .done (s.setCore n { c with loops := l :: c.loops }) .next [] []

def State.doJmpr (s : State) (n : Fin 16) (g : Nat) : CRes :=
  have a := ((s.core n).rg (s.coreRB n) g).toNat
  if 2 ^ 15 ≤ a then .exc s 3 0 else .done s (.jump a) [] []

/-! ### Class B (R295, R302) -/

/-- BXV over `k` words: the smallest NORM so far, the accesses made. -/
def State.bxvRun (s : State) (n : Fin 16) (e : WinEcc) (ptr md sp : Nat) (m : Nat) (l : List CAcc) : Nat → GCore → Nat × List CAcc × GCore × Nat × State
  | 0, c => (m, l, c, 0, s)
  | k + 1, c =>
    have x : CAcc := ⟨sp, (c.i.get ptr).toNat, false⟩
    if s.accBad n x then (m, l, c, 3, s)
    else
      have r := s.coreRead n x e
      if r.2.1 then (m, l, c, 4, r.2.2)
      else r.2.2.bxvRun n (x.eccLeft e) ptr md sp (min m (normCount (w32 r.1))) (l ++ [x]) k (c.advance ptr md)

def State.doBxv (s : State) (n : Fin 16) (g ptr : Nat) (y : Bool) (md count : Nat) (e : WinEcc) : CRes :=
  have c := s.core n
  if c.modIllegal ptr md then .exc s 1 0
  else
    have r := s.bxvRun n e ptr md y.toNat 31 [] count c
    if r.2.2.2.1 ≠ 0 then .exc r.2.2.2.2 r.2.2.2.1 0
    else
      have c' := r.2.2.1.wg (s.coreRB n) g (w32 r.1)
      .done (r.2.2.2.2.setCore n { c' with sr := srZN c'.sr (w32 r.1) }) .next [] r.2.1

/-! ### One instruction -/

/-- What a decoded instruction does before its stores and before PC moves. -/
def State.perform (s : State) (n : Fin 16) (supp : Bool) (e : WinEcc) (ins : CIns) : CRes :=
  match ins with
  | .arith k => s.doArith n k supp e
  | .ldi rn sub imm => s.doLdi n rn sub imm
  | .ldih rn sub imm => s.doLdih n rn sub imm
  | .movc rn sub srn ssub => s.doMovc n rn sub srn ssub
  | .ldx g store ptr y disp => s.doLdx n g store ptr y disp supp e
  | .ldp g ptr md => s.doLdp n g ptr md
  | .bra cond target => .done s (if condHolds (s.core n).sr cond then .jump target else .next) [] []
  | .call cond target => s.doCall n cond target
  | .rts => s.doRts n
  | .rti => s.doRti n
  | .loopi rot skip len count => s.doLoop n rot skip len count
  | .loopg rot skip len g => s.doLoop n rot skip len ((s.core n).rg (s.coreRB n) g).toNat
  | .jmpr g => s.doJmpr n g
  | .trap code => .done s (.trap code) [] []
  | .lexit => .done s .lexit [] []
  | .bxv g ptr y md count => s.doBxv n g ptr y md count e
  | .wait => .done s .wait [] []
  | .halt => .done s .halt [] []
  | .sync => .done s .next [] []
  | .nopB => .done s .next [] []

/-- The end of an iteration at `pc`, for the innermost loop and, where it ends there too, the next (R287, R289): the loops
that stay, RB, and the address at which the program continues. -/
def loopEnd (pc depth : Nat) : List LoopLvl → Nat → List LoopLvl × Nat × Nat
  | [], rb => ([], rb, (pc + 1) % 2 ^ 15)
  | l :: t, rb =>
    if l.bot = pc ∧ l.depth = depth then
      have rb' := if l.rot then (rb + 15) % 16 else rb
      if 1 < l.cnt then
        ({ l with cnt := l.cnt - 1, iter := l.iter + 1, cached := !l.noCache && (l.cached || (l.iter == 0 && decide (l.bot + 1 - l.top ≤ 64))) } :: t,
          rb', l.top)
      else loopEnd pc depth t rb'
    else (l :: t, rb, (pc + 1) % 2 ^ 15)

/-- A taken branch or jump out of the innermost body ends that loop, at the loop's call depth (R287). -/
def leaveLoop (depth target : Nat) : List LoopLvl → List LoopLvl
  | [] => []
  | l :: t => if l.depth = depth ∧ !(decide (l.top ≤ target) && decide (target ≤ l.bot)) then t else l :: t

/-- LEXIT: the innermost loop's present iteration is its last. -/
def lastIter (pc depth : Nat) : List LoopLvl → List LoopLvl
  | [] => []
  | l :: t => if l.bot = pc ∧ l.depth = depth then { l with cnt := 1 } :: t else t

/-- Control moves on after the instruction at `pc`, issued at call depth `depth`. -/
def State.coreMove (s : State) (n : Fin 16) (pc depth : Nat) (go : CNext) : State :=
  have c := s.core n
  have ls := match go with | .lexit => lastIter pc depth c.loops | _ => c.loops
  have r : List LoopLvl × Nat × Nat := match go with | .ret _ => (ls, s.coreRB n, 0) | _ => loopEnd pc depth ls (s.coreRB n)
  have t := (s.setCore n { c with loops := r.1 }).set (GC.GC_STAT'RB n) r.2.1
  have c := t.core n
  have nx := r.2.2
  match go with
  | .next => t.setPC n nx
  | .lexit => t.setPC n nx
  | .jump a => (t.setCore n { c with loops := leaveLoop depth a c.loops }).setPC n a
  | .skip a => t.setPC n (a % 2 ^ 15)
  | .call a => (t.setCore n { c with stack := { (default : StackEnt) with pc := nx } :: c.stack }).setPC n a
  | .ret e => (if e.full then t else t.setCore n { c with loops := leaveLoop depth e.pc c.loops }).setPC n e.pc
  | .trap code => (t.setPC n nx).coreExc n 6 code pc nx
  | .halt => (t.setPC n nx).coreHalt n 5
  | .wait =>
    have t := t.setPC n nx
    if (t.nextInt n).isSome then t else t.coreGo n gsWAITING 0

/-- The word at PC; none where nothing can be fetched (R276). -/
def State.fetchWord (s : State) (n : Nat) : Option Nat := if s.corePC n < 0x4100 then some (s.pWord n (s.corePC n)) else none

/-- The instruction at PC. -/
def State.insAt (s : State) (n : Nat) : Option CIns := (s.fetchWord n).bind decodeCore

/-- The instruction at PC is fetched from P memory, not from the loop cache. -/
def State.fetchesP (s : State) (n : Nat) : Bool :=
  decide (s.corePC n < 0x4000) && !(match (s.core n).loops with
    | l :: _ => l.cached && decide (l.top ≤ s.corePC n ∧ s.corePC n ≤ l.bot)
    | [] => false)

/-- The accesses read a word of local memory `m` (0 P, 1 X, 2 Y). -/
def readsMem (m : Nat) (l : List CAcc) : Bool := l.any fun x => !x.write && x.isLocal && memOf x.sp == m && decide (x.addr < 0x8000)

/-- Issues are tagged (R516): one out of every TAG_MIN + (LFSR & (2^RANGE − 1)). The clocks are free values. -/
def State.tagStep (s : State) (n : Nat) (supp aborted : Bool) : State :=
  if !s.b (PERF.TAG_CFG'EN n) then s
  else
    have c := s.core n
    have k := s.f (PERF.TAG_CFG'TAG_MIN n) + c.lfsr % 2 ^ s.f (PERF.TAG_CFG'RANGE n)
    have left := if c.tagCnt = 0 then k else c.tagCnt
    if 1 < left then s.setCore n { c with tagCnt := left - 1 }
    else
      have fb := (c.lfsr + c.lfsr / 4 + c.lfsr / 8 + c.lfsr / 32) % 2
      have c := { c with tagCnt := 0, lfsr := c.lfsr / 2 + 32768 * fb }
      if c.tag.isSome then (s.setCore n c).sat (PERF.TAG_PC'TAG_LOST n)
      else
        have q := s.fresh 32
        have q2 := q.2.fresh 32
        have q3 := q2.2.fresh 24
        q3.2.setCore n { c with tag := some { pc := s.corePC n, t := q.1, d := q2.1, d2 := q3.1, aborted := aborted, supp := supp } }

/-- An exception at the instruction: the core's registers are as before it. -/
def State.issueExc (s t : State) (n : Fin 16) (v code : Nat) : State :=
  have u := (t.setCore n { s.core n with wp := 0 }).set (GC.GC_STAT'RB n) (s.coreRB n)
  (u.tagStep n false true).coreExc n v code (s.corePC n) (s.corePC n)

/-- The access goes to a P memory through its window, where PC decides (R278). -/
def CAcc.toP (x : CAcc) : Bool :=
  x.sp == 0 && xKind x.addr == 2 && (match coreWinMem (barOf x.addr) with | some (_, m) => m == 0 | none => false)

/-- A decoded instruction issues. A store to P memory is made while PC still names the instruction, any other after PC has moved
on (log entry 48). -/
def State.issueIns (s : State) (n : Fin 16) (e : Ecc) (ins : CIns) : State :=
  have pc := s.corePC n
  have depth := (s.core n).depth
  have supp := (s.core n).suppressed pc
  match s.perform n supp (eccExt e) ins with
  | .exc t v code => s.issueExc t n v code
  | .done t go sts acc =>
    have p := fun (m : Nat) => readsMem m acc || (m == 0 && s.fetchesP n)
    have dbl : Option Nat := match e with | .double m => if p m then some m.val else none | _ => none
    match dbl with
    | some m => s.issueExc (t.eccNote n m true) n 5 0
    | none =>
      have t := match e with | .corrected m => t.iff (p m) (·.eccNote n m false) | _ => t
      have t := t.tagStep n supp false
      have t := t.each (sts.filter (fun w => w.1.toP)) fun w u => u.coreWrite n w.1 w.2
      have t := (t.coreMove n pc depth go).coreShow n
      have t := t.watch n pc acc
      t.each (sts.filter (fun w => !w.1.toP)) fun w u => u.coreWrite n w.1 w.2

/-- The core halts after a STEP (R308); a watchpoint that matched stops it in its own way first. -/
def State.stepEnd (s : State) (n : Nat) : State :=
  if !(s.core n).stepping then s
  else
    have t := if (s.core n).wp ≠ 0 then s.debugStop n else s
    if t.coreSt n = gsRUNNING ∨ t.coreSt n = gsWAITING then t.coreHalt n 2 else t

/-- The word at PC issues. -/
def State.issue (s : State) (n : Fin 16) (e : Ecc) : State :=
  have s := s.work 13
  have t := match s.fetchWord n with
    | none => s.issueExc s n 3 0
    | some w =>
      if s.fetchesP n ∧ e = Ecc.double 0 then s.issueExc (s.eccNote n 0 true) n 5 0
      else match decodeCore w with
        | none => s.issueExc s n 1 0
        | some ins => s.issueIns n e ins
  t.stepEnd n

/-- Core `n` issues: it runs with its clock, and no breakpoint or watchpoint holds it (R308, R561). -/
def State.canIssue (s : State) (n : Nat) : Bool :=
  s.domOn (pdGC (n / 4)) && s.clockRuns (pdGC (n / 4)) && s.coreSt n == gsRUNNING && (s.core n).wp == 0 && s.bpMatch n == 0

/-- The instruction at the PC of core `n` issues if it is one of those that `p` names (log entry 27). -/
def State.coreRow (s : State) (n : Fin 16) (e : Ecc) (p : CIns → Bool) : State :=
  match s.insAt n with
  | some i => if p i && s.canIssue n then s.issue n e else s
  | none => s

/-- An arithmetic instruction with A1 code `op`. -/
def isOp (op : Nat) (i : CIns) : Bool := match i with | .arith k => k.op == op | _ => false

/-! ### The instructions -/

/-- NOP (R299). -/
def execNop (n : Fin 16) (e : Ecc) (s : State) : Host.Outcome State Fault Refusal := .next (s.coreRow n e (isOp 0x0))

/-- MPY (R299). -/
def execMpy (n : Fin 16) (e : Ecc) (s : State) : Host.Outcome State Fault Refusal := .next (s.coreRow n e (isOp 0x1))

/-- MAC (R299). -/
def execMac (n : Fin 16) (e : Ecc) (s : State) : Host.Outcome State Fault Refusal := .next (s.coreRow n e (isOp 0x2))

/-- MSU (R299). -/
def execMsu (n : Fin 16) (e : Ecc) (s : State) : Host.Outcome State Fault Refusal := .next (s.coreRow n e (isOp 0x3))

/-- MPYI (R299). -/
def execMpyi (n : Fin 16) (e : Ecc) (s : State) : Host.Outcome State Fault Refusal := .next (s.coreRow n e (isOp 0x4))

/-- MACI (R299). -/
def execMaci (n : Fin 16) (e : Ecc) (s : State) : Host.Outcome State Fault Refusal := .next (s.coreRow n e (isOp 0x5))

/-- MSUI (R299). -/
def execMsui (n : Fin 16) (e : Ecc) (s : State) : Host.Outcome State Fault Refusal := .next (s.coreRow n e (isOp 0x6))

/-- MAC2 (R299). -/
def execMac2 (n : Fin 16) (e : Ecc) (s : State) : Host.Outcome State Fault Refusal := .next (s.coreRow n e (isOp 0x7))

/-- MAC2I (R299). -/
def execMac2i (n : Fin 16) (e : Ecc) (s : State) : Host.Outcome State Fault Refusal := .next (s.coreRow n e (isOp 0x8))

/-- DMPY (R299). -/
def execDmpy (n : Fin 16) (e : Ecc) (s : State) : Host.Outcome State Fault Refusal := .next (s.coreRow n e (isOp 0x9))

/-- DMAC (R299). -/
def execDmac (n : Fin 16) (e : Ecc) (s : State) : Host.Outcome State Fault Refusal := .next (s.coreRow n e (isOp 0xa))

/-- DMAC2 (R299). -/
def execDmac2 (n : Fin 16) (e : Ecc) (s : State) : Host.Outcome State Fault Refusal := .next (s.coreRow n e (isOp 0xb))

/-- ADDA (R299). -/
def execAdda (n : Fin 16) (e : Ecc) (s : State) : Host.Outcome State Fault Refusal := .next (s.coreRow n e (isOp 0xc))

/-- SUBA (R299). -/
def execSuba (n : Fin 16) (e : Ecc) (s : State) : Host.Outcome State Fault Refusal := .next (s.coreRow n e (isOp 0xd))

/-- CLRA (R299). -/
def execClra (n : Fin 16) (e : Ecc) (s : State) : Host.Outcome State Fault Refusal := .next (s.coreRow n e (isOp 0xe))

/-- ADD (R299). -/
def execAdd (n : Fin 16) (e : Ecc) (s : State) : Host.Outcome State Fault Refusal := .next (s.coreRow n e (isOp 0x10))

/-- SUB (R299). -/
def execSub (n : Fin 16) (e : Ecc) (s : State) : Host.Outcome State Fault Refusal := .next (s.coreRow n e (isOp 0x11))

/-- ADDS (R299). -/
def execAdds (n : Fin 16) (e : Ecc) (s : State) : Host.Outcome State Fault Refusal := .next (s.coreRow n e (isOp 0x12))

/-- SUBS (R299). -/
def execSubs (n : Fin 16) (e : Ecc) (s : State) : Host.Outcome State Fault Refusal := .next (s.coreRow n e (isOp 0x13))

/-- AND (R299). -/
def execAnd (n : Fin 16) (e : Ecc) (s : State) : Host.Outcome State Fault Refusal := .next (s.coreRow n e (isOp 0x14))

/-- OR (R299). -/
def execOr (n : Fin 16) (e : Ecc) (s : State) : Host.Outcome State Fault Refusal := .next (s.coreRow n e (isOp 0x15))

/-- XOR (R299). -/
def execXor (n : Fin 16) (e : Ecc) (s : State) : Host.Outcome State Fault Refusal := .next (s.coreRow n e (isOp 0x16))

/-- ANDN (R299). -/
def execAndn (n : Fin 16) (e : Ecc) (s : State) : Host.Outcome State Fault Refusal := .next (s.coreRow n e (isOp 0x17))

/-- ASL (R299). -/
def execAsl (n : Fin 16) (e : Ecc) (s : State) : Host.Outcome State Fault Refusal := .next (s.coreRow n e (isOp 0x18))

/-- ASR (R299). -/
def execAsr (n : Fin 16) (e : Ecc) (s : State) : Host.Outcome State Fault Refusal := .next (s.coreRow n e (isOp 0x19))

/-- LSR (R299). -/
def execLsr (n : Fin 16) (e : Ecc) (s : State) : Host.Outcome State Fault Refusal := .next (s.coreRow n e (isOp 0x1a))

/-- ASLS (R299). -/
def execAsls (n : Fin 16) (e : Ecc) (s : State) : Host.Outcome State Fault Refusal := .next (s.coreRow n e (isOp 0x1b))

/-- MULR (R299). -/
def execMulr (n : Fin 16) (e : Ecc) (s : State) : Host.Outcome State Fault Refusal := .next (s.coreRow n e (isOp 0x1c))

/-- MULI (R299). -/
def execMuli (n : Fin 16) (e : Ecc) (s : State) : Host.Outcome State Fault Refusal := .next (s.coreRow n e (isOp 0x1d))

/-- MIN (R299). -/
def execMin (n : Fin 16) (e : Ecc) (s : State) : Host.Outcome State Fault Refusal := .next (s.coreRow n e (isOp 0x1e))

/-- MAX (R299). -/
def execMax (n : Fin 16) (e : Ecc) (s : State) : Host.Outcome State Fault Refusal := .next (s.coreRow n e (isOp 0x1f))

/-- ABS (R299). -/
def execAbs (n : Fin 16) (e : Ecc) (s : State) : Host.Outcome State Fault Refusal := .next (s.coreRow n e (isOp 0x20))

/-- NEG (R299). -/
def execNeg (n : Fin 16) (e : Ecc) (s : State) : Host.Outcome State Fault Refusal := .next (s.coreRow n e (isOp 0x21))

/-- CMP (R299). -/
def execCmp (n : Fin 16) (e : Ecc) (s : State) : Host.Outcome State Fault Refusal := .next (s.coreRow n e (isOp 0x22))

/-- CMPI (R299). -/
def execCmpi (n : Fin 16) (e : Ecc) (s : State) : Host.Outcome State Fault Refusal := .next (s.coreRow n e (isOp 0x23))

/-- EXT (R299). -/
def execExt (n : Fin 16) (e : Ecc) (s : State) : Host.Outcome State Fault Refusal := .next (s.coreRow n e (isOp 0x24))

/-- EXTI (R299). -/
def execExti (n : Fin 16) (e : Ecc) (s : State) : Host.Outcome State Fault Refusal := .next (s.coreRow n e (isOp 0x25))

/-- EXTD (R299). -/
def execExtd (n : Fin 16) (e : Ecc) (s : State) : Host.Outcome State Fault Refusal := .next (s.coreRow n e (isOp 0x26))

/-- NORM (R299). -/
def execNorm (n : Fin 16) (e : Ecc) (s : State) : Host.Outcome State Fault Refusal := .next (s.coreRow n e (isOp 0x27))

/-- ASRA (R299). -/
def execAsra (n : Fin 16) (e : Ecc) (s : State) : Host.Outcome State Fault Refusal := .next (s.coreRow n e (isOp 0x28))

/-- ASLA (R299). -/
def execAsla (n : Fin 16) (e : Ecc) (s : State) : Host.Outcome State Fault Refusal := .next (s.coreRow n e (isOp 0x29))

/-- ADDAA (R299). -/
def execAddaa (n : Fin 16) (e : Ecc) (s : State) : Host.Outcome State Fault Refusal := .next (s.coreRow n e (isOp 0x2a))

/-- LDA (R299). -/
def execLda (n : Fin 16) (e : Ecc) (s : State) : Host.Outcome State Fault Refusal := .next (s.coreRow n e (isOp 0x2b))

/-- LDI (R300). -/
def execLdi (n : Fin 16) (e : Ecc) (s : State) : Host.Outcome State Fault Refusal :=
  .next (s.coreRow n e (fun i => match i with | .ldi _ _ _ => true | _ => false))

/-- LDIH (R300). -/
def execLdih (n : Fin 16) (e : Ecc) (s : State) : Host.Outcome State Fault Refusal :=
  .next (s.coreRow n e (fun i => match i with | .ldih _ _ _ => true | _ => false))

/-- MOVC (R300). -/
def execMovc (n : Fin 16) (e : Ecc) (s : State) : Host.Outcome State Fault Refusal :=
  .next (s.coreRow n e (fun i => match i with | .movc _ _ _ _ => true | _ => false))

/-- LDX (R300). -/
def execLdx (n : Fin 16) (e : Ecc) (s : State) : Host.Outcome State Fault Refusal :=
  .next (s.coreRow n e (fun i => match i with | .ldx _ _ _ _ _ => true | _ => false))

/-- LDP (R300). -/
def execLdp (n : Fin 16) (e : Ecc) (s : State) : Host.Outcome State Fault Refusal :=
  .next (s.coreRow n e (fun i => match i with | .ldp _ _ _ => true | _ => false))

/-- BRA (R301). -/
def execBra (n : Fin 16) (e : Ecc) (s : State) : Host.Outcome State Fault Refusal :=
  .next (s.coreRow n e (fun i => match i with | .bra _ _ => true | _ => false))

/-- CALL (R301). -/
def execCall (n : Fin 16) (e : Ecc) (s : State) : Host.Outcome State Fault Refusal :=
  .next (s.coreRow n e (fun i => match i with | .call _ _ => true | _ => false))

/-- RTS (R301). -/
def execRts (n : Fin 16) (e : Ecc) (s : State) : Host.Outcome State Fault Refusal :=
  .next (s.coreRow n e (fun i => match i with | .rts => true | _ => false))

/-- RTI (R301). -/
def execRti (n : Fin 16) (e : Ecc) (s : State) : Host.Outcome State Fault Refusal :=
  .next (s.coreRow n e (fun i => match i with | .rti => true | _ => false))

/-- LOOPI (R286). -/
def execLoopi (n : Fin 16) (e : Ecc) (s : State) : Host.Outcome State Fault Refusal :=
  .next (s.coreRow n e (fun i => match i with | .loopi _ _ _ _ => true | _ => false))

/-- LOOPG (R286). -/
def execLoopg (n : Fin 16) (e : Ecc) (s : State) : Host.Outcome State Fault Refusal :=
  .next (s.coreRow n e (fun i => match i with | .loopg _ _ _ _ => true | _ => false))

/-- JMPR (R301). -/
def execJmpr (n : Fin 16) (e : Ecc) (s : State) : Host.Outcome State Fault Refusal :=
  .next (s.coreRow n e (fun i => match i with | .jmpr _ => true | _ => false))

/-- TRAP (R301). -/
def execTrap (n : Fin 16) (e : Ecc) (s : State) : Host.Outcome State Fault Refusal :=
  .next (s.coreRow n e (fun i => match i with | .trap _ => true | _ => false))

/-- LEXIT (R287). -/
def execLexit (n : Fin 16) (e : Ecc) (s : State) : Host.Outcome State Fault Refusal :=
  .next (s.coreRow n e (fun i => match i with | .lexit => true | _ => false))

/-- BXV (R295). -/
def execBxv (n : Fin 16) (e : Ecc) (s : State) : Host.Outcome State Fault Refusal :=
  .next (s.coreRow n e (fun i => match i with | .bxv _ _ _ _ _ => true | _ => false))

/-- WAIT (R302). -/
def execWait (n : Fin 16) (e : Ecc) (s : State) : Host.Outcome State Fault Refusal :=
  .next (s.coreRow n e (fun i => match i with | .wait => true | _ => false))

/-- HALT (R302). -/
def execHalt (n : Fin 16) (e : Ecc) (s : State) : Host.Outcome State Fault Refusal :=
  .next (s.coreRow n e (fun i => match i with | .halt => true | _ => false))

/-- SYNC (R277). -/
def execSync (n : Fin 16) (e : Ecc) (s : State) : Host.Outcome State Fault Refusal :=
  .next (s.coreRow n e (fun i => match i with | .sync => true | _ => false))

/-- NOP_B (R302). -/
def execNopB (n : Fin 16) (e : Ecc) (s : State) : Host.Outcome State Fault Refusal :=
  .next (s.coreRow n e (fun i => match i with | .nopB => true | _ => false))

/-- An illegal word, or a fetch from an address that holds none, issues and raises its exception (R276, R296). -/
def State.illegal (s : State) (n : Fin 16) (e : Ecc) : State :=
  if (s.insAt n).isNone && s.canIssue n then s.issue n e else s

def execIllegalInstruction (n : Fin 16) (e : Ecc) (s : State) : Host.Outcome State Fault Refusal := .next (s.illegal n e)

/-- A STEP runs: an interrupt that is due is entered first, and then one instruction issues (R308). -/
def State.stepRun (s : State) (n : Fin 16) (e : Ecc) : State :=
  if !(s.core n).stepping ∨ s.coreSt n ≠ gsRUNNING ∨ !s.clockRuns (pdGC (n / 4)) then s
  else
    have t := s.intEntry n
    if (t.core n).wp ≠ 0 ∨ t.bpMatch n ≠ 0 then t.debugStop n else t.issue n e

/-- GC_CTRL.STEP issues one instruction and halts (R308). -/
def execGcStep (w : Req) (n : Fin 16) (e : Ecc) (s : State) : Host.Outcome State Fault Refusal :=
  .next (s.regCmd w (GC.GC_CTRL n) (fun s => (s.coreStepReq n).stepRun n e))

end Sys2Proof.Machine
end

