-- ==== Sys2Proof/Machine/Dispatch.lean ====
section
/-!
DEFINITION. One arm per command: a direct call of its meaning.
-/
namespace Sys2Proof.Machine
open Sys2Proof

def exec (i : Instr) (s : State) : Host.Outcome State Fault Refusal :=
  match i with
  | .registerWrite w a v => Sys2Proof.Machine.execRegisterWrite w a v s
  | .narrowRegisterWrite w a => Sys2Proof.Machine.execNarrowRegisterWrite w a s
  | .counterLowRead w r => Sys2Proof.Machine.execCounterLowRead w r s
  | .unmappedAccess w a write => Sys2Proof.Machine.execUnmappedAccess w a write s
  | .domainOffAccess w a write => Sys2Proof.Machine.execDomainOffAccess w a write s
  | .l3Boundary x => Sys2Proof.Machine.execL3Boundary x s
  | .l2Boundary x => Sys2Proof.Machine.execL2Boundary x s
  | .l1Boundary x => Sys2Proof.Machine.execL1Boundary x s
  | .l0Boundary x => Sys2Proof.Machine.execL0Boundary x s
  | .carrierMidpoint => Sys2Proof.Machine.execCarrierMidpoint s
  | .boundaryGeneratorStart => Sys2Proof.Machine.execBoundaryGeneratorStart s
  | .imageLoad w v => Sys2Proof.Machine.execImageLoad w v s
  | .imageLoadDone e => Sys2Proof.Machine.execImageLoadDone e s
  | .patchGo w v => Sys2Proof.Machine.execPatchGo w v s
  | .patchCheckDone => Sys2Proof.Machine.execPatchCheckDone s
  | .patchApply => Sys2Proof.Machine.execPatchApply s
  | .burstFreeze raw muxed => Sys2Proof.Machine.execBurstFreeze raw muxed s
  | .burstResult => Sys2Proof.Machine.execBurstResult s
  | .chCfgWrite w c v => Sys2Proof.Machine.execChCfgWrite w c v s
  | .chCoefWrite w c v => Sys2Proof.Machine.execChCoefWrite w c v s
  | .refEnSet w => Sys2Proof.Machine.execRefEnSet w s
  | .refSettled => Sys2Proof.Machine.execRefSettled s
  | .refEnClear w => Sys2Proof.Machine.execRefEnClear w s
  | .rotEnSet w => Sys2Proof.Machine.execRotEnSet w s
  | .rotEnClear w => Sys2Proof.Machine.execRotEnClear w s
  | .rotationStepEnd ofs gain => Sys2Proof.Machine.execRotationStepEnd ofs gain s
  | .converterCheckEnd ofs gain => Sys2Proof.Machine.execConverterCheckEnd ofs gain s
  | .syscalZero w v => Sys2Proof.Machine.execSyscalZero w v s
  | .syscalFs w v => Sys2Proof.Machine.execSyscalFs w v s
  | .syscalSave w v => Sys2Proof.Machine.execSyscalSave w v s
  | .syscalAbort w v => Sys2Proof.Machine.execSyscalAbort w v s
  | .syscalStepEnd => Sys2Proof.Machine.execSyscalStepEnd s
  | .syscalSaveDone => Sys2Proof.Machine.execSyscalSaveDone s
  | .comparatorChange c uv n => Sys2Proof.Machine.execComparatorChange c uv n s
  | .capArm w v => Sys2Proof.Machine.execCapArm w v s
  | .capStop w v => Sys2Proof.Machine.execCapStop w v s
  | .capTrigger => Sys2Proof.Machine.execCapTrigger s
  | .capDone => Sys2Proof.Machine.execCapDone s
  | .grpCommit w g => Sys2Proof.Machine.execGrpCommit w g s
  | .grpSpareCommit w g => Sys2Proof.Machine.execGrpSpareCommit w g s
  | .grpForceTrip w g => Sys2Proof.Machine.execGrpForceTrip w g s
  | .grpTripClr w g => Sys2Proof.Machine.execGrpTripClr w g s
  | .dutyShWrite w g p v => Sys2Proof.Machine.execDutyShWrite w g p v s
  | .dtCfgWrite w g p v => Sys2Proof.Machine.execDtCfgWrite w g p v s
  | .grpCfgWrite w g v => Sys2Proof.Machine.execGrpCfgWrite w g v s
  | .tripPinCfgWrite w v => Sys2Proof.Machine.execTripPinCfgWrite w v s
  | .groupTrip g => Sys2Proof.Machine.execGroupTrip g s
  | .tripSetAfterEof n => Sys2Proof.Machine.execTripSetAfterEof n s
  | .gateEdge g p count high on => Sys2Proof.Machine.execGateEdge g p count high on s
  | .blankWindowClose b => Sys2Proof.Machine.execBlankWindowClose b s
  | .syncInPulse c => Sys2Proof.Machine.execSyncInPulse c s
  | .l0Update a => Sys2Proof.Machine.execL0Update a s
  | .statusFrameReceive n frame => Sys2Proof.Machine.execStatusFrameReceive n frame s
  | .statusFrameTimeout n => Sys2Proof.Machine.execStatusFrameTimeout n s
  | .stoFbMismatch n => Sys2Proof.Machine.execStoFbMismatch n s
  | .portRestart w n => Sys2Proof.Machine.execPortRestart w n s
  | .portRetrain w n => Sys2Proof.Machine.execPortRetrain w n s
  | .linkSignalDetect n => Sys2Proof.Machine.execLinkSignalDetect n s
  | .trainDone n => Sys2Proof.Machine.execTrainDone n s
  | .trainTimeout n => Sys2Proof.Machine.execTrainTimeout n s
  | .delayDone n l x => Sys2Proof.Machine.execDelayDone n l x s
  | .linkLoss n => Sys2Proof.Machine.execLinkLoss n s
  | .fbEdge c track phase n => Sys2Proof.Machine.execFbEdge c track phase n s
  | .comparePulseEnd c => Sys2Proof.Machine.execComparePulseEnd c s
  | .wireFault c legs => Sys2Proof.Machine.execWireFault c legs s
  | .stillTimeout c => Sys2Proof.Machine.execStillTimeout c s
  | .fbFaultClr w c => Sys2Proof.Machine.execFbFaultClr w c s
  | .fbAlign w c => Sys2Proof.Machine.execFbAlign w c s
  | .fbCfgWrite w c r v => Sys2Proof.Machine.execFbCfgWrite w c r v s
  | .cmpValWrite w c v => Sys2Proof.Machine.execCmpValWrite w c v s
  | .axisEnable w a v => Sys2Proof.Machine.execAxisEnable w a v s
  | .axisDisable w a v => Sys2Proof.Machine.execAxisDisable w a v s
  | .axisFaultClr w a => Sys2Proof.Machine.execAxisFaultClr w a s
  | .srcReqWrite w a src => Sys2Proof.Machine.execSrcReqWrite w a src s
  | .engineConfigWrite w a r v => Sys2Proof.Machine.execEngineConfigWrite w a r v s
  | .injGo w a v => Sys2Proof.Machine.execInjGo w a v s
  | .injStop w a => Sys2Proof.Machine.execInjStop w a s
  | .injectionDone a => Sys2Proof.Machine.execInjectionDone a s
  | .ccapArm w v => Sys2Proof.Machine.execCcapArm w v s
  | .ccapStop w v => Sys2Proof.Machine.execCcapStop w v s
  | .ccapGo w v => Sys2Proof.Machine.execCcapGo w v s
  | .ccapTrigger => Sys2Proof.Machine.execCcapTrigger s
  | .ccapDone => Sys2Proof.Machine.execCcapDone s
  | .pgStart w g => Sys2Proof.Machine.execPgStart w g s
  | .pgStop w g => Sys2Proof.Machine.execPgStop w g s
  | .pgJogPos w g on => Sys2Proof.Machine.execPgJogPos w g on s
  | .pgJogNeg w g on => Sys2Proof.Machine.execPgJogNeg w g on s
  | .pgTargetWrite w g hi v => Sys2Proof.Machine.execPgTargetWrite w g hi v s
  | .pgLimitWrite w g r v => Sys2Proof.Machine.execPgLimitWrite w g r v s
  | .pgVlimWrite w g upper hi v => Sys2Proof.Machine.execPgVlimWrite w g upper hi v s
  | .stCfgWrite w n v => Sys2Proof.Machine.execStCfgWrite w n v s
  | .chopperCrossing n b upper => Sys2Proof.Machine.execChopperCrossing n b upper s
  | .fastDecayEnd n b => Sys2Proof.Machine.execFastDecayEnd n b s
  | .holdCurrentTimeout n => Sys2Proof.Machine.execHoldCurrentTimeout n s
  | .learnWindowEnd n b => Sys2Proof.Machine.execLearnWindowEnd n b s
  | .ppOpen w p => Sys2Proof.Machine.execPpOpen w p s
  | .ppClose w p two buf => Sys2Proof.Machine.execPpClose w p two buf s
  | .ppAbort w p => Sys2Proof.Machine.execPpAbort w p s
  | .ppQuery w p zone count => Sys2Proof.Machine.execPpQuery w p zone count s
  | .ppHeldCommand => Sys2Proof.Machine.execPpHeldCommand s
  | .vtWrite w r v => Sys2Proof.Machine.execVtWrite w r v s
  | .vtSeal w target => Sys2Proof.Machine.execVtSeal w target s
  | .l3Evaluation => Sys2Proof.Machine.execL3Evaluation s
  | .framePublish => Sys2Proof.Machine.execFramePublish s
  | .assemblyDone => Sys2Proof.Machine.execAssemblyDone s
  | .solveStart => Sys2Proof.Machine.execSolveStart s
  | .sSubmit w buf => Sys2Proof.Machine.execSSubmit w buf s
  | .bSubmit w buf => Sys2Proof.Machine.execBSubmit w buf s
  | .abortS w iter => Sys2Proof.Machine.execAbortS w iter s
  | .abortB w => Sys2Proof.Machine.execAbortB w s
  | .classSJobEnd => Sys2Proof.Machine.execClassSJobEnd s
  | .sDeadline iter => Sys2Proof.Machine.execSDeadline iter s
  | .batchStart => Sys2Proof.Machine.execBatchStart s
  | .batchEnd => Sys2Proof.Machine.execBatchEnd s
  | .bDeadline queued done => Sys2Proof.Machine.execBDeadline queued done s
  | .nop n e => Sys2Proof.Machine.execNop n e s
  | .mpy n e => Sys2Proof.Machine.execMpy n e s
  | .mac n e => Sys2Proof.Machine.execMac n e s
  | .msu n e => Sys2Proof.Machine.execMsu n e s
  | .mpyi n e => Sys2Proof.Machine.execMpyi n e s
  | .maci n e => Sys2Proof.Machine.execMaci n e s
  | .msui n e => Sys2Proof.Machine.execMsui n e s
  | .mac2 n e => Sys2Proof.Machine.execMac2 n e s
  | .mac2i n e => Sys2Proof.Machine.execMac2i n e s
  | .dmpy n e => Sys2Proof.Machine.execDmpy n e s
  | .dmac n e => Sys2Proof.Machine.execDmac n e s
  | .dmac2 n e => Sys2Proof.Machine.execDmac2 n e s
  | .adda n e => Sys2Proof.Machine.execAdda n e s
  | .suba n e => Sys2Proof.Machine.execSuba n e s
  | .clra n e => Sys2Proof.Machine.execClra n e s
  | .add n e => Sys2Proof.Machine.execAdd n e s
  | .sub n e => Sys2Proof.Machine.execSub n e s
  | .adds n e => Sys2Proof.Machine.execAdds n e s
  | .subs n e => Sys2Proof.Machine.execSubs n e s
  | .and n e => Sys2Proof.Machine.execAnd n e s
  | .or n e => Sys2Proof.Machine.execOr n e s
  | .xor n e => Sys2Proof.Machine.execXor n e s
  | .andn n e => Sys2Proof.Machine.execAndn n e s
  | .asl n e => Sys2Proof.Machine.execAsl n e s
  | .asr n e => Sys2Proof.Machine.execAsr n e s
  | .lsr n e => Sys2Proof.Machine.execLsr n e s
  | .asls n e => Sys2Proof.Machine.execAsls n e s
  | .mulr n e => Sys2Proof.Machine.execMulr n e s
  | .muli n e => Sys2Proof.Machine.execMuli n e s
  | .min n e => Sys2Proof.Machine.execMin n e s
  | .max n e => Sys2Proof.Machine.execMax n e s
  | .abs n e => Sys2Proof.Machine.execAbs n e s
  | .neg n e => Sys2Proof.Machine.execNeg n e s
  | .cmp n e => Sys2Proof.Machine.execCmp n e s
  | .cmpi n e => Sys2Proof.Machine.execCmpi n e s
  | .ext n e => Sys2Proof.Machine.execExt n e s
  | .exti n e => Sys2Proof.Machine.execExti n e s
  | .extd n e => Sys2Proof.Machine.execExtd n e s
  | .norm n e => Sys2Proof.Machine.execNorm n e s
  | .asra n e => Sys2Proof.Machine.execAsra n e s
  | .asla n e => Sys2Proof.Machine.execAsla n e s
  | .addaa n e => Sys2Proof.Machine.execAddaa n e s
  | .lda n e => Sys2Proof.Machine.execLda n e s
  | .ldi n e => Sys2Proof.Machine.execLdi n e s
  | .ldih n e => Sys2Proof.Machine.execLdih n e s
  | .movc n e => Sys2Proof.Machine.execMovc n e s
  | .ldx n e => Sys2Proof.Machine.execLdx n e s
  | .ldp n e => Sys2Proof.Machine.execLdp n e s
  | .bra n e => Sys2Proof.Machine.execBra n e s
  | .call n e => Sys2Proof.Machine.execCall n e s
  | .rts n e => Sys2Proof.Machine.execRts n e s
  | .rti n e => Sys2Proof.Machine.execRti n e s
  | .loopi n e => Sys2Proof.Machine.execLoopi n e s
  | .loopg n e => Sys2Proof.Machine.execLoopg n e s
  | .jmpr n e => Sys2Proof.Machine.execJmpr n e s
  | .trap n e => Sys2Proof.Machine.execTrap n e s
  | .lexit n e => Sys2Proof.Machine.execLexit n e s
  | .bxv n e => Sys2Proof.Machine.execBxv n e s
  | .wait n e => Sys2Proof.Machine.execWait n e s
  | .halt n e => Sys2Proof.Machine.execHalt n e s
  | .sync n e => Sys2Proof.Machine.execSync n e s
  | .nopB n e => Sys2Proof.Machine.execNopB n e s
  | .interruptEntry n => Sys2Proof.Machine.execInterruptEntry n s
  | .breakpointHalt n => Sys2Proof.Machine.execBreakpointHalt n s
  | .gcSoftRst w n => Sys2Proof.Machine.execGcSoftRst w n s
  | .gcHalt w n => Sys2Proof.Machine.execGcHalt w n s
  | .gcRun w n => Sys2Proof.Machine.execGcRun w n s
  | .gcStep w n e => Sys2Proof.Machine.execGcStep w n e s
  | .gcPcWrite w n v => Sys2Proof.Machine.execGcPcWrite w n v s
  | .gcDbgDataWrite w n v => Sys2Proof.Machine.execGcDbgDataWrite w n v s
  | .pMemoryWrite w n a v => Sys2Proof.Machine.execPMemoryWrite w n a v s
  | .coreBoot n => Sys2Proof.Machine.execCoreBoot n s
  | .bootRomLoad n => Sys2Proof.Machine.execBootRomLoad n s
  | .wdogKick w n v => Sys2Proof.Machine.execWdogKick w n v s
  | .coreWatchdogExpiry n => Sys2Proof.Machine.execCoreWatchdogExpiry n s
  | .enqGo w => Sys2Proof.Machine.execEnqGo w s
  | .hwEnqueueRetry => Sys2Proof.Machine.execHwEnqueueRetry s
  | .jobDispatch c => Sys2Proof.Machine.execJobDispatch c s
  | .affinityWindowEnd f => Sys2Proof.Machine.execAffinityWindowEnd f s
  | .coreDone w c status resValid resBuf => Sys2Proof.Machine.execCoreDone w c status resValid resBuf s
  | .jobRelease f => Sys2Proof.Machine.execJobRelease f s
  | .completionPop w k => Sys2Proof.Machine.execCompletionPop w k s
  | .smwFlagWrite w b v => Sys2Proof.Machine.execSmwFlagWrite w b v s
  | .smwPass w v => Sys2Proof.Machine.execSmwPass w v s
  | .smwReclaim w b => Sys2Proof.Machine.execSmwReclaim w b s
  | .smwPayloadWrite w b o data => Sys2Proof.Machine.execSmwPayloadWrite w b o data s
  | .flowCfgWrite w f mask v => Sys2Proof.Machine.execFlowCfgWrite w f mask v s
  | .chuckWatchdogExpiry => Sys2Proof.Machine.execChuckWatchdogExpiry s
  | .safetySample x siD siL edm rb => Sys2Proof.Machine.execSafetySample x siD siL edm rb s
  | .inputFilterStop live ix => Sys2Proof.Machine.execInputFilterStop live ix s
  | .inputFilterRun live ix => Sys2Proof.Machine.execInputFilterRun live ix s
  | .testPulseStart x k => Sys2Proof.Machine.execTestPulseStart x k s
  | .testPulseEnd x k => Sys2Proof.Machine.execTestPulseEnd x k s
  | .testRead x d l => Sys2Proof.Machine.execTestRead x d l s
  | .heartbeatTimeout live => Sys2Proof.Machine.execHeartbeatTimeout live s
  | .discrepancyTimeout live f => Sys2Proof.Machine.execDiscrepancyTimeout live f s
  | .resetPulse g => Sys2Proof.Machine.execResetPulse g s
  | .remoteTimeout f => Sys2Proof.Machine.execRemoteTimeout f s
  | .ss1Timeout z => Sys2Proof.Machine.execSs1Timeout z s
  | .darkTestStart o => Sys2Proof.Machine.execDarkTestStart o s
  | .darkTestEnd o => Sys2Proof.Machine.execDarkTestEnd o s
  | .outputFault o => Sys2Proof.Machine.execOutputFault o s
  | .edmTimeout k => Sys2Proof.Machine.execEdmTimeout k s
  | .contactorDelayEnd k => Sys2Proof.Machine.execContactorDelayEnd k s
  | .contactorStale k => Sys2Proof.Machine.execContactorStale k s
  | .tpsFault k => Sys2Proof.Machine.execTpsFault k s
  | .ssmOutcome => Sys2Proof.Machine.execSsmOutcome s
  | .crossCheckTimeout c => Sys2Proof.Machine.execCrossCheckTimeout c s
  | .lockstepMismatch => Sys2Proof.Machine.execLockstepMismatch s
  | .selfTestDone live pass => Sys2Proof.Machine.execSelfTestDone live pass s
  | .degradedTimeout => Sys2Proof.Machine.execDegradedTimeout s
  | .portOpen w p => Sys2Proof.Machine.execPortOpen w p s
  | .portClose w p => Sys2Proof.Machine.execPortClose w p s
  | .portStop w p => Sys2Proof.Machine.execPortStop w p s
  | .portRelearn w p => Sys2Proof.Machine.execPortRelearn w p s
  | .unlockTimeout p => Sys2Proof.Machine.execUnlockTimeout p s
  | .lockTimeout p => Sys2Proof.Machine.execLockTimeout p s
  | .travelTimeout p => Sys2Proof.Machine.execTravelTimeout p s
  | .obstacleDetect p => Sys2Proof.Machine.execObstacleDetect p s
  | .reverseDriveStart p => Sys2Proof.Machine.execReverseDriveStart p s
  | .startBlankEnd p => Sys2Proof.Machine.execStartBlankEnd p s
  | .sertikSlotStart k stray => Sys2Proof.Machine.execSertikSlotStart k stray s
  | .sertikFrameReceive ch sof code fr => Sys2Proof.Machine.execSertikFrameReceive ch sof code fr s
  | .txCommit w f => Sys2Proof.Machine.execTxCommit w f s
  | .channelLoss ch => Sys2Proof.Machine.execChannelLoss ch s
  | .srtEnWrite w v => Sys2Proof.Machine.execSrtEnWrite w v s
  | .listenTimeout => Sys2Proof.Machine.execListenTimeout s
  | .backoffEnd => Sys2Proof.Machine.execBackoffEnd s
  | .syncLoss => Sys2Proof.Machine.execSyncLoss s
  | .takeoverCycleStart => Sys2Proof.Machine.execTakeoverCycleStart s
  | .grantTimeout ix => Sys2Proof.Machine.execGrantTimeout ix s
  | .stepGo w => Sys2Proof.Machine.execStepGo w s
  | .holdExit w => Sys2Proof.Machine.execHoldExit w s
  | .rateAdjWrite w v => Sys2Proof.Machine.execRateAdjWrite w v s
  | .rateMaxWrite w v => Sys2Proof.Machine.execRateMaxWrite w v s
  | .slewWrite w v => Sys2Proof.Machine.execSlewWrite w v s
  | .slewEnd => Sys2Proof.Machine.execSlewEnd s
  | .timeRunSet w => Sys2Proof.Machine.execTimeRunSet w s
  | .timeRunClear w => Sys2Proof.Machine.execTimeRunClear w s
  | .dtNsRead w => Sys2Proof.Machine.execDtNsRead w s
  | .txtsPop w p => Sys2Proof.Machine.execTxtsPop w p s
  | .ptpSyncTimeout => Sys2Proof.Machine.execPtpSyncTimeout s
  | .roleChange active => Sys2Proof.Machine.execRoleChange active s
  | .refereeTimeout => Sys2Proof.Machine.execRefereeTimeout s
  | .steadyFrameReceive ns bad m => Sys2Proof.Machine.execSteadyFrameReceive ns bad m s
  | .integratorTracking => Sys2Proof.Machine.execIntegratorTracking s
  | .pairLinkTimeout => Sys2Proof.Machine.execPairLinkTimeout s
  | .swapDue => Sys2Proof.Machine.execSwapDue s
  | .fyverFrameReceive l ns fr => Sys2Proof.Machine.execFyverFrameReceive l ns fr s
  | .fyverLinkUp l trip turn => Sys2Proof.Machine.execFyverLinkUp l trip turn s
  | .fyverLinkDown l => Sys2Proof.Machine.execFyverLinkDown l s
  | .fyverTimeLoss => Sys2Proof.Machine.execFyverTimeLoss s
  | .imgSend w v => Sys2Proof.Machine.execImgSend w v s
  | .consensusRoundStart => Sys2Proof.Machine.execConsensusRoundStart s
  | .consensusAverage => Sys2Proof.Machine.execConsensusAverage s
  | .fieldRefresh vf0 vf1 => Sys2Proof.Machine.execFieldRefresh vf0 vf1 s
  | .refreshTimeout g => Sys2Proof.Machine.execRefreshTimeout g s
  | .fieldInputChange ix on => Sys2Proof.Machine.execFieldInputChange ix on s
  | .outputOverload o => Sys2Proof.Machine.execOutputOverload o s
  | .ovldClr w v => Sys2Proof.Machine.execOvldClr w v s
  | .compareOutputEnd ix => Sys2Proof.Machine.execCompareOutputEnd ix s
  | .undervoltageLatch g => Sys2Proof.Machine.execUndervoltageLatch g s
  | .restoreReady g => Sys2Proof.Machine.execRestoreReady g s
  | .groupAck w g => Sys2Proof.Machine.execGroupAck w g s
  | .crAppend w v => Sys2Proof.Machine.execCrAppend w v s
  | .crFlush w v => Sys2Proof.Machine.execCrFlush w v s
  | .flushTimeout cycle => Sys2Proof.Machine.execFlushTimeout cycle s
  | .nandProgrammeDone ok => Sys2Proof.Machine.execNandProgrammeDone ok s
  | .nandEraseDone ok => Sys2Proof.Machine.execNandEraseDone ok s
  | .rdGo w v => Sys2Proof.Machine.execRdGo w v s
  | .imgWrGo w v => Sys2Proof.Machine.execImgWrGo w v s
  | .imgWrDone prog verify => Sys2Proof.Machine.execImgWrDone prog verify s
  | .scrubScan b bits unc corr => Sys2Proof.Machine.execScrubScan b bits unc corr s
  | .ethernetReceive p fcs ts fr => Sys2Proof.Machine.execEthernetReceive p fcs ts fr s
  | .netTxGo w p v => Sys2Proof.Machine.execNetTxGo w p v s
  | .ethernetFrameSent p ts => Sys2Proof.Machine.execEthernetFrameSent p ts s
  | .ethernetLinkChange p up present los => Sys2Proof.Machine.execEthernetLinkChange p up present los s
  | .evtPendClear w ix v => Sys2Proof.Machine.execEvtPendClear w ix v s
  | .evtVecAck w v => Sys2Proof.Machine.execEvtVecAck w v s
  | .evtSet w v => Sys2Proof.Machine.execEvtSet w v s
  | .evtRouteWrite w e v => Sys2Proof.Machine.execEvtRouteWrite w e v s
  | .msixMessage k => Sys2Proof.Machine.execMsixMessage k s
  | .perfClr w v => Sys2Proof.Machine.execPerfClr w v s
  | .perfHistClr w v => Sys2Proof.Machine.execPerfHistClr w v s
  | .snapshotWriteDone => Sys2Proof.Machine.execSnapshotWriteDone s
  | .tagPcRead w n => Sys2Proof.Machine.execTagPcRead w n s
  | .modeReqGo w v => Sys2Proof.Machine.execModeReqGo w v s
  | .modeReqAbort w v => Sys2Proof.Machine.execModeReqAbort w v s
  | .modeChange => Sys2Proof.Machine.execModeChange s
  | .modeRequestTimeout => Sys2Proof.Machine.execModeRequestTimeout s
  | .powerOnReset straps => Sys2Proof.Machine.execPowerOnReset straps s
  | .supplyReset straps => Sys2Proof.Machine.execSupplyReset straps s
  | .resetNAssert straps => Sys2Proof.Machine.execResetNAssert straps s
  | .pcieHotReset => Sys2Proof.Machine.execPcieHotReset s
  | .liveWatchdogExpiry => Sys2Proof.Machine.execLiveWatchdogExpiry s
  | .deadCentreDemand unlock => Sys2Proof.Machine.execDeadCentreDemand unlock s
  | .safetyRamError live => Sys2Proof.Machine.execSafetyRamError live s
  | .imageShadowError => Sys2Proof.Machine.execImageShadowError s
  | .engineParityError => Sys2Proof.Machine.execEngineParityError s
  | .dtParityError => Sys2Proof.Machine.execDtParityError s
  | .sysRst w v => Sys2Proof.Machine.execSysRst w v s
  | .rstBlkWrite w v => Sys2Proof.Machine.execRstBlkWrite w v s
  | .optionLoadDone => Sys2Proof.Machine.execOptionLoadDone s
  | .domainRelease d good => Sys2Proof.Machine.execDomainRelease d good s
  | .refQualified ppm => Sys2Proof.Machine.execRefQualified ppm s
  | .refLost ppm => Sys2Proof.Machine.execRefLost ppm s
  | .refRestore w v => Sys2Proof.Machine.execRefRestore w v s
  | .netPllUnlock => Sys2Proof.Machine.execNetPllUnlock s
  | .clockGoodLoss d => Sys2Proof.Machine.execClockGoodLoss d s
  | .latTolWrite w v => Sys2Proof.Machine.execLatTolWrite w v s
  | .clockRestart d => Sys2Proof.Machine.execClockRestart d s
  | .clockIdleStop d => Sys2Proof.Machine.execClockIdleStop d s
  | .wakeDone => Sys2Proof.Machine.execWakeDone s
  | .ledgerGrant => Sys2Proof.Machine.execLedgerGrant s
  | .thermalSample t => Sys2Proof.Machine.execThermalSample t s
  | .throttleClear => Sys2Proof.Machine.execThrottleClear s
  | .thermalRelease => Sys2Proof.Machine.execThermalRelease s
  | .tripPinChange ix level => Sys2Proof.Machine.execTripPinChange ix level s
  | .retDataRead w bad => Sys2Proof.Machine.execRetDataRead w bad s
  | .memoryWindowWrite w a v => Sys2Proof.Machine.execMemoryWindowWrite w a v s
  | .pcieLinkChange up width speed => Sys2Proof.Machine.execPcieLinkChange up width speed s
  | .pcieConfigWrite bme d3 => Sys2Proof.Machine.execPcieConfigWrite bme d3 s
  | .netPllRelock => Sys2Proof.Machine.execNetPllRelock s
  | .nandReadDone unc fix raw => Sys2Proof.Machine.execNandReadDone unc fix raw s
  | .standbyEdgeFrameSend n => Sys2Proof.Machine.execStandbyEdgeFrameSend n s
  | .waitResume n => Sys2Proof.Machine.execWaitResume n s
  | .illegalInstruction n e => Sys2Proof.Machine.execIllegalInstruction n e s
  | .ppsPulse => Sys2Proof.Machine.execPpsPulse s

end Sys2Proof.Machine
end

