-- ==== Sys2Proof/Machine/Encode.lean ====
section
/-!
DEFINITION. The words of the gouge cores' instructions, written from the layouts of R296-R302
(spec/12_gouge_cores.md), and which instructions have one.
-/
namespace Sys2Proof.Machine
open Sys2Proof

/-- A move field (R297), the registers of its space counted from `r0`, its pointers from `p0`; no move is 0. -/
def moveField (r0 p0 : Nat) (m : Option CMove) : Nat :=
  match m with
  | none => 0
  | some m => m.store.toNat * 128 + (m.reg - r0) * 16 + (m.ptr - p0) * 4 + m.md

/-- A move that a field of the space can name; the field 0 names none. -/
def moveWf (r0 p0 : Nat) (m : Option CMove) : Bool :=
  match m with
  | none => true
  | some m => decide (r0 ≤ m.reg ∧ m.reg < r0 + 8 ∧ p0 ≤ m.ptr ∧ m.ptr < p0 + 4 ∧ m.md < 4) &&
      !(m == { store := false, reg := r0, ptr := p0, md := 0 })

/-- An arithmetic word: class A1, or class A0 where there is a Y move (R297, R298). -/
def CArith.encode (k : CArith) : Nat :=
  match k.y with
  | none => 1 * 2 ^ 29 + k.op * 2 ^ 23 + k.d * 2 ^ 18 + k.a * 2 ^ 13 + k.b * 2 ^ 8 + moveField 16 0 k.x
  | some _ => k.op * 2 ^ 25 + (k.a / 16) * 2 ^ 24 + k.d * 2 ^ 22 + (k.a % 16) * 2 ^ 19 + (k.b % 8) * 2 ^ 16 +
      moveField 16 0 k.x * 2 ^ 8 + moveField 24 4 k.y

/-- The operands that R297-R299 give an arithmetic instruction. -/
def CArith.wf (k : CArith) : Bool :=
  moveWf 16 0 k.x && moveWf 24 4 k.y &&
  match k.y with
  | none => a1Code k.op && decide (k.d < 32 ∧ k.a < 32 ∧ k.b < 32) && !(accOp k.op && decide (4 ≤ k.d)) &&
      !(accSource k.op && decide (4 ≤ k.a))
  | some _ => decide (k.op ≤ 0xE ∧ k.d < 4) &&
      (decide (k.a < 8 ∧ 8 ≤ k.b ∧ k.b < 16) || decide (16 ≤ k.a ∧ k.a < 24 ∧ 24 ≤ k.b ∧ k.b < 32))

/-- A word of class L, C or B: class, 4-bit or 3-bit code, and the rest. -/
def wordL (lop rn sub imm : Nat) : Nat := 2 * 2 ^ 29 + lop * 2 ^ 26 + rn * 2 ^ 20 + sub * 2 ^ 16 + imm
def wordC (cop rest : Nat) : Nat := 3 * 2 ^ 29 + cop * 2 ^ 25 + rest
def wordB (bop rest : Nat) : Nat := 4 * 2 ^ 29 + bop * 2 ^ 25 + rest

/-- The word of an instruction (R296-R302). -/
def encodeCore (i : CIns) : Nat :=
  match i with
  | .arith k => k.encode
  | .ldi rn sub imm => wordL 0 rn sub imm
  | .ldih rn sub imm => wordL 1 rn sub imm
  | .movc rn sub srn ssub => wordL 2 rn sub (ssub * 2 ^ 8 + srn)
  | .ldx g store ptr y disp => wordL 3 g (store.toNat * 8 + ptr) (y.toNat * 2 ^ 15 + uN 15 disp)
  | .ldp g ptr md => wordL 4 g ptr (md * 2 ^ 14)
  | .bra cond target => wordC 0 (cond * 2 ^ 20 + target)
  | .call cond target => wordC 1 (cond * 2 ^ 20 + target)
  | .rts => wordC 2 0
  | .rti => wordC 3 0
  | .loopi rot skip len count => wordC 4 (rot.toNat * 2 ^ 24 + skip * 2 ^ 21 + (len - 1) * 2 ^ 14 + count)
  | .loopg rot skip len g => wordC 5 (rot.toNat * 2 ^ 24 + skip * 2 ^ 21 + (len - 1) * 2 ^ 14 + g * 2 ^ 9)
  | .jmpr g => wordC 6 (g * 2 ^ 20)
  | .trap code => wordC 7 code
  | .lexit => wordC 8 0
  | .bxv g ptr y md count => wordB 0 (g * 2 ^ 20 + ptr * 2 ^ 17 + y.toNat * 2 ^ 16 + md * 2 ^ 14 + count)
  | .wait => wordB 1 0
  | .halt => wordB 2 0
  | .sync => wordB 3 0
  | .nopB => wordB 4 0

/-- The operands that the layouts give an instruction. -/
def CIns.wf (i : CIns) : Bool :=
  match i with
  | .arith k => k.wf
  | .ldi rn sub imm => decide (rn < 64 ∧ sub < 16 ∧ imm < 65536) && rnValid rn sub
  | .ldih rn sub imm => decide (rn < 64 ∧ sub < 16 ∧ imm < 65536) && rnValid rn sub
  | .movc rn sub srn ssub => decide (rn < 64 ∧ sub < 16 ∧ srn < 64 ∧ ssub < 16) && rnValid rn sub && rnValid srn ssub
  | .ldx g _ ptr _ disp => decide (g < 32 ∧ ptr < 8 ∧ -16384 ≤ disp ∧ disp < 16384)
  | .ldp g ptr md => decide (g < 32 ∧ ptr < 8 ∧ md < 4)
  | .bra cond target => decide (cond ≤ 0xC ∧ target < 16384)
  | .call cond target => decide (cond ≤ 0xC ∧ target < 16384)
  | .loopi _ skip len count => decide (skip < 8 ∧ 1 ≤ len ∧ len ≤ 128 ∧ count < 16384)
  | .loopg _ skip len g => decide (skip < 8 ∧ 1 ≤ len ∧ len ≤ 128 ∧ g < 32)
  | .jmpr g => decide (g < 32)
  | .trap code => decide (code < 256)
  | .bxv g ptr _ md count => decide (g < 32 ∧ ptr < 8 ∧ md < 4 ∧ 1 ≤ count ∧ count ≤ 1024)
  | .rts => true
  | .rti => true
  | .lexit => true
  | .wait => true
  | .halt => true
  | .sync => true
  | .nopB => true

end Sys2Proof.Machine
end

