-- ==== Sys2Proof/WellFormed.lean ====
section
/-!
DEFINITION. Which commands are well formed: operands that the world outside the module can give. The machine is total; it
does not rely on this check.
-/
namespace Sys2Proof

/-- `lo ≤ x ≤ hi`. -/
def within (lo hi x : Int) : Bool := decide (lo ≤ x ∧ x ≤ hi)

/-- A word of BAR0, or of the 8 MiB of BAR2 behind its 64 MiB. -/
def barWord (a : BitVec 25) : Bool := decide (a.toNat < 0x1200000)

/-- What a STEADY frame carries fits its widths (R457). -/
def SteadyMsg.wf (m : SteadyMsg) : Bool :=
  match m with
  | .vote mode _ _ a b d => decide (mode < 12) && decide (a < 256) && decide (b < 256) && decide (d < 65536)
  | .l3 hash axes ports entries =>
    decide (hash < 2 ^ 64) && decide (axes.length ≤ 64) && decide (ports.length ≤ 8) && entries.all (fun e => e.2.length == 64)
  | .ledger claims => claims.all (fun c => decide (c.zone < 16) && decide (c.queue < 16))
  | .time _ => true
  | .delayReq => true
  | .delayResp _ _ => true

/-- The operands of a command lie in the ranges that the spec gives what they stand for. -/
def Instr.wf (i : Instr) : Bool :=
  match i with
  | .counterLowRead _ r => barWord r.a
  | .l3Boundary x => x % 1000000 == 0
  | .l2Boundary x => x % 250000 == 0
  | .l1Boundary x => x % 50000 == 0
  | .burstFreeze raw muxed => decide (raw.length = 128) && decide (muxed.length = 16)
  | .smwPayloadWrite _ _ o data => decide (0 < data.length) && decide (o.val + data.length ≤ 4096)
  | .steadyFrameReceive _ _ m => m.wf
  | .thermalSample t => within (-256) 255 t
  | .registerWrite .. | .narrowRegisterWrite .. | .unmappedAccess .. | .domainOffAccess .. | .l0Boundary ..
  | .carrierMidpoint .. | .boundaryGeneratorStart .. | .imageLoad .. | .imageLoadDone .. | .patchGo ..
  | .patchCheckDone .. | .patchApply .. | .burstResult .. | .chCfgWrite .. | .chCoefWrite .. | .refEnSet ..
  | .refSettled .. | .refEnClear .. | .rotEnSet .. | .rotEnClear .. | .rotationStepEnd .. | .converterCheckEnd ..
  | .syscalZero .. | .syscalFs .. | .syscalSave .. | .syscalAbort .. | .syscalStepEnd .. | .syscalSaveDone ..
  | .comparatorChange .. | .capArm .. | .capStop .. | .capTrigger .. | .capDone .. | .grpCommit ..
  | .grpSpareCommit .. | .grpForceTrip .. | .grpTripClr .. | .dutyShWrite .. | .dtCfgWrite .. | .grpCfgWrite ..
  | .tripPinCfgWrite .. | .groupTrip .. | .tripSetAfterEof .. | .gateEdge .. | .blankWindowClose .. | .syncInPulse ..
  | .l0Update .. | .statusFrameReceive .. | .statusFrameTimeout .. | .stoFbMismatch .. | .portRestart ..
  | .portRetrain .. | .linkSignalDetect .. | .trainDone .. | .trainTimeout .. | .delayDone .. | .linkLoss ..
  | .fbEdge .. | .comparePulseEnd .. | .wireFault .. | .stillTimeout .. | .fbFaultClr .. | .fbAlign .. | .fbCfgWrite ..
  | .cmpValWrite .. | .axisEnable .. | .axisDisable .. | .axisFaultClr .. | .srcReqWrite .. | .engineConfigWrite ..
  | .injGo .. | .injStop .. | .injectionDone .. | .ccapArm .. | .ccapStop .. | .ccapGo .. | .ccapTrigger ..
  | .ccapDone .. | .pgStart .. | .pgStop .. | .pgJogPos .. | .pgJogNeg .. | .pgTargetWrite .. | .pgLimitWrite ..
  | .pgVlimWrite .. | .stCfgWrite .. | .chopperCrossing .. | .fastDecayEnd .. | .holdCurrentTimeout ..
  | .learnWindowEnd .. | .ppOpen .. | .ppClose .. | .ppAbort .. | .ppQuery .. | .ppHeldCommand .. | .vtWrite ..
  | .vtSeal .. | .l3Evaluation .. | .framePublish .. | .assemblyDone .. | .solveStart .. | .sSubmit .. | .bSubmit ..
  | .abortS .. | .abortB .. | .classSJobEnd .. | .sDeadline .. | .batchStart .. | .batchEnd .. | .bDeadline ..
  | .nop .. | .mpy .. | .mac .. | .msu .. | .mpyi .. | .maci .. | .msui .. | .mac2 .. | .mac2i .. | .dmpy ..
  | .dmac .. | .dmac2 .. | .adda .. | .suba .. | .clra .. | .add .. | .sub .. | .adds .. | .subs .. | .and ..
  | .or .. | .xor .. | .andn .. | .asl .. | .asr .. | .lsr .. | .asls .. | .mulr .. | .muli .. | .min .. | .max ..
  | .abs .. | .neg .. | .cmp .. | .cmpi .. | .ext .. | .exti .. | .extd .. | .norm .. | .asra .. | .asla ..
  | .addaa .. | .lda .. | .ldi .. | .ldih .. | .movc .. | .ldx .. | .ldp .. | .bra .. | .call .. | .rts .. | .rti ..
  | .loopi .. | .loopg .. | .jmpr .. | .trap .. | .lexit .. | .bxv .. | .wait .. | .halt .. | .sync .. | .nopB ..
  | .interruptEntry .. | .breakpointHalt .. | .gcSoftRst .. | .gcHalt .. | .gcRun .. | .gcStep .. | .gcPcWrite ..
  | .gcDbgDataWrite .. | .pMemoryWrite .. | .coreBoot .. | .bootRomLoad .. | .wdogKick .. | .coreWatchdogExpiry ..
  | .enqGo .. | .hwEnqueueRetry .. | .jobDispatch .. | .affinityWindowEnd .. | .coreDone .. | .jobRelease ..
  | .completionPop .. | .smwFlagWrite .. | .smwPass .. | .smwReclaim .. | .flowCfgWrite .. | .chuckWatchdogExpiry ..
  | .safetySample .. | .inputFilterStop .. | .inputFilterRun .. | .testPulseStart .. | .testPulseEnd ..
  | .testRead .. | .heartbeatTimeout .. | .discrepancyTimeout .. | .resetPulse .. | .remoteTimeout ..
  | .ss1Timeout .. | .darkTestStart .. | .darkTestEnd .. | .outputFault .. | .edmTimeout .. | .contactorDelayEnd ..
  | .contactorStale .. | .tpsFault .. | .ssmOutcome .. | .crossCheckTimeout .. | .lockstepMismatch ..
  | .selfTestDone .. | .degradedTimeout .. | .portOpen .. | .portClose .. | .portStop .. | .portRelearn ..
  | .unlockTimeout .. | .lockTimeout .. | .travelTimeout .. | .obstacleDetect .. | .reverseDriveStart ..
  | .startBlankEnd .. | .sertikSlotStart .. | .sertikFrameReceive .. | .txCommit .. | .channelLoss ..
  | .srtEnWrite .. | .listenTimeout .. | .backoffEnd .. | .syncLoss .. | .takeoverCycleStart .. | .grantTimeout ..
  | .stepGo .. | .holdExit .. | .rateAdjWrite .. | .rateMaxWrite .. | .slewWrite .. | .slewEnd .. | .timeRunSet ..
  | .timeRunClear .. | .dtNsRead .. | .txtsPop .. | .ptpSyncTimeout .. | .roleChange .. | .refereeTimeout ..
  | .integratorTracking .. | .pairLinkTimeout .. | .swapDue .. | .fyverFrameReceive .. | .fyverLinkUp ..
  | .fyverLinkDown .. | .fyverTimeLoss .. | .imgSend .. | .consensusRoundStart .. | .consensusAverage ..
  | .fieldRefresh .. | .refreshTimeout .. | .fieldInputChange .. | .outputOverload .. | .ovldClr .. | .compareOutputEnd ..
  | .undervoltageLatch .. | .restoreReady .. | .groupAck .. | .crAppend .. | .crFlush .. | .flushTimeout ..
  | .nandProgrammeDone .. | .nandEraseDone .. | .rdGo .. | .imgWrGo .. | .imgWrDone .. | .scrubScan ..
  | .ethernetReceive .. | .netTxGo .. | .ethernetFrameSent .. | .ethernetLinkChange .. | .evtPendClear ..
  | .evtVecAck .. | .evtSet .. | .evtRouteWrite .. | .msixMessage .. | .perfClr .. | .perfHistClr ..
  | .snapshotWriteDone .. | .tagPcRead .. | .modeReqGo .. | .modeReqAbort .. | .modeChange ..
  | .modeRequestTimeout .. | .powerOnReset .. | .supplyReset .. | .resetNAssert .. | .pcieHotReset ..
  | .liveWatchdogExpiry .. | .deadCentreDemand .. | .safetyRamError .. | .imageShadowError .. | .engineParityError ..
  | .dtParityError .. | .sysRst .. | .rstBlkWrite .. | .optionLoadDone .. | .domainRelease .. | .refQualified ..
  | .refLost .. | .refRestore .. | .netPllUnlock .. | .clockGoodLoss .. | .latTolWrite .. | .clockRestart ..
  | .clockIdleStop .. | .wakeDone .. | .ledgerGrant .. | .throttleClear .. | .thermalRelease .. | .tripPinChange ..
  | .retDataRead .. | .memoryWindowWrite .. | .pcieLinkChange .. | .pcieConfigWrite .. | .netPllRelock ..
  | .nandReadDone .. | .standbyEdgeFrameSend .. | .waitResume .. | .illegalInstruction .. | .ppsPulse .. => true

end Sys2Proof
end

