-- ==== Sys2Proof/Safety.lean ====
section
/-!
DEFINITION. The words in which claims are made: when an access reaches its block, what stays the same between two states,
and the canonical form of the stored state.
-/
namespace Sys2Proof.Machine
open Sys2Proof

/-- A write by `w` at offset `a` reaches its block: BAR0 answers (R496), the domain is released and powered (R497), and
the host's write is not held back by HOST_PROXY (R510). -/
def State.takesWrite (s : State) (w : Req) (a : Nat) : Bool :=
  !(w == .host && s.evt.d3) && s.domOn (domOfAddr a) && !(w == .host && s.b SYS.HOST_CFG'HOST_PROXY)

/-- A read by `w` at offset `a` reaches its block (R496, R497). -/
def State.takesRead (s : State) (w : Req) (a : Nat) : Bool :=
  !(w == .host && s.evt.d3) && s.domOn (domOfAddr a)

/-- Every register reads as before, but for those at the offsets of a list. -/
def SameRegsBut (l : List Nat) (s t : State) : Prop := ∀ a, a ∉ l → t.rd a = s.rd a

/-- Every byte of memory reads as before. -/
def SameMem (s t : State) : Prop := ∀ a, t.ldb a = s.ldb a

/-- Every byte of memory outside `n` bytes from `a` reads as before. -/
def SameMemBut (a n : Nat) (s t : State) : Prop := ∀ x, x < a ∨ a + n ≤ x → t.ldb x = s.ldb x

/-- The registers and memories are in canonical form: equal contents are equal data. -/
def State.canonical (s : State) : Prop := Sparse.wf s.regs regReset = true ∧ Memory.wf s.mem = true

/-- A meaning answers a next state that satisfies `P`. -/
def Gives (r : Host.Outcome State Fault Refusal) (P : State → Prop) : Prop := ∃ t, r = .next t ∧ P t

end Sys2Proof.Machine
end

