-- ==== Sys2Proof/Certificates/Slice0/Obligations.lean ====
section
/-!
DEFINITION. The statements about the model, for the provers. Each says which rules of the spec it rests on.
-/
namespace Sys2Proof.Machine
open Sys2Proof

/-- The access by `w` at `a` is recorded in `t`, as R497 says, and nothing else has changed in registers and memory. -/
def AccessRecorded (s t : State) (w : Req) (a : Nat) (write : Bool) (kind : Nat) : Prop :=
  t.evtPending 0 = true ∧
  (s.b SYS.ACC_ERR_INFO'VALID = false →
    t.rdN SYS.ACC_ERR_ADDR = a ∧ t.b SYS.ACC_ERR_INFO'VALID = true ∧ t.f SYS.ACC_ERR_INFO'REQUESTER = reqCode w ∧
    t.b SYS.ACC_ERR_INFO'WRITE = write ∧ t.f SYS.ACC_ERR_INFO'KIND = kind) ∧
  (s.b SYS.ACC_ERR_INFO'VALID = true →
    t.rd SYS.ACC_ERR_ADDR = s.rd SYS.ACC_ERR_ADDR ∧ t.rd SYS.ACC_ERR_INFO = s.rd SYS.ACC_ERR_INFO) ∧
  SameRegsBut [SYS.ACC_ERR_ADDR, SYS.ACC_ERR_INFO, EVT.EVT_PEND 0] s t ∧ SameMem s t

/-- TIME is the only domain that is released and powered, the generator of boundaries runs, no slew is in progress, DT advances at
each edge, no image is in force, and neither a request for a mode nor a patch waits. -/
def OnlyTimeRuns (s : State) : Prop :=
  (∀ d, s.domOn d = decide (d = pdTIME)) ∧ (∀ d, d ≠ pdTIME → s.released d = false) ∧ s.cycRun = true ∧
  s.time.slewLeft = 0 ∧ 0 < dtIncr s.time.rate ∧ s.imgValid = false ∧ s.f SYS.MODE_STAT'REQ_STATE = 0 ∧ s.f SYS.PATCH_STAT'STATE = 0

/-- An L3 boundary due at `x` has been made before the lower level's boundary at `x` (R20); no register but CYCLE_STAT has changed. -/
def HigherFirst (s t : State) (x : Nat) : Prop :=
  (x % 1000000 = 0 ∧ s.time.l3next ≤ x → t.time.l3next = x + 1000000 ∧
    t.f SYS.CYCLE_STAT'L3_SEQ =
      (if x = s.time.startNs then s.f SYS.CYCLE_STAT'L3_SEQ else (s.f SYS.CYCLE_STAT'L3_SEQ + 1) % 65536)) ∧
  (¬(x % 1000000 = 0 ∧ s.time.l3next ≤ x) → t.time.l3next = s.time.l3next ∧ t.rd SYS.CYCLE_STAT = s.rd SYS.CYCLE_STAT) ∧
  SameRegsBut [SYS.CYCLE_STAT] s t

end Sys2Proof.Machine

open Sys2Proof Sys2Proof.Machine

/-- Where a command waits, one step is that command's meaning on the state whose queue is the rest; where none waits, one
step answers a next state in which one edge of the module's clock has passed (model's choice, log entry 49). -/
def Obligations.StepRunsFrontCommand : Prop :=
  (∀ (s : State) (c : Instr) (q : List Instr), s.pending = c :: q → step s = exec c { s with pending := q }) ∧
  (∀ s : State, s.pending = [] → step s = .next s.tick)

/-- A write that reaches a register without rules of its own sets an RW field, ignores an RO field, clears the W1C bits
written 1, ignores an unlisted value of an enumeration, and sets an RWL field only while its lock bit is clear; every
other register and every byte of memory keeps its value. Rules: R5, R6, R9. -/
def Obligations.PlainWritesObeyAccessCodes : Prop :=
  (∀ (s : State) (w : Req) (v : Word), s.takesWrite w DIO.DIO_OUT = true →
    Gives (exec (.registerWrite w (BitVec.ofNat 24 (DIO.DIO_OUT / 4)) v) s) fun t =>
      t.f DIO.DIO_OUT'OUT = bitsOf v 15 0 ∧ SameRegsBut [DIO.DIO_OUT] s t ∧ SameMem s t) ∧
  (∀ (s : State) (w : Req) (k : Nat) (v : Word), k < 8 → s.takesWrite w (EVT.EVT_EN k) = true →
    Gives (exec (.registerWrite w (BitVec.ofNat 24 (EVT.EVT_EN k / 4)) v) s) fun t =>
      t.rd (EVT.EVT_EN k) = v ∧ SameRegsBut [EVT.EVT_EN k] s t ∧ SameMem s t) ∧
  (∀ (s : State) (w : Req) (v : Word), s.takesWrite w SYS.CHIP_ID = true →
    Gives (exec (.registerWrite w (BitVec.ofNat 24 (SYS.CHIP_ID / 4)) v) s) fun t =>
      SameRegsBut [] s t ∧ SameMem s t) ∧
  (∀ (s : State) (w : Req) (v : Word), s.takesWrite w DIO.DIO_IN_RISE = true →
    Gives (exec (.registerWrite w (BitVec.ofNat 24 (DIO.DIO_IN_RISE / 4)) v) s) fun t =>
      (∀ i, i < 32 → t.fbit DIO.DIO_IN_RISE'RISE i = (s.fbit DIO.DIO_IN_RISE'RISE i && !bit v.toNat i)) ∧
      SameRegsBut [DIO.DIO_IN_RISE] s t ∧ SameMem s t) ∧
  (∀ (s : State) (w : Req) (p : Nat) (v : Word), p < 2 → s.takesWrite w (TIME.PTP_CFG p) = true →
    Gives (exec (.registerWrite w (BitVec.ofNat 24 (TIME.PTP_CFG p / 4)) v) s) fun t =>
      t.f (TIME.PTP_CFG'PROFILE p) = (if bitsOf v 30 29 ≤ 1 then bitsOf v 30 29 else s.f (TIME.PTP_CFG'PROFILE p)) ∧
      SameRegsBut [TIME.PTP_CFG p] s t ∧ SameMem s t) ∧
  (∀ (s : State) (w : Req) (v : Word), s.takesWrite w SYS.IMG_POLICY = true →
    Gives (exec (.registerWrite w (BitVec.ofNat 24 (SYS.IMG_POLICY / 4)) v) s) fun t =>
      t.f SYS.IMG_POLICY'REQUIRE_SIG =
        (if s.b SYS.IMG_POLICY'LOCK then s.f SYS.IMG_POLICY'REQUIRE_SIG else bitsOf v 0 0) ∧
      SameRegsBut [SYS.IMG_POLICY] s t ∧ SameMem s t)

/-- In every block's 64 KiB window, an access that reaches the block at an offset that holds no register returns 0 if it
is a read and changes no register and no byte of memory, whether it reads or writes. Rules: R7. -/
def Obligations.HolesReadZeroAndIgnoreWrites : Prop :=
  ∀ (s : State) (w : Req) (a : BitVec 24) (v : Word),
    4 * a.toNat < 0x1600000 → reservedAt (4 * a.toNat) = false → rowAt (4 * a.toNat) = none →
    (s.takesRead w (4 * a.toNat) = true →
      Gives (exec (.counterLowRead w ⟨BitVec.ofNat 25 a.toNat, .word, .good⟩) s) fun t => t.resp = .data 0 ∧ SameRegsBut [] s t ∧ SameMem s t) ∧
    (s.takesWrite w (4 * a.toNat) = true →
      Gives (exec (.registerWrite w a v) s) fun t => SameRegsBut [] s t ∧ SameMem s t)

/-- Unless BAR0 does not answer the host, or HOST_PROXY holds the host's write back: a narrow write, an access to a
reserved range and an access to a block whose domain is off raise EVT[0]; where nothing is recorded they leave the
byte offset, the requester, the direction and the kind in ACC_ERR_ADDR and ACC_ERR_INFO, and a record that stands is
kept. The domain-off access is answered with the error response, the unmapped read with 0. Every other register and
every byte of memory keeps its value. A host write held back by HOST_PROXY changes nothing and is not recorded. Rules:
R5, R497, R499, R510. -/
def Obligations.RefusedAccessesAreRecorded : Prop :=
  ∀ (s : State) (w : Req), ¬(w = .host ∧ s.evt.d3 = true) →
    (∀ a : BitVec 26, ¬(w = .host ∧ s.b SYS.HOST_CFG'HOST_PROXY = true) → Gives (exec (.narrowRegisterWrite w a) s) fun t =>
      AccessRecorded s t w a.toNat true 0) ∧
    (∀ (a : BitVec 24) (write : Bool), ¬(write = true ∧ w = .host ∧ s.b SYS.HOST_CFG'HOST_PROXY = true) →
      (reservedAt (4 * a.toNat) || (write && readOnlyWindow (4 * a.toNat))) = true →
      Gives (exec (.unmappedAccess w a write) s) fun t =>
        AccessRecorded s t w (4 * a.toNat) write 1 ∧ (write = false → t.resp = .data 0)) ∧
    (∀ (a : BitVec 24) (write : Bool), ¬(write = true ∧ w = .host ∧ s.b SYS.HOST_CFG'HOST_PROXY = true) →
      (reservedAt (4 * a.toNat) || (write && readOnlyWindow (4 * a.toNat))) = false →
      s.domOn (domOfAddr (4 * a.toNat)) = false →
      Gives (exec (.domainOffAccess w a write) s) fun t =>
        AccessRecorded s t w (4 * a.toNat) write 2 ∧ t.resp = (if w = .host then .completerAbort else .busError)) ∧
    (w = .host → s.b SYS.HOST_CFG'HOST_PROXY = true →
      (∀ a : BitVec 26, Gives (exec (.narrowRegisterWrite w a) s) fun t => SameRegsBut [] s t ∧ SameMem s t) ∧
      (∀ a : BitVec 24, Gives (exec (.unmappedAccess w a true) s) fun t => SameRegsBut [] s t ∧ SameMem s t))

/-- A read of the low word of POS_BND, P_OUT or DURABLE answers it and latches the high word for its requester alone,
which a read of the high word then answers; an 8-bit or 16-bit read of the low word delivers the bytes it names and
latches nothing. A read of RET_DATA advances RET_PTR by 4 bytes modulo its range and answers 0 while nothing has been
held in the upper retained SRAM, an error response on a double-bit error. A write to a word of the staging window,
capture RAM or core X or Y memory stores its four bytes there and nothing else; a write to a word of the lower
retained SRAM sets that word. Rules: R5, R8, R498, R556, R557. -/
def Obligations.LatchedRetainedAndWindowAccess : Prop :=
  (∀ (s : State) (w : Req) (a : Nat),
    ((∃ c, c < 72 ∧ a = FB.POS_BND_LO c) ∨ (∃ g, g < 72 ∧ a = PRF.P_OUT_LO g) ∨ (∃ p, p < 7 ∧ a = NAND.DURABLE_LO p)) →
    s.takesRead w a = true →
    Gives (exec (.counterLowRead w ⟨BitVec.ofNat 25 (a / 4), .word, .good⟩) s) (fun t =>
      t.resp = .data (s.rdN a) ∧ t.latched w (a + 4) = s.rdN (a + 4) ∧
      (∀ w' x, w' ≠ w → x < 2 ^ 32 → t.latched w' x = s.latched w' x) ∧ SameRegsBut [] s t ∧ SameMem s t) ∧
    Gives (exec (.counterLowRead w ⟨BitVec.ofNat 25 (a / 4 + 1), .word, .good⟩) s) (fun t =>
      t.resp = .data (s.latched w (a + 4)) ∧ t.latches = s.latches ∧ SameRegsBut [] s t ∧ SameMem s t) ∧
    (∀ i : Fin 4, Gives (exec (.counterLowRead w ⟨BitVec.ofNat 25 (a / 4), .byte i, .good⟩) s) fun t =>
      t.resp = .data (s.rdN a / 256 ^ i.val % 256) ∧ t.latches = s.latches ∧ SameRegsBut [] s t ∧ SameMem s t) ∧
    (∀ i : Fin 2, Gives (exec (.counterLowRead w ⟨BitVec.ofNat 25 (a / 4), .half i, .good⟩) s) fun t =>
      t.resp = .data (s.rdN a / 65536 ^ i.val % 65536) ∧ t.latches = s.latches ∧ SameRegsBut [] s t ∧ SameMem s t)) ∧
  (∀ (s : State) (w : Req) (bad : Bool), s.takesRead w RST.RET_DATA = true →
    Gives (exec (.retDataRead w bad) s) fun t =>
      t.f RST.RET_PTR'PTR = (s.f RST.RET_PTR'PTR + 1) % 2 ^ 13 ∧
      (bad = false → s.nand.upper = false → t.resp = .data 0) ∧
      (bad = true → t.resp = (if w = .host then .completerAbort else .busError)) ∧
      SameRegsBut [RST.RET_PTR] s t ∧ SameMem s t) ∧
  (∀ (s : State) (w : Req) (a : BitVec 24) (v : Word),
    (0x2000000 ≤ 4 * a.toNat ∧ 4 * a.toNat < 0x2400000) ∨ (0x3000000 ≤ 4 * a.toNat ∧ 4 * a.toNat < 0x3400000) ∨
      (0x2800000 ≤ 4 * a.toNat ∧ 4 * a.toNat < 0x3000000 ∧ 0x20000 ≤ 4 * a.toNat % 0x80000 ∧ 4 * a.toNat % 0x80000 < 0x60000) →
    s.takesWrite w (4 * a.toNat) = true →
    Gives (exec (.memoryWindowWrite w a v) s) fun t =>
      t.ldn (4 * a.toNat) 4 = v.toNat ∧ SameMemBut (4 * a.toNat) 4 s t ∧ SameRegsBut [] s t) ∧
  (∀ (s : State) (w : Req) (i : Nat) (v : Word), i < 8192 → s.takesWrite w (RST.RSRAM i) = true →
    Gives (exec (.memoryWindowWrite w (BitVec.ofNat 24 (RST.RSRAM i / 4)) v) s) fun t =>
      t.rd (RST.RSRAM i) = v ∧ SameRegsBut [RST.RSRAM i] s t ∧ SameMem s t)

/-- While the generator runs, no other domain is released and no slew is in progress, a boundary of a level at a multiple
of its period brings DT to it and sets the level's next boundary one period later; the L3 boundary advances L3_SEQ
modulo 65536 but at the starting instant; no other register and no byte of memory changes. A boundary of a higher
level that is due at the same instant is made first (R20). A boundary that is not a multiple of its period, or has
passed, does nothing. Rules: R18, R20, R21. -/
def Obligations.BoundariesAdvanceTheLevels : Prop :=
  ∀ (s : State) (x : Nat), OnlyTimeRuns s →
    (x % 1000000 = 0 → s.time.l3next ≤ x → Gives (exec (.l3Boundary x) s) fun t =>
      t.time.bnd = x ∧ t.time.l3next = x + 1000000 ∧ x ≤ t.ns ∧
      t.f SYS.CYCLE_STAT'L3_SEQ =
        (if x = s.time.startNs then s.f SYS.CYCLE_STAT'L3_SEQ else (s.f SYS.CYCLE_STAT'L3_SEQ + 1) % 65536) ∧
      SameRegsBut [SYS.CYCLE_STAT] s t ∧ SameMem s t) ∧
    (x % 250000 = 0 → s.time.l2next ≤ x → Gives (exec (.l2Boundary x) s) fun t =>
      t.time.bnd = x ∧ t.time.l2next = x + 250000 ∧ x ≤ t.ns ∧ HigherFirst s t x ∧ SameMem s t) ∧
    (x % 50000 = 0 → s.time.l1next ≤ x → Gives (exec (.l1Boundary x) s) fun t =>
      t.time.bnd = x ∧ t.time.l1next = x + 50000 ∧ x ≤ t.ns ∧ (x % 250000 = 0 → s.time.l2next ≤ x → t.time.l2next = x + 250000 ∧ HigherFirst s t x) ∧ SameRegsBut [SYS.CYCLE_STAT] s t ∧ SameMem s t) ∧
    (x % s.t0 = 0 → s.time.l0next ≤ x → Gives (exec (.l0Boundary x) s) fun t =>
      t.time.bnd = x ∧ t.time.l0next = x + s.t0 ∧ x ≤ t.ns ∧ (x % 50000 = 0 → s.time.l1next ≤ x → t.time.l1next = x + 50000) ∧ SameRegsBut [SYS.CYCLE_STAT] s t ∧ SameMem s t) ∧
    (x % 1000000 ≠ 0 ∨ x < s.time.l3next → exec (.l3Boundary x) s = .next s) ∧
    (x % 250000 ≠ 0 ∨ x < s.time.l2next → exec (.l2Boundary x) s = .next s) ∧
    (x % 50000 ≠ 0 ∨ x < s.time.l1next → exec (.l1Boundary x) s = .next s) ∧
    (x % s.t0 ≠ 0 ∨ x < s.time.l0next → exec (.l0Boundary x) s = .next s)

namespace Sys2Proof.Machine

/-- The first check of R40 that the staged image fails, with its LOAD_STAT code. -/
def State.loadVerdict (s : State) : Option ImgFail :=
  match s.sourceBytes 3 with
  | none => some (0x10, none)
  | some x => match s.checkFormat x with | some f => some f | none => s.checkContent x

end Sys2Proof.Machine

/-- IMG_CTRL.LOAD with one of the sources 1, 2 or 3 that reaches SYS, from a requester whose writes the module takes,
starts a load in M1 and M3: the mode becomes M2, VALID reads 0, LOAD_STAT reads IN_PROGRESS and SRC_USED names the
source. In M2 the write leaves LOAD_STAT and VALID as they are; in any other mode LOAD_STAT reads MODE and VALID is
kept. Rules: R39, R40. -/
def Obligations.ImageLoadTakesOrRefuses : Prop :=
  ∀ (s : State) (w : Req) (v : Word), s.takesWrite w SYS.IMG_CTRL = true → s.standbyWrite w = false →
    1 ≤ bitsOf v 2 0 → bitsOf v 2 0 ≤ 3 →
    Gives (exec (.imageLoad w v) s) fun t =>
      t.f SYS.IMG_CTRL'SRC = bitsOf v 2 0 ∧
      (s.mode = 1 ∨ s.mode = 3 → t.mode = 2 ∧ t.b SYS.IMG_STAT'VALID = false ∧ t.f SYS.IMG_STAT'LOAD_STAT = 1 ∧
        t.f SYS.IMG_STAT'SRC_USED = bitsOf v 2 0 ∧ t.sys.loading = true) ∧
      (s.mode = 2 → SameRegsBut [SYS.IMG_CTRL] s t ∧ SameMem s t) ∧
      (s.mode ≠ 1 ∧ s.mode ≠ 2 ∧ s.mode ≠ 3 →
        t.f SYS.IMG_STAT'LOAD_STAT = 0x1F ∧ t.f SYS.IMG_STAT'VALID = s.f SYS.IMG_STAT'VALID ∧
        SameRegsBut [SYS.IMG_CTRL, SYS.IMG_STAT] s t ∧ SameMem s t)

/-- When the checks of a load from the host's staging window end, an image that passes them all is in force (VALID = 1,
MODIFIED = 0, PATCH_COUNT = 0, LOAD_STAT OK, STRUCT_HASH from its header); else LOAD_STAT names the first failing
check, VALID stays as it is and the mode is M1. EVT[2] is pending in both cases. Rules: R40, R41. -/
def Obligations.ImageLoadDoneAppliesWholeOrNothing : Prop :=
  ∀ (s : State) (ecc corr bits : Nat), s.sys.loading = true → s.sys.loadSrc = 3 → s.f SYS.IMG_STAT'SRC_USED = 3 → s.mode = 2 →
    Gives (exec (.imageLoadDone ⟨ecc, corr, bits⟩) s) fun t =>
      t.sys.loading = false ∧ t.evtPending 2 = true ∧
      match s.loadVerdict with
      | some (st, _) => t.f SYS.IMG_STAT'LOAD_STAT = st % 256 ∧ t.f SYS.IMG_STAT'VALID = s.f SYS.IMG_STAT'VALID ∧ t.mode = 1
      | none => t.f SYS.IMG_STAT'LOAD_STAT = 2 ∧ t.b SYS.IMG_STAT'VALID = true ∧ t.f SYS.IMG_STAT'MODIFIED = 0 ∧
          t.f SYS.PATCH_STAT'PATCH_COUNT = 0 ∧
          t.rdN SYS.STRUCT_HASH_LO = leAt ((s.sourceBytes 3).getD []) 0x28 4 ∧
          t.rdN SYS.STRUCT_HASH_HI = leAt ((s.sourceBytes 3).getD []) 0x2C 4

/-- A GO of the host or supervisor with no patch under way makes STATE CHECKING for a buffer that DEVICE owns and gives
RESULT OWNER otherwise; with one under way RESULT is BUSY. The end of the checks makes STATE PENDING or refuses with
the first failing check's RESULT. A pending patch whose mode still allows it, with no request for a mode waiting,
applies: RESULT APPLIED, STATE IDLE, PATCH_COUNT one more (saturating), MODIFIED = 1, EVT[3] pending, and its buffer
has left DEVICE. Rules: R46, R47, R48. -/
def Obligations.PatchRunsThroughItsStates : Prop :=
  (∀ (s : State) (w : Req) (v : Word), s.takesWrite w SYS.PATCH_CTRL = true → s.standbyWrite w = false →
    s.hostOrSupv w = true →
    Gives (exec (.patchGo w v) s) fun t =>
      if s.f SYS.PATCH_STAT'STATE ≠ 0 then t.f SYS.PATCH_STAT'RESULT = 0x35 ∧ t.f SYS.PATCH_STAT'STATE = s.f SYS.PATCH_STAT'STATE
      else if s.owner (bitsOf v 10 0) = ownDEVICE then
        t.f SYS.PATCH_STAT'STATE = 1 ∧ t.sys.patch.buf = bitsOf v 10 0 ∧
        SameRegsBut [SYS.PATCH_CTRL, SYS.PATCH_STAT] s t ∧ SameMem s t
      else t.f SYS.PATCH_STAT'RESULT = 0x36 ∧ t.f SYS.PATCH_STAT'STATE = 0 ∧
        SameRegsBut [SYS.PATCH_CTRL, SYS.PATCH_STAT] s t ∧ SameMem s t) ∧
  (∀ s : State, s.f SYS.PATCH_STAT'STATE = 1 →
    Gives (exec .patchCheckDone s) fun t =>
      SameMem s t ∧
      match s.patchCheck s.sys.patch with
      | none => t.f SYS.PATCH_STAT'STATE = 2 ∧ t.sys.patch.checkedNs = s.ns ∧ SameRegsBut [SYS.PATCH_STAT] s t
      | some r => t.f SYS.PATCH_STAT'STATE = 0 ∧ t.f SYS.PATCH_STAT'RESULT = r % 256 ∧
          SameRegsBut [SYS.PATCH_STAT, CHUCK.SMW_FLAG s.sys.patch.buf] s t) ∧
  (∀ s : State, s.f SYS.PATCH_STAT'STATE = 2 → (patchModes s.sys.patch.ty).contains s.mode = true → s.f SYS.MODE_STAT'REQ_STATE = 0 →
    (s.sys.patch.ty = 0xE ∨ s.sys.patch.ty = 0xF ∨ s.sys.patch.ty = 0x10) →
    s.sys.patch.buf < 2048 → s.sys.patch.prevOwner ≠ ownDEVICE → s.sys.patch.prevOwner < 32 →
    Gives (exec .patchApply s) fun t =>
      t.f SYS.PATCH_STAT'STATE = 0 ∧ t.f SYS.PATCH_STAT'RESULT = 0 ∧
      t.f SYS.PATCH_STAT'PATCH_COUNT = min (s.f SYS.PATCH_STAT'PATCH_COUNT + 1) 0xFFFF ∧
      t.b SYS.IMG_STAT'MODIFIED = true ∧ t.evtPending 3 = true ∧ t.owner s.sys.patch.buf ≠ ownDEVICE)

/-- CH_CFG of a channel assigned to an axis is refused outside M3 or with DEC set, else it takes GAIN, DEC and, on
AIN[128..143] only, MUX. CH_COEF is taken in M3 only and clears the channel's CAL_DEFAULT state. Setting REF_EN starts
the settling interval, whose end, 2 ms after the write, sets REF_SETTLED and raises EVT[16]; clearing it clears
REF_SETTLED. Clearing ROT_EN leaves the step in progress running. No other register changes, and no memory. Rules:
R58, R62, R63, R64, R65, R70, R76. -/
def Obligations.ChannelAndReferenceWrites : Prop :=
  (∀ (s : State) (w : Req) (c : Fin 144) (v : Word), s.takesWrite w (ADC.CH_CFG c) = true →
    Gives (exec (.chCfgWrite w c v) s) fun t =>
      (if s.ainAssigned c = true ∧ (s.mode ≠ 3 ∨ bitsOf v 10 8 ≠ 0) then
        t.b ADC.ADC_ERR'CFG_REFUSED = true ∧ t.rd (ADC.CH_CFG c) = s.rd (ADC.CH_CFG c)
      else t.f (ADC.CH_CFG'GAIN c) = bitsOf v 5 4 ∧ t.f (ADC.CH_CFG'DEC c) = bitsOf v 10 8 ∧
        t.f (ADC.CH_CFG'MUX c) = (if c.val < 128 then 0 else bitsOf v 1 0) ∧ (t.ach c).pend = true) ∧
      SameRegsBut [ADC.ADC_ERR, ADC.CH_CFG c] s t ∧ SameMem s t) ∧
  (∀ (s : State) (w : Req) (c : Fin 144) (v : Word), s.takesWrite w (ADC.CH_COEF c) = true →
    Gives (exec (.chCoefWrite w c v) s) fun t =>
      (if s.mode = 3 then t.rd (ADC.CH_COEF c) = v ∧ (t.ach c).calDef = false ∧ (t.ach c).pend = true
        else t.rd (ADC.CH_COEF c) = s.rd (ADC.CH_COEF c)) ∧
      SameRegsBut [ADC.CH_COEF c] s t ∧ SameMem s t) ∧
  (∀ (s : State) (w : Req), s.takesWrite w ADC.ADC_CTRL = true →
    Gives (exec (.refEnSet w) s) (fun t =>
      t.b ADC.ADC_CTRL'REF_EN = true ∧ (s.b ADC.ADC_CTRL'REF_EN = false → t.adc.refNs = t.ns + 1) ∧
      SameRegsBut [ADC.ADC_CTRL] s t ∧ SameMem s t) ∧
    Gives (exec (.refEnClear w) s) (fun t =>
      t.b ADC.ADC_CTRL'REF_EN = false ∧
      (s.b ADC.ADC_CTRL'REF_EN = true → t.b ADC.ADC_STAT'REF_SETTLED = false ∧ t.adc.refNs = 0) ∧
      SameRegsBut [ADC.ADC_CTRL, ADC.ADC_STAT] s t ∧ SameMem s t) ∧
    (s.adc.rotWant = false → Gives (exec (.rotEnClear w) s) fun t =>
      t.b ADC.ADC_CTRL'ROT_EN = false ∧ SameRegsBut [ADC.ADC_CTRL] s t ∧ SameMem s t)) ∧
  (∀ s : State, s.domOn pdADC = true → s.adc.refNs ≠ 0 →
    Gives (exec .refSettled s) fun t =>
      t.b ADC.ADC_STAT'REF_SETTLED = true ∧ t.evtPending 16 = true ∧ t.adc.refNs = 0 ∧
      (s.domOn pdTIME = true → 0 < dtIncr s.time.rate → s.adc.refNs - 1 + 2000000 ≤ t.ns) ∧
      SameRegsBut [ADC.ADC_STAT, EVT.EVT_PEND 0, TIME.SLEW_LEFT] s t ∧ SameMem s t)

/-- ROT_EN set with all converters in service and its token free takes the next converter out. At the end of its step,
with ROT_EN clear, a converter within 64 raw LSB and 1 % of its trim takes the measured corrections and rejoins with
CONV_AGE 0; one outside is marked FAILED and EVT[16] is raised, and ROT_ACTIVE is 0 in both cases. A check that finds
a converter in service outside the limits sets its CONV_FAILED bit and ADC_FAULT and raises EVT[16]; one within them
changes no register. Rules: R67, R69, R71, R72. -/
def Obligations.RotationJudgesConverters : Prop :=
  (∀ (s : State) (w : Req), s.takesWrite w ADC.ADC_CTRL = true → s.b ADC.ADC_CTRL'ROT_EN = false →
    s.f ADC.ADC_STAT'CONV_FAILED = 0 → s.b ADC.ADC_STAT'ROT_ACTIVE = false → s.adc.rotNext < 8 →
    s.ledgerUsed + 1 ≤ s.budget → s.pwr.waiting = [] →
    Gives (exec (.rotEnSet w) s) fun t =>
      t.b ADC.ADC_CTRL'ROT_EN = true ∧ t.b ADC.ADC_STAT'ROT_ACTIVE = true ∧ t.f ADC.ADC_STAT'OUT_CONV = s.adc.rotNext ∧
      t.ledgerUsed = s.ledgerUsed + 1) ∧
  (∀ (s : State) (ofs gain : Int), s.domOn pdADC = true → s.b ADC.ADC_STAT'ROT_ACTIVE = true → s.b ADC.ADC_CTRL'ROT_EN = false →
    Gives (exec (.rotationStepEnd ofs gain) s) fun t =>
      have i := s.f ADC.ADC_STAT'OUT_CONV
      t.b ADC.ADC_STAT'ROT_ACTIVE = false ∧ t.ledgerHolds 5 0 = false ∧
      (if convBad (s.convTrim i) (ofs, gain) = true then
        t.fbit ADC.ADC_STAT'CONV_FAILED i = true ∧ t.evtPending 16 = true ∧ t.rd (ADC.CONV_CORR i) = s.rd (ADC.CONV_CORR i)
      else t.f (ADC.CONV_CORR'OFS_CORR i) = uN 16 ofs ∧ t.f (ADC.CONV_CORR'GAIN_CORR i) = uN 16 gain ∧
        t.rdN (ADC.CONV_AGE i) = 0)) ∧
  (∀ (s : State) (ofs gain : Int), s.domOn pdADC = true → s.f ADC.ADC_STAT'CONV_FAILED ≠ 0 → s.adc.chkRun = true →
    s.adc.chkConv < 8 →
    Gives (exec (.converterCheckEnd ofs gain) s) fun t =>
      (if convBad (s.convTrim s.adc.chkConv) (ofs, gain) = true then
        t.fbit ADC.ADC_STAT'CONV_FAILED s.adc.chkConv = true ∧ t.b ADC.ADC_STAT'ADC_FAULT = true ∧ t.evtPending 16 = true
      else SameRegsBut [] s t) ∧
      SameRegsBut [ADC.ADC_STAT, EVT.EVT_PEND 0] s t ∧ SameMem s t)

/-- With no capture running, the first freeze of a burst brings DT to its instant and appends 144 channel results; with
converter corrections 0, VALUE is the 16-bit saturation of the convergent rounding of (4 raw - O)(65536 + G) / 65536.
The end of a burst writes each undecimated channel's result word, whose VALUE is the mean of its contributing freezes
or, where that is not valid, the last one. An input that has stood for QUAL clocks beyond HI_TH or LO_TH, with the
hysteresis on the way back, makes the OR of the enabled directions the trip output; a change of it shows in CMP_LIVE,
sets its CMP_LATCH bit and raises EVT[18] where enabled. One that has stood for less changes nothing. Rules: R49, R52,
R55, R56, R57, R77, R78, R79. -/
def Obligations.BurstsFreezeAndReport : Prop :=
  (∀ (s : State) (raw muxed : List (BitVec 14)), s.cycRun = true → s.domOn pdADC = true → s.adc.burst = [] →
    (∀ i, i < 8 → s.convCorr i = (0, 0)) → s.f ADC.CAP_STAT'STATE ≠ 2 → s.f ADC.CAP_STAT'STATE ≠ 3 →
    Gives (exec (.burstFreeze raw muxed) s) fun t =>
      SameRegsBut [TIME.SLEW_LEFT] s t ∧ SameMem s t ∧
      (s.domOn pdTIME = true → 0 < dtIncr s.time.rate → s.freezeDt 0 ≤ t.time.dt) ∧
      ∃ z : Freeze, t.adc.burst = [z] ∧ z.ch.length = 144 ∧
        z.ref = (s.b ADC.ADC_CTRL'REF_EN && s.b ADC.ADC_STAT'REF_SETTLED) ∧ z.fault = s.b ADC.ADC_STAT'ADC_FAULT ∧
        ∀ c, c < 144 →
          (z.ch.getD c default).val = satI 16 (rdiv ((4 * ((raw ++ muxed).getD c 0).toInt - sxN 16 (bitsOf (s.effCoef c) 15 0)) *
            (65536 + sxN 16 (bitsOf (s.effCoef c) 31 16))) 65536)) ∧
  (∀ (s : State), s.domOn pdADC = true → s.adc.burst.length = s.burstN →
    Gives (exec .burstResult s) fun t =>
      t.adc.burst = [] ∧ t.adc.lastBurst = s.adc.burst ∧ SameMem s t ∧
      ∀ c, c < 144 → bitsOf (s.effCfg c) 10 8 = 0 →
        have q := burstOf s.adc.burst c (sxN 16 ((s.ach c).slot % 65536))
        bit (t.rdN (ADC.RES c)) 31 = q.1.valid ∧ bit (t.rdN (ADC.RES c)) 30 = q.1.settling ∧
        bitsOf (t.rd (ADC.RES c)) 15 0 = (if q.1.valid = true then uN 16 q.1.val else bitsOf (s.rd (ADC.RES c)) 15 0) ∧
        bitsOf (t.rd (ADC.RES c)) 23 16 = s.f ADC.ADC_STAT'BSEQ % 256) ∧
  (∀ (s : State) (c : Fin 144) (uv : Int) (n : Nat), s.domOn pdADC = true → n < bitsOf (s.effCfg c) 22 20 →
    exec (.comparatorChange c uv n) s = .next s) ∧
  (∀ (s : State) (c : Fin 144) (uv : Int) (n : Nat), s.domOn pdADC = true → bitsOf (s.effCfg c) 22 20 ≤ n → s.cmpRev c = false →
    Gives (exec (.comparatorChange c uv n) s) fun t =>
      have v := s.cmpInput c uv
      have hys : Int := match bitsOf (s.effCfg c) 19 18 with | 0 => 0 | 1 => 4000 | 2 => 8000 | _ => 16000
      have hi : Int := ((s.f (ADC.CMP_TH'HI_TH c) : Int) - 128) * 16000
      have lo : Int := ((s.f (ADC.CMP_TH'LO_TH c) : Int) - 128) * 16000
      have above := decide ((if (s.ach c).above = true then hi - hys else hi) < v)
      have below := decide (v < (if (s.ach c).below = true then lo + hys else lo))
      have out := (above && bit (s.effCfg c).toNat 16) || (below && bit (s.effCfg c).toNat 17)
      have was := bit (s.rdN (ADC.CMP_LIVE (c.val / 32))) (c.val % 32)
      bit (t.rdN (ADC.CMP_LIVE (c.val / 32))) (c.val % 32) = out ∧
      bit (t.rdN (ADC.CMP_LATCH (c.val / 32))) (c.val % 32) = (bit (s.rdN (ADC.CMP_LATCH (c.val / 32))) (c.val % 32) || (out != was)) ∧
      (out ≠ was → bit (s.effCfg c).toNat 24 = true → t.evtPending 18 = true) ∧
      SameRegsBut [ADC.CMP_LIVE (c.val / 32), ADC.CMP_LATCH (c.val / 32), EVT.EVT_PEND 0] s t ∧ SameMem s t)

/-- ZERO, FS, SAVE and ABORT outside M3 give CAL_REFUSED_MODE. In M3 with none running and the range settled, ZERO and FS
(after a ZERO of the range) start RUNNING, and SAVE starts its record. A step of 4096 results ends with ZERO_DONE,
FS_DONE (O and G written), CAL_RANGE or CAL_UNSTABLE; a SAVE with SAVED and REC_ID or CAL_FLASH; ABORT of a
calibration begun restores the coefficients in force before ZERO with CAL_ABORTED; EVT[17] is pending at each end.
Rules: R73, R74, R75, R76. -/
def Obligations.SystemCalibrationSteps : Prop :=
  (∀ (s : State) (w : Req) (v : Word), s.takesWrite w ADC.SYSCAL_CTRL = true → s.standbyWrite w = false → s.mode ≠ 3 →
    ∀ c, c = Instr.syscalZero w v ∨ c = .syscalFs w v ∨ c = .syscalSave w v ∨ c = .syscalAbort w v →
    Gives (exec c s) fun t =>
      t.f ADC.SYSCAL_STAT'STATUS = 0x40 ∧ SameRegsBut [ADC.SYSCAL_CTRL, ADC.SYSCAL_STAT] s t ∧ SameMem s t) ∧
  (∀ (s : State) (w : Req) (v : Word), s.takesWrite w ADC.SYSCAL_CTRL = true → s.mode = 3 → s.adc.calStep = 0 →
    1 ≤ bitsOf v 15 8 → bitsOf v 7 0 + bitsOf v 15 8 ≤ 144 → s.b ADC.ADC_STAT'REF_SETTLED = true →
    (∀ i, i < bitsOf v 15 8 → bit (s.rdN (ADC.RES (bitsOf v 7 0 + i))) 30 = false) →
    Gives (exec (.syscalZero w v) s) (fun t =>
      t.f ADC.SYSCAL_STAT'STATUS = 1 ∧ t.adc.calStep = 1 ∧ t.adc.calN = 0 ∧
      SameRegsBut [ADC.SYSCAL_CTRL, ADC.SYSCAL_STAT] s t ∧ SameMem s t) ∧
    (s.adc.calZeroed = true → s.adc.calFirst = bitsOf v 7 0 → s.adc.calCount = bitsOf v 15 8 →
      Gives (exec (.syscalFs w v) s) fun t =>
        t.f ADC.SYSCAL_STAT'STATUS = 1 ∧ t.adc.calStep = 2 ∧ t.adc.calN = 0 ∧
        SameRegsBut [ADC.SYSCAL_CTRL, ADC.SYSCAL_STAT] s t ∧ SameMem s t)) ∧
  (∀ (s : State) (w : Req) (v : Word), s.takesWrite w ADC.SYSCAL_CTRL = true → s.standbyWrite w = false → s.mode = 3 →
    s.adc.calStep = 0 → 1 ≤ bitsOf v 15 8 → bitsOf v 7 0 + bitsOf v 15 8 ≤ 144 → s.b ADC.ADC_STAT'REF_SETTLED = true →
    (∀ i, i < bitsOf v 15 8 → bit (s.rdN (ADC.RES (bitsOf v 7 0 + i))) 30 = false) →
    Gives (exec (.syscalSave w v) s) fun t =>
      t.f ADC.SYSCAL_STAT'STATUS = 1 ∧ t.adc.calStep = 3 ∧ t.adc.saveId = (s.nand.recId + 1) % 65536) ∧
  (∀ (s : State) (w : Req) (v : Word), s.takesWrite w ADC.SYSCAL_CTRL = true → s.mode = 3 → s.adc.calBegun = true →
    Gives (exec (.syscalAbort w v) s) fun t =>
      t.f ADC.SYSCAL_STAT'STATUS = 0x46 ∧ t.adc.calStep = 0 ∧ t.evtPending 17 = true ∧ SameMem s t ∧
      ∀ c, c < 144 → t.rdN (ADC.CH_COEF c) = (s.ach c).saveCoef % 2 ^ 32 ∧ (t.ach c).calDef = (s.ach c).saveDef) ∧
  (∀ s : State, s.domOn pdADC = true → s.adc.calN = 4096 → s.adc.calStep = 1 ∨ s.adc.calStep = 2 →
    s.adc.calFirst + s.adc.calCount ≤ 144 →
    Gives (exec .syscalStepEnd s) fun t =>
      have gain := fun c => calGain (s.ach c).calSum (s.ach c).zero (sxN 16 (s.f ADC.SYSCAL_TARGET'TARGET))
      have far := if s.adc.calStep = 1 then s.calChans.any (fun c => decide (2048 < (rdiv (s.ach c).calSum 4096).natAbs))
        else s.calChans.any (fun c => match gain c with | none => true | some g => decide (6554 < g.natAbs))
      t.evtPending 17 = true ∧ t.adc.calStep = 0 ∧ SameMem s t ∧
      t.f ADC.SYSCAL_STAT'STATUS = (if far = true then 0x43 else
        if s.calChans.any (fun c => calUnstable (s.ach c)) = true then 0x44 else s.adc.calStep + 1) ∧
      (t.f ADC.SYSCAL_STAT'STATUS = 3 → ∀ c, s.adc.calFirst ≤ c → c < s.adc.calFirst + s.adc.calCount →
        t.f (ADC.CH_COEF'O c) = uN 16 (s.ach c).zero ∧ t.f (ADC.CH_COEF'G c) = uN 16 ((gain c).getD 0))) ∧
  (∀ s : State, s.domOn pdADC = true → s.adc.calStep = 3 → s.nand.ops = [] → s.nand.cur = none →
    Gives (exec .syscalSaveDone s) fun t =>
      t.evtPending 17 = true ∧ t.adc.calStep = 0 ∧ SameMem s t ∧
      if (s.nand.pages.cells.find? (fun c => c.2.part == 3 && leAt c.2.data 0 1 == 1 && leAt c.2.data 2 2 == s.adc.saveId)).isSome = true
      then t.f ADC.SYSCAL_STAT'STATUS = 4 ∧ t.f ADC.SYSCAL_STAT'REC_ID = s.adc.saveId % 65536
      else t.f ADC.SYSCAL_STAT'STATUS = 0x45)

/-- CAP_ARM with a software trigger, no overlap and its token free gives ARMED with the write pointer 0. CAP_TRIGGER of an
armed capture whose trigger is GO from software, or whose event or comparator has occurred, gives TRIGGERED, the
trigger record's offset and POST records to go; CAP_DONE once they are written gives DONE and frees the token;
CAP_STOP of an armed capture gives IDLE and frees it. Rules: R80, R81. -/
def Obligations.AdcCaptureRuns : Prop :=
  (∀ (s : State) (w : Req) (v : Word), s.takesWrite w ADC.CAP_CTRL = true → bitsOf v 25 24 = 3 → bitsOf v 30 30 = 0 →
    s.capOverlap = false → s.ledgerHolds 6 0 = false → s.pwr.waiting = [] → s.ledgerUsed + 1 ≤ s.budget →
    Gives (exec (.capArm w v) s) fun t =>
      t.f ADC.CAP_STAT'STATE = 2 ∧ t.f ADC.CAP_STAT'WPTR = 0 ∧ t.f ADC.CAP_CTRL'POST = bitsOf v 15 0 ∧
      t.ledgerHolds 6 0 = true ∧ SameMem s t) ∧
  (∀ (s : State) (w : Req) (v : Word), s.takesWrite w ADC.CAP_CTRL = true → s.f ADC.CAP_STAT'STATE = 2 →
    Gives (exec (.capStop w v) s) fun t =>
      t.f ADC.CAP_STAT'STATE = 0 ∧ t.ledgerHolds 6 0 = false ∧ SameMem s t) ∧
  (∀ s : State, s.f ADC.CAP_STAT'STATE = 2 → s.f ADC.CAP_CTRL'TRIG_SRC = 3 ∨ s.evt.capTrig = true →
    Gives (exec .capTrigger s) fun t =>
      t.f ADC.CAP_STAT'STATE = 3 ∧ t.f ADC.CAP_TRIG_PTR'PTR = s.f ADC.CAP_STAT'WPTR ∧
      t.adc.postLeft = s.f ADC.CAP_CTRL'POST ∧ SameRegsBut [ADC.CAP_STAT, ADC.CAP_TRIG_PTR] s t ∧ SameMem s t) ∧
  (∀ s : State, s.f ADC.CAP_STAT'STATE = 3 → s.adc.postLeft = 0 →
    Gives (exec .capDone s) fun t =>
      t.f ADC.CAP_STAT'STATE = 4 ∧ t.ledgerHolds 6 0 = false ∧ SameMem s t)

namespace Sys2Proof.Machine

/-- Group `g` has latched a trip with cause `c` (R99, R100), and nothing else has changed in registers and memory but
the open windows. -/
def GroupLatched (s t : State) (g c : Nat) : Prop :=
  t.b (PWM.GRP_STAT'TRIPPED g) = true ∧ t.f (PWM.GRP_STAT'TRIP_CAUSE g) = c % 256 ∧ t.evtPending 24 = true ∧
  (∀ p, p < 3 → ((t.grp g).pair p).hi = false) ∧ ((t.grp g).pair 3).hi = false ∧ ((t.grp g).pair 3).low = false ∧
  (s.tripLow g = false → ∀ p, p < 4 → ((t.grp g).pair p).hi = false ∧ ((t.grp g).pair p).low = false ∧ ((t.grp g).pair p).due = []) ∧
  SameRegsBut ([PWM.GRP_STAT g, EVT.EVT_PEND 0] ++ (upto 32).map PWM.BLANK_STAT) s t ∧ SameMem s t

end Sys2Proof.Machine

/-- COMMIT of a group with SRC = HOST marks its main set ready (a remote group with changed dead times first waits for its
brick's acknowledgement), a mark inside the guard window is LATE; SPARE_COMMIT likewise for an INVERTER group's spare
set with SPARE_SRC = HOST; elsewhere both set WR_REFUSED. A duty is limited to HALF; a duty or dead time of a set that
is ready or not the host's, or a dead time outside M3, sets WR_REFUSED and changes nothing else. SRC and TRIP_STATE
change in M3 only. No other register and no memory changes. Pair 3 of a remote group ignores writes. Rules: R84, R86,
R89, R90, R91, R115. -/
def Obligations.ShadowSetWritesAndReadyMarks : Prop :=
  (∀ (s : State) (w : Req) (g : Fin 72), s.takesWrite w (PWM.GRP_CMD g) = true →
    Gives (exec (.grpCommit w g) s) fun t =>
      (if s.f (PWM.GRP_CFG'SRC g) ≠ 1 then t.b (PWM.GRP_STAT'WR_REFUSED g) = true ∧ SameRegsBut [PWM.GRP_STAT g] s t
      else
        have waits := (s.grpPort g).isSome && decide (g.val < 64) && s.dtChanged g && !s.b (PWM.GRP_STAT'SHADOW_READY g)
        t.b (PWM.GRP_STAT'SHADOW_READY g) = (s.b (PWM.GRP_STAT'SHADOW_READY g) || !waits) ∧
        (t.grp g).ackWait = (if (s.grpPort g).isSome ∧ g.val < 64 ∧ s.b (PWM.GRP_STAT'SHADOW_READY g) = false then waits else (s.grp g).ackWait) ∧
        (waits = false → s.inGuard = true → s.b (PWM.GRP_STAT'SHADOW_READY g) = false →
          t.b (PWM.GRP_STAT'LATE g) = true ∧ (t.grp g).lateMain = true)) ∧
      SameRegsBut ([PWM.GRP_STAT g, PWM.LATE_CNT g] ++ (s.grpPort g).toList.map (fun q => BLK.PORT_STAT q.1)) s t ∧ SameMem s t) ∧
  (∀ (s : State) (w : Req) (g : Fin 72), s.takesWrite w (PWM.GRP_CMD g) = true →
    Gives (exec (.grpSpareCommit w g) s) fun t =>
      (if s.f (PWM.GRP_CFG'MODE g) = 1 ∧ s.f (PWM.GRP_CFG'SPARE_SRC g) = 1 then
        t.b (PWM.GRP_STAT'SPARE_READY g) = true ∧
        (s.inGuard = true → s.b (PWM.GRP_STAT'SPARE_READY g) = false → t.b (PWM.GRP_STAT'LATE g) = true)
      else t.b (PWM.GRP_STAT'WR_REFUSED g) = true) ∧
      SameRegsBut [PWM.GRP_STAT g, PWM.LATE_CNT g] s t ∧ SameMem s t) ∧
  (∀ (s : State) (w : Req) (g : Fin 72) (p : Fin 4) (v : Word), s.takesWrite w (PWM.DUTY_SH g p) = true →
    Gives (exec (.dutyShWrite w g p v) s) fun t =>
      (if g.val < 64 ∧ p.val = 3 then SameRegsBut [] s t
      else if (s.f (PWM.GRP_CFG'SRC g) = 1 ∨ p.val = 3 ∧ s.f (PWM.GRP_CFG'MODE g) = 1 ∧ s.f (PWM.GRP_CFG'SPARE_SRC g) = 1) ∧
          s.setReady g p = false then
        t.rdN (PWM.DUTY_SH g p) = min (bitsOf v 15 0) (s.f PWM.PWM_STAT'HALF) ∧ SameRegsBut [PWM.DUTY_SH g p] s t
      else t.b (PWM.GRP_STAT'WR_REFUSED g) = true ∧ SameRegsBut [PWM.GRP_STAT g] s t) ∧ SameMem s t) ∧
  (∀ (s : State) (w : Req) (g : Fin 72) (p : Fin 4) (v : Word), s.takesWrite w (PWM.DT_CFG g p) = true →
    Gives (exec (.dtCfgWrite w g p v) s) fun t =>
      (if g.val < 64 ∧ p.val = 3 then SameRegsBut [] s t
      else if s.mode = 3 ∧ s.setReady g p = false then
        t.f (PWM.DT_CFG'DT_RISE g p) = bitsOf v 9 0 ∧ t.f (PWM.DT_CFG'DT_FALL g p) = bitsOf v 25 16 ∧
        SameRegsBut [PWM.DT_CFG g p] s t
      else t.b (PWM.GRP_STAT'WR_REFUSED g) = true ∧ SameRegsBut [PWM.GRP_STAT g] s t) ∧ SameMem s t) ∧
  (∀ (s : State) (w : Req) (g : Fin 72) (v : Word), s.takesWrite w (PWM.GRP_CFG g) = true →
    Gives (exec (.grpCfgWrite w g v) s) fun t =>
      t.f (PWM.GRP_CFG'SPARE_SRC g) = (if bitsOf v 9 8 ≤ 2 then bitsOf v 9 8 else s.f (PWM.GRP_CFG'SPARE_SRC g)) ∧
      t.f (PWM.GRP_CFG'MODE g) = s.f (PWM.GRP_CFG'MODE g) ∧
      (if s.mode = 3 then
        t.f (PWM.GRP_CFG'SRC g) = (if bitsOf v 5 4 ≤ 1 then bitsOf v 5 4 else s.f (PWM.GRP_CFG'SRC g)) ∧
        t.f (PWM.GRP_CFG'TRIP_STATE g) = bitsOf v 3 3
      else t.f (PWM.GRP_CFG'SRC g) = s.f (PWM.GRP_CFG'SRC g) ∧ t.f (PWM.GRP_CFG'TRIP_STATE g) = s.f (PWM.GRP_CFG'TRIP_STATE g) ∧
        (bitsOf v 5 4 ≠ s.f (PWM.GRP_CFG'SRC g) → t.b (PWM.GRP_STAT'WR_REFUSED g) = true)) ∧
      SameRegsBut [PWM.GRP_CFG g, PWM.GRP_STAT g] s t ∧ SameMem s t)

/-- FORCE_TRIP of a group that is not tripped latches it with cause 0xF0; a source that is enabled, active and not masked
latches it with the lowest such number; each raises EVT[24] and takes its high-side gates off, and with ALL_OFF every
gate. TRIP_CLR of a tripped group clears TRIPPED, or sets CLEAR_REJECTED while a source is active. A window closes
WIDTH counts after the latest edge; on an inactive source it only closes, on an active source that no other window
masks it trips every group with that source. A new pin polarity or a pin level held for QUAL counts shows in
TRIP_PIN_LIVE; one held for less does not. No other register and no memory changes. Rules: R94, R95, R96, R97, R98,
R99, R100, R103. -/
def Obligations.TripsLatchMaskAndClear : Prop :=
  (∀ (s : State) (w : Req) (g : Fin 72), s.takesWrite w (PWM.GRP_CMD g) = true → s.b (PWM.GRP_STAT'TRIPPED g) = false →
    Gives (exec (.grpForceTrip w g) s) fun t => GroupLatched s t g 0xF0) ∧
  (∀ (s : State) (g : Fin 72) (c : Nat), s.domOn pdCTL = true → s.b (PWM.GRP_STAT'TRIPPED g) = false →
    ((s.grpSources g).filter (fun x => s.srcActive x && !s.srcMasked x)).min? = some c →
    Gives (exec (.groupTrip g) s) fun t => GroupLatched s t g c) ∧
  (∀ (s : State) (w : Req) (g : Fin 72), s.takesWrite w (PWM.GRP_CMD g) = true →
    Gives (exec (.grpTripClr w g) s) fun t =>
      (if s.b (PWM.GRP_STAT'TRIPPED g) = false then SameRegsBut [] s t
      else if (s.grpSources g).any s.srcActive = true then
        t.b (PWM.GRP_STAT'TRIPPED g) = true ∧ t.b (PWM.GRP_STAT'CLEAR_REJECTED g) = true
      else t.b (PWM.GRP_STAT'TRIPPED g) = false ∧ (t.grp g).held = true) ∧
      SameRegsBut [PWM.GRP_STAT g] s t ∧ SameMem s t) ∧
  (∀ (s : State) (b : Fin 32), s.domOn pdCTL = true → s.b (PWM.BLANK_STAT'OPEN b) = true →
    have src := s.f (PWM.BLANK_CFG'SRC b)
    (s.srcActive src = false → Gives (exec (.blankWindowClose b) s) fun t =>
      t.b (PWM.BLANK_STAT'OPEN b) = false ∧ s.pwm.edgeTick.get b + s.f (PWM.BLANK_CFG'WIDTH b) ≤ t.time.ticks + 1 ∧
      SameRegsBut [PWM.BLANK_STAT b, TIME.SLEW_LEFT] s t ∧ SameMem s t) ∧
    (s.srcActive src = true →
      (∀ k, k < 32 → k ≠ b.val → s.b (PWM.BLANK_CFG'EN k) = true → s.f (PWM.BLANK_CFG'SRC k) = src → s.b (PWM.BLANK_STAT'OPEN k) = false) →
      Gives (exec (.blankWindowClose b) s) fun t =>
        ∀ g, g < 72 → src ∈ s.grpSources g → t.b (PWM.GRP_STAT'TRIPPED g) = true)) ∧
  (∀ (s : State) (w : Req) (v : Word), s.takesWrite w PWM.TRIP_PIN_CFG = true →
    Gives (exec (.tripPinCfgWrite w v) s) fun t =>
      t.f PWM.TRIP_PIN_CFG'POL = bitsOf v 15 0 ∧ t.f PWM.TRIP_PIN_CFG'QUAL = bitsOf v 18 16 ∧
      (∀ i, i < 16 → t.fbit PWM.TRIP_PIN_LIVE'LIVE i = (bit s.pwm.pinLow i != bit v.toNat i)) ∧
      SameRegsBut [PWM.TRIP_PIN_CFG, PWM.TRIP_PIN_LIVE] s t ∧ SameMem s t) ∧
  (∀ (s : State) (i : Fin 16) (level : Bool) (n : Nat), n < s.f PWM.TRIP_PIN_CFG'QUAL → exec (.tripPinChange i ⟨level, n⟩) s = .next s) ∧
  (∀ (s : State) (i : Fin 16) (level : Bool) (n : Nat), s.domOn pdCTL = true → s.f PWM.TRIP_PIN_CFG'QUAL ≤ n →
    Gives (exec (.tripPinChange i ⟨level, n⟩) s) fun t =>
      t.fbit PWM.TRIP_PIN_LIVE'LIVE i = (!level != s.fbit PWM.TRIP_PIN_CFG'POL i) ∧
      SameRegsBut [PWM.TRIP_PIN_LIVE] s t ∧ SameMem s t)

/-- A gate edge that is due sets that gate, leaves the other gates as they are and, where it changes the gate, opens the
windows of the enabled channels of its group. At a reload, a group whose main set was marked ready outside the guard
window takes duties and dead times of the whole set into its active set and loses the mark; a stepper group whose
chopper runs takes the dead times of DT_CFG; any other group with neither set ready keeps its active set. A SYNC_IN
pulse at a count of the period records its distance from the nearer reload less the delay. No other register and no
memory changes in the commands. Rules: R83, R85, R88, R96, R105. -/
def Obligations.EdgesAndReloadsDriveTheGates : Prop :=
  (∀ (s : State) (g : Fin 72) (p : Fin 4) (count : Nat) (high on : Bool), s.domOn pdCTL = true →
    p.val ∈ s.grpPairs g → (count, high, on) ∈ ((s.grp g).pair p).due → count < s.pwm.per →
    Gives (exec (.gateEdge g p count high on) s) fun t =>
      ((t.grp g).pair p).hi = (if high = true then on else ((s.grp g).pair p).hi) ∧
      ((t.grp g).pair p).low = (if high = true then ((s.grp g).pair p).low else on) ∧
      ((t.grp g).pair p).due = ((s.grp g).pair p).due.erase (count, high, on) ∧
      (∀ q, q < 4 → q ≠ p.val → (t.grp g).pair q = (s.grp g).pair q) ∧
      (on ≠ (if high = true then ((s.grp g).pair p).hi else ((s.grp g).pair p).low) →
        ∀ b, b < 32 → s.b (PWM.BLANK_CFG'EN b) = true → s.f (PWM.BLANK_CFG'GROUP b) = g.val → t.b (PWM.BLANK_STAT'OPEN b) = true) ∧
      (on = (if high = true then ((s.grp g).pair p).hi else ((s.grp g).pair p).low) → SameRegsBut [TIME.SLEW_LEFT] s t) ∧
      SameRegsBut (TIME.SLEW_LEFT :: (upto 32).map PWM.BLANK_STAT) s t ∧ SameMem s t) ∧
  (∀ (s : State) (x : Nat) (g : Fin 72), s.domOn pdCTL = true → s.pwm.relNs ≠ x + 1 →
    have t := s.pwmReload x
    (∀ n, n < 8 → g.val = 64 + n → s.grpMode g = modeSTEPPER → s.b (PRF.ST_CFG'EN n) = true → (s.grp g).lateMain = false →
      t.b (PWM.GRP_STAT'SHADOW_READY g) = false ∧ ∀ p, p < 4 → t.rd (PWM.DT_ACT g p) = s.rd (PWM.DT_CFG g p)) ∧
    (s.b (PWM.GRP_STAT'SHADOW_READY g) = true → (s.grp g).lateMain = false →
      t.b (PWM.GRP_STAT'SHADOW_READY g) = false ∧ ∀ p, p ∈ s.mainPairs g →
        t.rd (PWM.DUTY_ACT g p) = s.rd (PWM.DUTY_SH g p) ∧ t.rd (PWM.DT_ACT g p) = s.rd (PWM.DT_CFG g p)) ∧
    (s.b (PWM.GRP_STAT'SHADOW_READY g) = false → s.b (PWM.GRP_STAT'SPARE_READY g) = false → s.grpMode g ≠ modeSTEPPER → ∀ p, p < 4 →
        t.rd (PWM.DUTY_ACT g p) = s.rd (PWM.DUTY_ACT g p) ∧ t.rd (PWM.DT_ACT g p) = s.rd (PWM.DT_ACT g p)) ∧
    SameMem s t) ∧
  (∀ (s : State) (c : Nat), s.domOn pdCTL = true → s.b PWM.PWM_CTRL'SYNC_IN_EN = true → s.pwm.reloadTick ≤ s.time.ticks → s.count0 ≤ c →
    Gives (exec (.syncInPulse c) s) fun t =>
      t.pwm.gotPulse = true ∧ t.count0 = c ∧
      t.pwm.syncErr = (if 2 * c < s.pwm.per then (c : Int) else (c : Int) - s.pwm.per) - s.f PWM.SYNC_CFG'DELAY ∧
      SameRegsBut [TIME.SLEW_LEFT] s t ∧ SameMem s t)

namespace Sys2Proof.Machine

/-- Port `n` is DOWN; LOS_CNT counts a transition from UP; nothing else has changed in registers and memory. -/
def PortWentDown (s t : State) (n : Nat) : Prop :=
  t.f (BLK.PORT_STAT'STATE n) = 0 ∧ t.fbit BLK.BLK_UP'UP n = false ∧
  t.f (BLK.ERR_CNT'LOS_CNT n) =
    (if s.f (BLK.PORT_STAT'STATE n) = 3 then min (s.f (BLK.ERR_CNT'LOS_CNT n) + 1) 255 else s.f (BLK.ERR_CNT'LOS_CNT n)) ∧
  SameRegsBut [BLK.PORT_STAT n, BLK.BLK_UP, BLK.ERR_CNT n] s t ∧ SameMem s t

end Sys2Proof.Machine

/-- On a released LINK domain: signal on an enabled DOWN port gives TRAIN; 64 TRAIN sets give DELAY; 150 us in TRAIN give
DOWN and count TRAIN_FAIL; eight PING/PONG exchanges that spread by at most one count give UP with LINK_DELAY = (round
trip - TURN)/2 of the last and, with AUTO_RESUME, a RESTART request; a loss on an UP port gives DOWN and counts
LOS_CNT. RETRAIN gives DOWN in any state, and RESTART sets RESTART_PEND. BLK_UP follows. No other register and no
memory changes. (A half rounded to even and the last exchange: the model's choices, log entries 51 and 55.) Rules:
R119, R124. -/
def Obligations.BrickPortsTrainAndDrop : Prop :=
  ∀ (s : State) (n : Fin 16),
    (∀ w : Req, s.takesWrite w (BLK.PORT_CMD n) = true →
      Gives (exec (.portRestart w n) s) (fun t =>
        t.b (BLK.PORT_STAT'RESTART_PEND n) = true ∧ SameRegsBut [BLK.PORT_STAT n] s t ∧ SameMem s t) ∧
      Gives (exec (.portRetrain w n) s) fun t => PortWentDown s t n) ∧
    (s.domOn pdLINK = true → s.b (BLK.PORT_CFG'EN n) = true → s.f (BLK.PORT_STAT'STATE n) = 0 →
      Gives (exec (.linkSignalDetect n) s) fun t =>
        t.f (BLK.PORT_STAT'STATE n) = 1 ∧ t.fbit BLK.BLK_UP'UP n = false ∧
        SameRegsBut [BLK.PORT_STAT n, BLK.BLK_UP] s t ∧ SameMem s t) ∧
    (s.domOn pdLINK = true → s.f (BLK.PORT_STAT'STATE n) = 1 →
      Gives (exec (.trainDone n) s) (fun t =>
        t.f (BLK.PORT_STAT'STATE n) = 2 ∧ t.fbit BLK.BLK_UP'UP n = false ∧
        SameRegsBut [BLK.PORT_STAT n, BLK.BLK_UP] s t ∧ SameMem s t) ∧
      Gives (exec (.trainTimeout n) s) fun t =>
        t.f (BLK.PORT_STAT'STATE n) = 0 ∧ t.f (BLK.ERR_CNT'TRAIN_FAIL n) = min (s.f (BLK.ERR_CNT'TRAIN_FAIL n) + 1) 255 ∧
        (s.domOn pdTIME = true → 0 < dtIncr s.time.rate → (s.bport n).trainNs + 150000 ≤ t.ns) ∧
        SameRegsBut [BLK.PORT_STAT n, BLK.BLK_UP, BLK.ERR_CNT n, TIME.SLEW_LEFT] s t ∧ SameMem s t) ∧
    (∀ (l : List (Nat × Nat)) (x : Nat × Nat), exchangesOk (l ++ [x]) = false → exec (.delayDone n l x) s = .next s) ∧
    (∀ (l : List (Nat × Nat)) (trip turn : Nat), s.domOn pdLINK = true → s.f (BLK.PORT_STAT'STATE n) = 2 →
      (l ++ [(trip, turn)]).length = 8 →
      (∀ x y, x ∈ l ++ [(trip, turn)] → y ∈ l ++ [(trip, turn)] → x.1 + y.2 ≤ y.1 + x.2 + 1) →
      Gives (exec (.delayDone n l (trip, turn)) s) fun t =>
        t.f (BLK.PORT_STAT'STATE n) = 3 ∧ t.fbit BLK.BLK_UP'UP n = true ∧
        t.f (BLK.PORT_STAT'LINK_DELAY n) = uN 16 (rdiv ((trip : Int) - turn) 2) ∧
        t.b (BLK.PORT_STAT'RESTART_PEND n) = (s.b (BLK.PORT_STAT'RESTART_PEND n) || s.b (BLK.PORT_CFG'AUTO_RESUME n)) ∧
        SameRegsBut [BLK.PORT_STAT n, BLK.BLK_UP] s t ∧ SameMem s t) ∧
    (s.domOn pdLINK = true → s.f (BLK.PORT_STAT'STATE n) = 3 →
      Gives (exec (.linkLoss n) s) fun t => PortWentDown s t n)

/-- On an UP port, a status frame with the length, TYPE and CRC of R121 sets UP_HDR, UP_AXIS, T_BOARD and SEQ_APPLIED from
its bytes and the fault source of position a from its DESAT, OC and GATE_UV, and ends a RESTART request when it
reports OFF_STATE = 0; another frame only counts UP_CRC. On a port that is not UP a frame changes nothing. Two T0
without one set UP_LOST and raise EVT[32]. The trip commands that wait behind a frame are sent when it has left, and
the standby's edge frame PAIR_OFS counts after it was ready, with RELOAD_OFS from then. Rules: R109, R110, R113, R119,
R121, R122, R125, R448. -/
def Obligations.StatusFramesUpdateAnUpPort : Prop :=
  (∀ (s : State) (n : Fin 16) (fr : List Byte),
    (s.domOn pdLINK = false ∨ s.f (BLK.PORT_STAT'STATE n) ≠ 3 → exec (.statusFrameReceive n fr) s = .next s) ∧
    (s.domOn pdLINK = true → s.f (BLK.PORT_STAT'STATE n) = 3 →
      (fr.length ≠ 28 ∨ leAt fr 0 1 ≠ 0xA1 ∨ leAt fr 0x1A 2 ≠ crc16 (fr.take 26) →
        Gives (exec (.statusFrameReceive n fr) s) fun t =>
          t.f (BLK.ERR_CNT'UP_CRC n) = min (s.f (BLK.ERR_CNT'UP_CRC n) + 1) 65535 ∧
          SameRegsBut [BLK.ERR_CNT n] s t ∧ SameMem s t) ∧
      (fr.length = 28 → leAt fr 0 1 = 0xA1 → leAt fr 0x1A 2 = crc16 (fr.take 26) →
        Gives (exec (.statusFrameReceive n fr) s) fun t =>
          t.rdN (BLK.UP_HDR n) = leAt fr 4 4 ∧ t.f (BLK.UP_MISC'T_BOARD n) = leAt fr 0x18 1 ∧
          t.f (BLK.UP_MISC'SEQ_APPLIED n) = leAt fr 2 2 ∧
          (∀ a, a < 4 → t.rdN (BLK.UP_AXIS n a) = leAt fr (8 + 4 * a) 4 ∧
            bit (t.bport n).faults a = decide (leAt fr (8 + 4 * a) 1 % 8 ≠ 0)) ∧
          (bit (leAt fr 4 1) 0 = false → t.b (BLK.PORT_STAT'RESTART_PEND n) = false) ∧ SameMem s t))) ∧
  (∀ (s : State) (n : Fin 16), s.domOn pdLINK = true → s.f (BLK.PORT_STAT'STATE n) = 3 →
    Gives (exec (.statusFrameTimeout n) s) (fun t =>
      t.b (BLK.PORT_STAT'UP_LOST n) = true ∧ t.evtPending 32 = true ∧
      (s.domOn pdTIME = true → 0 < dtIncr s.time.rate → (s.bport n).lastStat + 2 * s.t0 ≤ t.ns) ∧
      SameRegsBut [TIME.SLEW_LEFT, BLK.PORT_STAT n, EVT.EVT_PEND 1] s t ∧ SameMem s t) ∧
    (∀ (q : List Nat) (td e k : Nat) (r : List (Nat × Nat)), s.domOn pdTIME = true → 0 < dtIncr s.time.rate →
      (s.bport n).tripQ = q ++ [td] → (s.bport n).tx = (e, k) :: r → Gives (exec (.tripSetAfterEof n) s) fun t =>
      e ≤ t.ns ∧ (t.bport n).lastTd = td ∧ (t.bport n).tripSets = (s.bport n).tripSets + 2 * (q.length + 1) ∧
      (t.bport n).tripQ = [] ∧ SameRegsBut [TIME.SLEW_LEFT] s t ∧ SameMem s t) ∧
    ((s.bport n).standbyFrame ≠ [] → Gives (exec (.standbyEdgeFrameSend n) s) fun t =>
      (t.bport n).lastFrame = laterFrame (s.bport n).standbyFrame (t.time.ticks - (s.bport n).readyTick) ∧
      (s.bport n).readyTick + s.f FYV.PAIR_CFG'PAIR_OFS ≤ t.time.ticks ∧ (t.bport n).standbyFrame = [] ∧
      (t.bport n).frames = (s.bport n).frames + 1 ∧ SameRegsBut [TIME.SLEW_LEFT] s t ∧ SameMem s t))

/-- On a counting channel without a reference (REF_KIND none, REF_SEEN 0) and with its compare unit disarmed, a change of
exactly one level that holds for FILT counts moves the position by one in the direction of the quadrature step
(reversed by DIR_INV), shows DIR and clears STILL; a change of both counts QERR_CNT and moves nothing; one that does
not hold counts nothing. The end of STILL_T sets STILL and clears INTERP_VALID; the carrier midpoint latches every
POS_MID; a compare pulse ends. No other register and no memory changes. Rules: R126, R127, R135, R137, R138, R144. -/
def Obligations.FeedbackCountsAndLatches : Prop :=
  (∀ (s : State) (c : Fin 72) (n hold : Nat) (track phase : Bool), s.domOn pdCTL = true → s.fbCounts c = true →
    (s.fbc c).skipTrack = false →
    (hold < s.f (FB.FB_CFG'FILT c) → Gives (exec (.fbEdge c track phase ⟨n, hold⟩) s) fun t =>
      t.fbc c = s.fbc c ∧ SameRegsBut [TIME.SLEW_LEFT, FB.WIRE_STAT c] s t ∧ SameMem s t) ∧
    (s.f (FB.FB_CFG'FILT c) ≤ hold → (track != (s.fbc c).track) = true → (phase != (s.fbc c).phase) = true → s.f (FB.FB_CFG'REF_KIND c) = 2 →
      Gives (exec (.fbEdge c track phase ⟨n, hold⟩) s) fun t =>
        t.f (FB.FB_STAT'QERR_CNT c) = min (s.f (FB.FB_STAT'QERR_CNT c) + 1) 255 ∧ (t.fbc c).pos = (s.fbc c).pos ∧
        SameRegsBut [TIME.SLEW_LEFT, FB.FB_STAT c, FB.WIRE_STAT c] s t ∧ SameMem s t) ∧
    (s.f (FB.FB_CFG'FILT c) ≤ hold → (track != (s.fbc c).track) ≠ (phase != (s.fbc c).phase) → s.f (FB.FB_CFG'REF_KIND c) = 2 →
      s.b (FB.FB_STAT'REF_SEEN c) = false → s.b (FB.CMP_CTRL'EN c) = false →
      Gives (exec (.fbEdge c track phase ⟨n, hold⟩) s) fun t =>
        have d := s.fbStepDir c (track != (s.fbc c).track) track phase
        (t.fbc c).pos = wrap32 ((s.fbc c).pos + d) ∧ (t.fbc c).track = track ∧ (t.fbc c).phase = phase ∧
        t.b (FB.FB_STAT'DIR c) = decide (d < 0) ∧ t.b (FB.FB_STAT'STILL c) = false ∧
        SameRegsBut [TIME.SLEW_LEFT, FB.FB_STAT c, FB.WIRE_STAT c] s t ∧ SameMem s t)) ∧
  (∀ (s : State) (c : Fin 72), s.domOn pdCTL = true →
    (s.b (FB.FB_STAT'STILL c) = false →
      Gives (exec (.stillTimeout c) s) fun t =>
        (s.fbc c).lastEdge + 400 * s.f (FB.SPD_CFG2'STILL_T c) ≤ t.time.ticks ∧
        t.b (FB.FB_STAT'STILL c) = true ∧ t.b (FB.FB_STAT'INTERP_VALID c) = false ∧ (t.fbc c).pos = (s.fbc c).pos ∧
        SameRegsBut [TIME.SLEW_LEFT, FB.FB_STAT c] s t ∧ SameMem s t) ∧
    ((s.fbc c).pulse = true → Gives (exec (.comparePulseEnd c) s) fun t =>
      (t.fbc c).pulse = false ∧ SameRegsBut [TIME.SLEW_LEFT] s t ∧ SameMem s t)) ∧
  (∀ s : State, s.domOn pdTIME = true → s.domOn pdCTL = true → s.cycRun = true → s.time.startNs < s.time.l0next →
    Gives (exec .carrierMidpoint s) fun t =>
      (∀ c, c < 72 → t.posMid c = sxN 40 (uN 40 ((s.advanceDt s.midDt).posWord c))) ∧
      SameRegsBut (TIME.SLEW_LEFT :: (upto 72).flatMap (fun c => [FB.POS_MID_LO c, FB.POS_MID_HI c])) s t ∧ SameMem s t)

/-- On a channel with sound pairs that no portal uses, legs of a pair that have been equal for over 200 ns set WIRE,
INTERP_VALID = 0, FB_FAULT with cause WIRE where no fault stood, the pair's bit in WIRE_STAT and EVT[40]; an axis in
RUN on that channel enters FAULT and its group trips. FAULT_CLR without a fault changes no register, with the cause
present sets CLR_REJECTED, else clears FB_FAULT and REF_SEEN and keeps the position. ALIGN moving sets ALIGN_REFUSED.
Rules: R141, R142, R143, R148, R168. -/
def Obligations.WireFaultsAndClears : Prop :=
  (∀ (s : State) (c : Fin 72) (legs : Fin 16) (held : Nat), s.domOn pdCTL = true →
    s.b (FB.WIRE_STAT'TRACK_BAD c) = false → s.b (FB.WIRE_STAT'PHASE_BAD c) = false →
    (∀ a, s.fbAxis c = some a → s.axGroup a < 72) → (∀ q, q ∈ s.cfg.portals → q.used = true → q.fb ≠ c.val) →
    have long := decide (80 < held)
    have bad := long && ((bit legs 0 == bit legs 1) || (bit legs 2 == bit legs 3))
    Gives (exec (.wireFault c ⟨legs, held⟩) s) fun t =>
      t.f (FB.WIRE_STAT'LEGS c) = legs.val ∧ t.b (FB.WIRE_STAT'TRACK_BAD c) = (long && bit legs 0 == bit legs 1) ∧
      t.b (FB.WIRE_STAT'PHASE_BAD c) = (long && bit legs 2 == bit legs 3) ∧ (t.fbc c).pos = (s.fbc c).pos ∧ SameMem s t ∧
      (bad = true → t.b (FB.FB_STAT'WIRE c) = true ∧ t.b (FB.FB_STAT'FB_FAULT c) = true ∧ t.evtPending 40 = true ∧
        t.b (FB.FB_STAT'INTERP_VALID c) = false ∧
        t.f (FB.FB_STAT'FAULT_CAUSE c) =
          (if s.b (FB.FB_STAT'FB_FAULT c) = true then s.f (FB.FB_STAT'FAULT_CAUSE c) else 2) ∧
        (s.fbAxis c = none → SameRegsBut [FB.WIRE_STAT c, FB.FB_STAT c, EVT.EVT_PEND 1] s t) ∧
        (∀ a, s.fbAxis c = some a → s.f (CTL.AX_STAT'STATE a) = 1 →
          t.f (CTL.AX_STAT'STATE a) = 3 ∧ t.b (PWM.GRP_STAT'TRIPPED (s.axGroup a)) = true ∧ t.evtPending 48 = true)) ∧
      (bad = false → SameRegsBut [FB.WIRE_STAT c] s t)) ∧
  (∀ (s : State) (w : Req) (c : Fin 72), s.takesWrite w (FB.FB_CMD c) = true →
    Gives (exec (.fbFaultClr w c) s) (fun t =>
      (t.fbc c).pos = (s.fbc c).pos ∧
      (if s.b (FB.FB_STAT'FB_FAULT c) = false then SameRegsBut [] s t
      else if s.fbCausePersists c = true then
        t.b (FB.FB_STAT'FB_FAULT c) = true ∧ t.b (FB.FB_STAT'CLR_REJECTED c) = true ∧
        t.b (FB.FB_STAT'REF_SEEN c) = s.b (FB.FB_STAT'REF_SEEN c)
      else t.b (FB.FB_STAT'FB_FAULT c) = false ∧ t.b (FB.FB_STAT'REF_SEEN c) = false ∧ (t.fbc c).run = 0) ∧
      SameRegsBut [FB.FB_STAT c] s t ∧ SameMem s t) ∧
    Gives (exec (.fbAlign w c) s) fun t =>
      (if s.b (FB.FB_STAT'STILL c) = true then (t.fbc c).alignPend = true ∧ SameRegsBut [] s t
      else t.b (FB.FB_STAT'ALIGN_REFUSED c) = true) ∧ SameRegsBut [FB.FB_STAT c] s t ∧ SameMem s t)

/-- A configuration write to the channel of an axis outside M3 sets CFG_REFUSED only; else FB_CFG takes its fields and EN
from 0 to 1 clears the position, SPD_CFG is ignored unless SPD_LO is below SPD_HI. A CMP_VAL ahead of or at the
position is stored; a behind one is advanced by the smallest n spacings that put it ahead, or disarms the unit where
the spacing is 0, SKIPPED gaining n (1 with spacing 0), and FIRE_ONCE gives one hit and one less. Rules: R135, R140,
R145, R149. -/
def Obligations.FeedbackConfigurationAndCompare : Prop :=
  (∀ (s : State) (w : Req) (c : Fin 72) (r : Fin 4) (v : Word), s.takesWrite w (fbCfgReg c r) = true →
    Gives (exec (.fbCfgWrite w c r v) s) fun t =>
      SameRegsBut [FB.FB_ERR, FB.FB_STAT c, fbCfgReg c r] s t ∧ SameMem s t ∧
      (if (s.fbAxis c).isSome = true ∧ s.mode ≠ 3 then
        t.b FB.FB_ERR'CFG_REFUSED = true ∧ t.rd (fbCfgReg c r) = s.rd (fbCfgReg c r)
      else
        (r.val = 0 → t.f (FB.FB_CFG'TPR_M1 c) = bitsOf v 11 0 ∧ t.f (FB.FB_CFG'EN c) = bitsOf v 31 31 ∧
          t.f (FB.FB_CFG'DIR_INV c) = bitsOf v 30 30 ∧ t.f (FB.FB_CFG'FILT c) = bitsOf v 27 24 ∧
          t.f (FB.FB_CFG'REF_KIND c) = (if bitsOf v 29 28 ≤ 2 then bitsOf v 29 28 else s.f (FB.FB_CFG'REF_KIND c)) ∧
          (t.fbc c).pos = (if s.b (FB.FB_CFG'EN c) = false ∧ bitsOf v 31 31 = 1 then 0 else (s.fbc c).pos)) ∧
        (r.val = 1 → if bitsOf v 15 0 < bitsOf v 31 16 then t.rd (FB.SPD_CFG c) = v else t.rd (FB.SPD_CFG c) = s.rd (FB.SPD_CFG c)))) ∧
  (∀ (s : State) (w : Req) (c : Fin 72) (v : Word), s.takesWrite w (FB.CMP_VAL c) = true →
    have dir := s.cmpDir c
    have ahead := wrap32 (v.toInt - (s.fbc c).pos) * dir
    have sp := s.rdN (FB.CMP_SPACING c)
    Gives (exec (.cmpValWrite w c v) s) fun t =>
      SameMem s t ∧
      (0 ≤ ahead → t.rd (FB.CMP_VAL c) = v ∧ SameRegsBut [FB.CMP_VAL c] s t) ∧
      (ahead < 0 → s.b (FB.CMP_CTRL'MODE c) = false →
        SameRegsBut [FB.CMP_VAL c, FB.CMP_STAT c, FB.CMP_CTRL c] s t ∧
        (sp = 0 → t.b (FB.CMP_CTRL'EN c) = false ∧
          t.f (FB.CMP_STAT'SKIPPED c) = min (s.f (FB.CMP_STAT'SKIPPED c) + 1) 65535) ∧
        (sp ≠ 0 → ∃ n : Nat, (-ahead) ≤ n * sp ∧ ((n : Int) - 1) * sp < -ahead ∧
          t.rdI (FB.CMP_VAL c) = wrap32 (v.toInt + dir * (n * sp : Nat)) ∧
          t.f (FB.CMP_STAT'SKIPPED c) = min (s.f (FB.CMP_STAT'SKIPPED c) + n) 65535)) ∧
      (ahead < 0 → s.b (FB.CMP_CTRL'MODE c) = true → (t.fbc c).pulse = true ∧
        t.f (FB.CMP_STAT'HITS c) = (s.f (FB.CMP_STAT'HITS c) + 1) % 65536 ∧
        (sp = 0 → t.b (FB.CMP_CTRL'EN c) = false ∧ t.f (FB.CMP_STAT'SKIPPED c) = s.f (FB.CMP_STAT'SKIPPED c))))

namespace Sys2Proof.Machine

/-- The registers that show the power ledger. -/
def ledgerRegs : List Nat := [PWR.LEDGER_STAT, PWR.LEDGER_CNT] ++ (upto 7).map PWR.LEDGER_CLASS

end Sys2Proof.Machine

/-- EN = 1 of a disabled axis sets EN unless R167 refuses it with EN_REFUSED; EN = 0 clears it. FAULT_CLR of an axis in
FAULT sets CLR_REJECTED while its cause persists, else moves it to TRIPPED while its group is tripped or its brick
off, and to RUN with source HOLD, p_ref = POS_BND and zero integrators otherwise. A source request is stored and waits
for the next L1 boundary, where a source that the mode does not permit is refused with SRC_REFUSED. The engine's
configuration registers take a write in M3 only, else CFG_REFUSED is set. No other register and no memory changes.
Rules: R160, R161, R166, R167, R169, R181. -/
def Obligations.AxisEnableSourceAndFaultClear : Prop :=
  (∀ (s : State) (w : Req) (a : Fin 64) (v : Word), s.takesWrite w (CTL.AX_CTRL a) = true → bit v.toNat 30 = false →
    bitsOf v 26 24 ≤ 5 →
    (s.b (CTL.AX_CTRL'EN a) = false → Gives (exec (.axisEnable w a v) s) fun t =>
      t.b (CTL.AX_CTRL'EN a) = !s.enRefused a ∧ (s.enRefused a = true → t.b (CTL.AX_FLAGS'EN_REFUSED a) = true) ∧
      t.f (CTL.AX_CTRL'SRC_REQ a) = bitsOf v 26 24 ∧ (t.ax a).srcPend = true ∧
      SameRegsBut [CTL.AX_CTRL a, CTL.AX_FLAGS a] s t ∧ SameMem s t) ∧
    Gives (exec (.axisDisable w a v) s) fun t =>
      t.b (CTL.AX_CTRL'EN a) = false ∧ t.f (CTL.AX_CTRL'SRC_REQ a) = bitsOf v 26 24 ∧
      SameRegsBut [CTL.AX_CTRL a] s t ∧ SameMem s t) ∧
  (∀ (s : State) (w : Req) (a : Fin 64), s.takesWrite w (CTL.AX_CTRL a) = true → s.f (CTL.AX_STAT'STATE a) = 3 →
    s.f (CTL.AX_CTRL'SRC_REQ a) ≤ 5 →
    Gives (exec (.axisFaultClr w a) s) fun t =>
      (if s.b (FB.FB_STAT'FB_FAULT (s.axTopo a).fb) = true ∨ s.f (CTL.AX_STAT'FAULT_CAUSE a) = 2 ∧ (s.ax a).lastBad = true then
        t.f (CTL.AX_STAT'STATE a) = 3 ∧ t.b (CTL.AX_FLAGS'CLR_REJECTED a) = true
      else if s.b (PWM.GRP_STAT'TRIPPED (s.axGroup a)) = true ∨ s.axOff a = true then t.f (CTL.AX_STAT'STATE a) = 2
      else t.f (CTL.AX_STAT'STATE a) = 1 ∧ t.f (CTL.AX_STAT'SRC_ACT a) = 0 ∧ (t.ax a).pRef = s.posBnd (s.axTopo a).fb ∧
        (t.ax a).iD = 0 ∧ (t.ax a).iQ = 0 ∧ (t.ax a).iV = 0) ∧
      SameRegsBut [CTL.AX_CTRL a, CTL.AX_FLAGS a, CTL.AX_STAT a, CTL.ID_REF a, CTL.IQ_REF a] s t ∧ SameMem s t) ∧
  (∀ (s : State) (w : Req) (a : Fin 64) (src : Fin 8), s.takesWrite w (CTL.AX_CTRL a) = true →
    s.b (CTL.AX_CTRL'FAULT_CLR a) = false →
    Gives (exec (.srcReqWrite w a src) s) fun t =>
      (src.val ≤ 5 → t.f (CTL.AX_CTRL'SRC_REQ a) = src.val ∧ (t.ax a).srcPend = true) ∧
      t.b (CTL.AX_CTRL'EN a) = s.b (CTL.AX_CTRL'EN a) ∧ SameRegsBut [CTL.AX_CTRL a] s t ∧ SameMem s t) ∧
  (∀ (s : State) (a : Fin 64), srcPermitted (s.f (CTL.AX_STAT'SRC_ACT a)) s.mode = true → (s.ax a).srcPend = true →
    s.f (CTL.AX_CTRL'SRC_REQ a) ≠ s.f (CTL.AX_STAT'SRC_ACT a) →
    have t := (s.axTransfer a).2
    (srcPermitted (s.f (CTL.AX_CTRL'SRC_REQ a)) s.mode = false →
      t.b (CTL.AX_FLAGS'SRC_REFUSED a) = true ∧ t.f (CTL.AX_STAT'SRC_ACT a) = s.f (CTL.AX_STAT'SRC_ACT a)) ∧
    (srcPermitted (s.f (CTL.AX_CTRL'SRC_REQ a)) s.mode = true →
      s.f (CTL.AX_CTRL'SRC_REQ a) = 0 ∨ s.f (CTL.AX_CTRL'SRC_REQ a) = 4 ∨ s.f (CTL.AX_CTRL'SRC_REQ a) = 5 →
      t.f (CTL.AX_STAT'SRC_ACT a) = s.f (CTL.AX_CTRL'SRC_REQ a))) ∧
  (∀ (s : State) (w : Req) (a : Fin 64) (r : Fin 256) (v : Word), isEngineCfg r = true →
    s.takesWrite w (CTL.AX_CTRL a + 4 * r.val) = true →
    Gives (exec (.engineConfigWrite w a r v) s) fun t =>
      (if s.mode = 3 then SameRegsBut [CTL.AX_CTRL a + 4 * r.val] s t ∧
        (r.val = 0x80 / 4 → t.rd (CTL.ISCALE a) = v) ∧ (r.val = 0xB0 / 4 → t.rd (CTL.FE_LIM a) = v) ∧
        (r.val = 0xA4 / 4 → t.f (CTL.VLIM'VLIM a) = (if bitsOf v 15 0 ≤ 0x8000 then bitsOf v 15 0 else s.f (CTL.VLIM'VLIM a)))
      else t.b CTL.ENG_ERR'CFG_REFUSED = true ∧ SameRegsBut [CTL.ENG_ERR] s t) ∧ SameMem s t)

/-- The turn of an assigned slot that is not done in this period marks it done. With EN = 0 the axis is DISABLED with zero
integrators, and its three duties are HALF/2 (for DISABLED the model's choice, log entry 14). In RUN no duty exceeds
HALF; an unusable sample sets SAMP_BAD and raises BAD_RUN, and at BAD_MAX the axis enters FAULT with cause SAMPLE; a
usable one sets BAD_RUN to 0 and shows the angle. The turn of a slot ends at its place in the rota. A slot that is
done only lets time pass, an unassigned one is DISABLED. No memory changes. Rules: R150, R156, R157, R165, R168. -/
def Obligations.CurrentLoopUpdates : Prop :=
  ∀ (s : State) (a : Fin 64), s.domOn pdCTL = true → s.cycRun = true → s.axGroup a < 72 →
    (s.axUsed a = false ∧ s.f (CTL.AX_STAT'STATE a) = 0 ∨ s.axUsed a = true ∧ bit s.ctl.l0done a = true → Gives (exec (.l0Update a) s) fun t =>
      SameRegsBut [TIME.SLEW_LEFT] s t ∧ SameMem s t) ∧
    (s.axUsed a = false → Gives (exec (.l0Update a) s) fun t => t.f (CTL.AX_STAT'STATE a) = 0 ∧ SameMem s t) ∧
    (s.domOn pdTIME = true → 0 < dtIncr s.time.rate → Gives (exec (.l0Update a) s) fun t => s.turnEnd (a.val / 4) ≤ t.time.dt) ∧
    (s.axUsed a = true → bit s.ctl.l0done a = false → s.axHost a = false → s.b (CTL.AX_CTRL'EN a) = false →
      Gives (exec (.l0Update a) s) fun t =>
        bit t.ctl.l0done a = true ∧ t.f (CTL.AX_STAT'STATE a) = 0 ∧ (t.ax a).iD = 0 ∧ (t.ax a).iQ = 0 ∧ (t.ax a).iV = 0 ∧
        t.rdN (CTL.ID_REF a) = 0 ∧ t.rdN (CTL.IQ_REF a) = 0 ∧
        (∀ p, p < 3 → t.rdN (PWM.DUTY_SH (s.axGroup a) p) = min (rdiv s.half 2).toNat s.half) ∧
        (t.b (PWM.GRP_STAT'SHADOW_READY (s.axGroup a)) = true ∨ (t.grp (s.axGroup a)).ackWait = true) ∧ SameMem s t) ∧
    (s.axUsed a = true → bit s.ctl.l0done a = false → s.axHost a = false → s.b (CTL.AX_CTRL'EN a) = true →
      s.f (CTL.AX_STAT'STATE a) = 1 → s.b (PWM.GRP_STAT'TRIPPED (s.axGroup a)) = false → s.axOff a = false →
      (s.ax a).hosted = false →
      Gives (exec (.l0Update a) s) fun t =>
        have good := usable (s.slotWord (s.axTopo a).ainA) && usable (s.slotWord (s.axTopo a).ainB)
        have bad := min (s.f (CTL.AX_STAT'BAD_RUN a) + 1) 255
        bit t.ctl.l0done a = true ∧ t.rdN (CTL.ANGLE a) = s.axAngle a ∧ (t.ax a).lastBad = !good ∧
        (∀ p, p < 3 → t.rdN (PWM.DUTY_SH (s.axGroup a) p) ≤ s.half) ∧ SameMem s t ∧
        (good = true → t.f (CTL.AX_STAT'BAD_RUN a) = 0 ∧ t.f (CTL.AX_STAT'STATE a) = 1) ∧
        (good = false → t.b (CTL.AX_FLAGS'SAMP_BAD a) = true ∧ t.f (CTL.AX_STAT'BAD_RUN a) = bad ∧
          (if s.f (CTL.FAULT_CFG'BAD_MAX a) ≤ bad then t.f (CTL.AX_STAT'STATE a) = 3 ∧ t.f (CTL.AX_STAT'FAULT_CAUSE a) = 2 ∧
            t.b (PWM.GRP_STAT'TRIPPED (s.axGroup a)) = true
          else t.f (CTL.AX_STAT'STATE a) = 1)))

/-- GO outside M3 or RUN gives ERR = MODE, with one running BUSY, with an unlisted PRBS length RANGE, each with
INJ_REFUSED; else PENDING with COUNT 0. STOP asks a running one to stop; after INJ_LEN samples it is DONE and raises
EVT[49]. The capture's ARM, in range, without overlap and with its token free, gives ARMED; an event or injection
start that it waits for, or GO from software, gives TRIGGERED with PRE_GOT and the record's offset; its last record
gives DONE and STOP gives IDLE, both freeing the token. No other register and no memory changes. Rules: R177, R178,
R179, R180. -/
def Obligations.InjectionAndEngineCapture : Prop :=
  (∀ (s : State) (w : Req) (a : Fin 64) (v : Word), s.takesWrite w (CTL.INJ_CTRL a) = true → bit v.toNat 30 = false →
    Gives (exec (.injGo w a v) s) fun t =>
      (if s.mode ≠ 3 ∨ s.f (CTL.AX_STAT'STATE a) ≠ 1 then
        t.f (CTL.INJ_STAT'ERR a) = 1 ∧ t.b (CTL.AX_FLAGS'INJ_REFUSED a) = true ∧ t.f (CTL.INJ_STAT'STATE a) = s.f (CTL.INJ_STAT'STATE a)
      else if s.f (CTL.INJ_STAT'STATE a) = 1 ∨ s.f (CTL.INJ_STAT'STATE a) = 2 then
        t.f (CTL.INJ_STAT'ERR a) = 3 ∧ t.b (CTL.AX_FLAGS'INJ_REFUSED a) = true
      else if bitsOf v 27 26 = 0 then
        (if (prbsTap (bitsOf v 20 16)).isSome = true then t.f (CTL.INJ_STAT'STATE a) = 1 ∧ t.f (CTL.INJ_STAT'ERR a) = 0 ∧
          t.f (CTL.INJ_STAT'COUNT a) = 0 ∧ (t.ax a).injReg = 2 ^ bitsOf v 20 16 - 1
        else t.f (CTL.INJ_STAT'ERR a) = 2 ∧ t.b (CTL.AX_FLAGS'INJ_REFUSED a) = true)
      else True) ∧
      t.f (CTL.INJ_CTRL'POINT a) = bitsOf v 29 28 ∧
      SameRegsBut [CTL.INJ_CTRL a, CTL.INJ_STAT a, CTL.AX_FLAGS a] s t ∧ SameMem s t) ∧
  (∀ (s : State) (w : Req) (a : Fin 64), s.takesWrite w (CTL.INJ_CTRL a) = true → s.b (CTL.INJ_CTRL'GO a) = false →
    s.f (CTL.INJ_STAT'STATE a) = 1 ∨ s.f (CTL.INJ_STAT'STATE a) = 2 →
    Gives (exec (.injStop w a) s) fun t => (t.ax a).injStop = true ∧ SameRegsBut [CTL.INJ_CTRL a] s t ∧ SameMem s t) ∧
  (∀ (s : State) (a : Fin 64), s.domOn pdCTL = true → s.f (CTL.INJ_STAT'STATE a) = 2 → s.rdN (CTL.INJ_LEN a) ≠ 0 →
    s.rdN (CTL.INJ_LEN a) ≤ (s.ax a).injN →
    Gives (exec (.injectionDone a) s) fun t =>
      t.f (CTL.INJ_STAT'STATE a) = 3 ∧ t.evtPending 49 = true ∧ SameRegsBut [CTL.INJ_STAT a, EVT.EVT_PEND 1] s t ∧ SameMem s t) ∧
  (∀ (s : State) (w : Req) (v : Word), s.takesWrite w CTL.CCAP_CTRL = true →
    (bit v.toNat 30 = false → bit v.toNat 29 = false → bitsOf v 26 24 = 4 → s.capOverlap = false →
      s.ccapBase + ccapLen ≤ 0x400000 → s.ledgerHolds 6 1 = false → s.pwr.waiting = [] → s.ledgerUsed + 1 ≤ s.budget →
      Gives (exec (.ccapArm w v) s) fun t =>
        t.f CTL.CCAP_STAT'STATE = 2 ∧ t.ledgerHolds 6 1 = true ∧ t.ctl.ccN = 0 ∧ t.f CTL.CCAP_CTRL'PRE = bitsOf v 13 0 ∧
        SameRegsBut ([CTL.CCAP_CTRL, CTL.CCAP_STAT] ++ ledgerRegs) s t ∧ SameMem s t) ∧
    (1 ≤ s.f CTL.CCAP_STAT'STATE → s.f CTL.CCAP_STAT'STATE ≤ 3 → bit v.toNat 29 = false →
      Gives (exec (.ccapStop w v) s) fun t =>
        t.f CTL.CCAP_STAT'STATE = 0 ∧ t.ledgerHolds 6 1 = false ∧
        SameRegsBut ([CTL.CCAP_CTRL, CTL.CCAP_STAT] ++ ledgerRegs) s t ∧ SameMem s t) ∧
    (s.f CTL.CCAP_STAT'STATE = 2 → bitsOf v 26 24 = 4 → s.ctl.ccW < 16384 →
      Gives (exec (.ccapGo w v) s) fun t =>
        t.f CTL.CCAP_STAT'STATE = 3 ∧ t.f CTL.CCAP_STAT'PRE_GOT = min (bitsOf v 13 0) s.ctl.ccN ∧
        t.f CTL.CCAP_TRIG_PTR'PTR = 16 * s.ctl.ccW ∧ t.ctl.ccLeft = 16384 - bitsOf v 13 0 ∧
        SameRegsBut [CTL.CCAP_CTRL, CTL.CCAP_STAT, CTL.CCAP_TRIG_PTR] s t ∧ SameMem s t)) ∧
  (∀ s : State, s.domOn pdCTL = true →
    (s.f CTL.CCAP_STAT'STATE = 2 → s.evt.ccTrig = true → s.ctl.ccW < 16384 →
      Gives (exec .ccapTrigger s) fun t =>
        t.f CTL.CCAP_STAT'STATE = 3 ∧ t.f CTL.CCAP_STAT'PRE_GOT = min (s.f CTL.CCAP_CTRL'PRE) s.ctl.ccN ∧
        t.f CTL.CCAP_TRIG_PTR'PTR = 16 * s.ctl.ccW ∧ SameRegsBut [CTL.CCAP_STAT, CTL.CCAP_TRIG_PTR] s t ∧ SameMem s t) ∧
    (s.f CTL.CCAP_STAT'STATE = 3 → s.ctl.ccLeft = 0 → Gives (exec .ccapDone s) fun t =>
      t.f CTL.CCAP_STAT'STATE = 4 ∧ t.ledgerHolds 6 1 = false ∧
      SameRegsBut (CTL.CCAP_STAT :: ledgerRegs) s t ∧ SameMem s t))

namespace Sys2Proof.Machine

/-- A jog bit `l` in direction `d` has been taken, or refused, by generator `g` (R185, R188). -/
def JogTaken (s t : State) (g : Nat) (l : Loc) (d : Int) : Prop :=
  (if s.pgState g = 1 ∧ s.pgOutward g d = false then t.b l = true ∧ (t.pg g).jogPend = true
   else t.b l = false ∧ t.b (PRF.PG_STAT'CMD_REFUSED g) = true) ∧
  SameRegsBut [PRF.PG_CMD g, PRF.PG_STAT g] s t ∧ SameMem s t

end Sys2Proof.Machine

/-- START or a jog bit set in IDLE, not leading further outside a virtual limit, waits for the next L1 boundary; elsewhere
it sets CMD_REFUSED and the jog bit stays 0. A cleared jog bit reads 0. STOP waits for the boundary, which turns MOVE
or JOG into STOPPING and a waiting START in IDLE into MOVE. TARGET is taken in TRACK and IDLE only, else
TARGET_LOCKED; a limit of 0 and a virtual limit that would invert the pair set CMD_REFUSED and change nothing. No
other register and no memory changes. Rules: R184, R185, R186, R187, R188, R189. -/
def Obligations.ProfileGeneratorCommands : Prop :=
  (∀ (s : State) (w : Req) (g : Fin 72), s.takesWrite w (PRF.PG_CMD g) = true → s.b (PRF.PG_CMD'START g) = false →
    s.b (PRF.PG_CMD'STOP g) = false →
    Gives (exec (.pgStart w g) s) (fun t =>
      (if s.pgState g = 1 ∧ s.pgOutward g (sgn (diff40 (s.pgTarget g) (s.pg g).pos)) = false then
        (t.pg g).startPend = true ∧ SameRegsBut [PRF.PG_CMD g] s t
      else t.b (PRF.PG_STAT'CMD_REFUSED g) = true ∧ (t.pg g).startPend = (s.pg g).startPend) ∧
      SameRegsBut [PRF.PG_CMD g, PRF.PG_STAT g] s t ∧ SameMem s t) ∧
    Gives (exec (.pgStop w g) s) (fun t =>
      (t.pg g).stopPend = true ∧ SameRegsBut [PRF.PG_CMD g] s t ∧ SameMem s t) ∧
    (s.b (PRF.PG_CMD'JOG_POS g) = false → s.b (PRF.PG_CMD'JOG_NEG g) = false →
      Gives (exec (.pgJogPos w g true) s) (fun t => JogTaken s t g (PRF.PG_CMD'JOG_POS g) 1) ∧
      Gives (exec (.pgJogNeg w g true) s) fun t => JogTaken s t g (PRF.PG_CMD'JOG_NEG g) (-1)) ∧
    Gives (exec (.pgJogPos w g false) s) (fun t =>
      t.b (PRF.PG_CMD'JOG_POS g) = false ∧ SameRegsBut [PRF.PG_CMD g] s t ∧ SameMem s t) ∧
    Gives (exec (.pgJogNeg w g false) s) fun t =>
      t.b (PRF.PG_CMD'JOG_NEG g) = false ∧ SameRegsBut [PRF.PG_CMD g] s t ∧ SameMem s t) ∧
  (∀ (s : State) (g : Fin 72),
    ((s.pg g).stopPend = true → s.pgState g = 2 ∨ s.pgState g = 3 → (s.pgCommands g).pgState g = 4) ∧
    ((s.pg g).stopPend = false → (s.pg g).startPend = true → s.pgState g = 1 → (s.pgCommands g).pgState g = 2)) ∧
  (∀ (s : State) (w : Req) (g : Fin 72) (hi : Bool) (v : Word),
    s.takesWrite w (if hi then PRF.TARGET_HI g else PRF.TARGET_LO g) = true →
    Gives (exec (.pgTargetWrite w g hi v) s) fun t =>
      (if s.pgState g = 0 ∨ s.pgState g = 1 then
        t.rd (if hi then PRF.TARGET_HI g else PRF.TARGET_LO g) = (if hi then hiWord v else v) ∧
        SameRegsBut [if hi then PRF.TARGET_HI g else PRF.TARGET_LO g] s t
      else t.b (PRF.PG_STAT'TARGET_LOCKED g) = true ∧ SameRegsBut [PRF.PG_STAT g] s t) ∧ SameMem s t) ∧
  (∀ (s : State) (w : Req) (g : Fin 72) (r : Fin 4) (v : Word), s.takesWrite w (pgLimReg g r) = true →
    Gives (exec (.pgLimitWrite w g r v) s) fun t =>
      (if v = 0 then t.b (PRF.PG_STAT'CMD_REFUSED g) = true ∧ SameRegsBut [PRF.PG_STAT g] s t
      else t.rd (pgLimReg g r) = v ∧ SameRegsBut [pgLimReg g r] s t) ∧ SameMem s t) ∧
  (∀ (s : State) (w : Req) (g : Fin 72) (upper hi : Bool) (v : Word), s.takesWrite w (pgVlimReg g upper hi) = true →
    have u := s.wr (pgVlimReg g upper hi) (if hi then hiWord v else v)
    Gives (exec (.pgVlimWrite w g upper hi v) s) fun t =>
      (if u.pgHi g < u.pgLo g then t.b (PRF.PG_STAT'CMD_REFUSED g) = true ∧ SameRegsBut [PRF.PG_STAT g] s t
      else t.rd (pgVlimReg g upper hi) = (if hi then hiWord v else v) ∧ SameRegsBut [pgVlimReg g upper hi] s t) ∧ SameMem s t)

/-- On a running chopper whose group is neither tripped nor waits for the reload after a trip and whose target is not 0, a
crossing to ABOVE in drive, outside its blanking, starts the decay of DECAY, and one to BELOW in decay starts drive
with TBLANK; T_FAST ends in SLOW; in a tripped group nothing switches; HOLD_T of IDLE gives the hold current; a
learning window of 64 periods updates OFS within 0 to BAND - 16 and PEAK. ST_CFG takes EN = 1 in M3-M8 and M10 only,
and EN from 0 to 1 sets OFS to 0. No other register and no memory changes. Rules: R191, R193, R194, R195. -/
def Obligations.StepperChopperSwitches : Prop :=
  (∀ (s : State) (n : Fin 8) (b : Bool), s.domOn pdCTL = true → s.stOn n = true →
    (s.b (PWM.GRP_STAT'TRIPPED (64 + n.val)) = false → (s.grp (64 + n.val)).held = false → (s.wind n b).tgt ≠ 0 →
      ((s.wind n b).decay = 0 → (s.wind n b).blankEnd ≤ s.time.ticks → (s.ach (s.windAin n b)).above = true → Gives (exec (.chopperCrossing n b true) s) fun t =>
        (t.wind n b).decay = (match s.f (PRF.ST_CFG'DECAY n) with | 0 => 1 | 1 => 2 | _ => 3) ∧
        (t.wind n b).fastEnd = s.time.ticks + s.f (PRF.ST_CFG'T_FAST n) ∧ SameRegsBut [] s t ∧ SameMem s t) ∧
      ((s.wind n b).decay ≠ 0 → (s.ach (s.windAin n b)).below = true → Gives (exec (.chopperCrossing n b false) s) fun t =>
        (t.wind n b).decay = 0 ∧ (t.wind n b).blankEnd = s.time.ticks + s.f (PRF.ST_CFG'TBLANK n) ∧
        SameRegsBut [] s t ∧ SameMem s t)) ∧
    (s.b (PWM.GRP_STAT'TRIPPED (64 + n.val)) = true ∨ (s.grp (64 + n.val)).held = true →
      (∀ upper, exec (.chopperCrossing n b upper) s = .next s) ∧ exec (.fastDecayEnd n b) s = .next s) ∧
    ((s.wind n b).decay = 3 → s.b (PWM.GRP_STAT'TRIPPED (64 + n.val)) = false → (s.grp (64 + n.val)).held = false →
      Gives (exec (.fastDecayEnd n b) s) fun t =>
      (t.wind n b).decay = 1 ∧ (s.wind n b).fastEnd ≤ t.time.ticks ∧ SameRegsBut [TIME.SLEW_LEFT] s t ∧ SameMem s t) ∧
    (s.pgState (64 + n.val) = 1 → (s.pg (64 + n.val)).holding = false → Gives (exec (.holdCurrentTimeout n) s) fun t =>
      (t.pg (64 + n.val)).holding = true ∧ SameRegsBut [TIME.SLEW_LEFT] s t ∧ SameMem s t) ∧
    (64 ≤ (s.wind n b).winN → Gives (exec (.learnWindowEnd n b) s) fun t =>
      have g := 2 ^ bitsOf (s.effCfg (s.windAin n b)) 5 4
      have band := s.f (PRF.ST_BAND'BAND n)
      t.stOfs n b = (clampI 0 ((band : Int) - 16) (s.stOfs n b +
        rdiv (2 * (s.wind n b).peak - (16 * g : Nat) * (2 * ((s.wind n b).tgt.natAbs : Int) + band))
          (32 * g * 2 ^ s.f (PRF.ST_CFG'LRATE n)))).toNat ∧
      t.stOfs n (!b) = s.stOfs n (!b) ∧ (t.wind n b).winN = 0 ∧
      SameRegsBut [PRF.ST_OFS n, PRF.ST_PEAK n] s t ∧ SameMem s t)) ∧
  (∀ (s : State) (w : Req) (n : Fin 8) (v : Word), s.takesWrite w (PRF.ST_CFG n) = true →
    Gives (exec (.stCfgWrite w n v) s) fun t =>
      t.b (PRF.ST_CFG'EN n) = (if bit v.toNat 31 = true ∧ modeDrives s.mode = false then s.b (PRF.ST_CFG'EN n) else bit v.toNat 31) ∧
      t.f (PRF.ST_CFG'TBLANK n) = bitsOf v 7 0 ∧ t.f (PRF.ST_CFG'T_FAST n) = bitsOf v 17 8 ∧
      (s.b (PRF.ST_CFG'EN n) = false → t.b (PRF.ST_CFG'EN n) = true → t.rdN (PRF.ST_OFS n) = 0) ∧
      SameRegsBut [PRF.ST_CFG n, PRF.ST_OFS n] s t ∧ SameMem s t)

namespace Sys2Proof.Machine

/-- The registers that show the plan table, the ports and the ledger. -/
def trjViews : List Nat :=
  [TRJ.TRJ_STAT, TRJ.PLAN_INFO] ++ (upto 16).map TRJ.PP_STAT ++ (upto 16).map TRJ.PP_DEP

/-- No planner-port command is held and no command bit is stored in PP_CMD (a WO field reads 0, R6). -/
def PortReady (s : State) (w : Req) (p : Nat) : Prop :=
  s.takesWrite w (TRJ.PP_CMD p) = true ∧ s.evalOn = false ∧ s.trj.held = [] ∧ bitsOf (s.rd (TRJ.PP_CMD p)) 31 28 = 0

end Sys2Proof.Machine

/-- OPEN gives an epoch that is not 0 and not in the table, or is refused with MODE, ALREADY_OPEN or TABLE_FULL. A CLOSE
that fails a check answers its code and keeps queues and ledger; an accepted one places every entry with the plan's
epoch and its state by depth, and adds the claims; buffers return. ABORT drops the open plan. QUERY reports at most 8
claims and records undecided ones of others. During an evaluation commands are held, and PP_HELD_COMMAND performs the
oldest once the evaluation's results hold at its boundary. Rules: R201, R202, R203, R204, R207, R208, R210, R211,
R214. -/
def Obligations.PlannerPortCommands : Prop :=
  (∀ (s : State) (w : Req) (p : Fin 16), PortReady s w p →
    Gives (exec (.ppOpen w p) s) (fun t =>
      t.trj.entries = s.trj.entries ∧ t.trj.claims = s.trj.claims ∧
      SameRegsBut (TRJ.PP_CMD p :: trjViews) s t ∧ SameMem s t ∧
      if modePlans s.mode = false then t.f (TRJ.PP_STAT'RESULT p) = 0x10 ∧ t.trj.plans = s.trj.plans
      else if (s.pp p).isOpen = true then t.f (TRJ.PP_STAT'RESULT p) = 0x11 ∧ t.trj.plans = s.trj.plans
      else if 256 ≤ s.trj.plans.length then t.f (TRJ.PP_STAT'RESULT p) = 0x12 ∧ t.trj.plans = s.trj.plans
      else t.f (TRJ.PP_STAT'RESULT p) = 0 ∧ (t.pp p).isOpen = true ∧ (t.pp p).epoch ≠ 0 ∧
        s.planOf (t.pp p).epoch = none ∧ t.trj.plans.length = s.trj.plans.length + 1 ∧
        t.b (TRJ.PP_STAT'PLAN_OPEN p) = true) ∧
    Gives (exec (.ppAbort w p) s) (fun t =>
      t.f (TRJ.PP_STAT'RESULT p) = (if (s.pp p).isOpen then 0 else 0x13) ∧ (t.pp p).isOpen = false ∧
      (∀ x, x ∈ t.trj.plans → x ∈ s.trj.plans) ∧
      t.trj.entries = s.trj.entries ∧ t.trj.claims = s.trj.claims ∧
      SameRegsBut (TRJ.PP_CMD p :: trjViews) s t ∧ SameMem s t) ∧
    (∀ (two : Bool) (buf : Fin 2048),
      have r := s.planRec buf (two.toNat + 1)
      have c := s.closeCheck p buf (two.toNat + 1) r
      have depth := depthOf s.trj.plans (s.closeDeps p r)
      Gives (exec (.ppClose w p two buf) s) fun t =>
        (if c = 0 then
          t.f (TRJ.PP_STAT'RESULT p) = (if 4 < depth then 1 else 0) ∧
          (∀ i, i < r.count → t.slot r.queue ((r.first + i) % 128) =
            ⟨r.first + i, (s.pp p).epoch, if 4 < depth then 2 else 1, r.recs.getD i []⟩) ∧
          (∀ q i, q ≠ r.queue → i < 128 → t.slot q i = s.slot q i) ∧
          (∀ x, x ∈ r.claims → { x with epoch := (s.pp p).epoch, queue := r.queue } ∈ t.trj.claims)
        else t.f (TRJ.PP_STAT'RESULT p) = c ∧ t.trj.entries = s.trj.entries ∧ t.trj.claims = s.trj.claims) ∧
        (t.pp p).isOpen = false ∧
        (s.owner buf = ownDEVICE → t.owner buf = s.f (CHUCK.SMW_FLAG'PREV buf)) ∧
        SameRegsBut ([TRJ.PP_CMD p, TRJ.Q_STAT r.queue, CHUCK.SMW_FLAG buf, CHUCK.SMW_FLAG (buf.val + 1)] ++ trjViews) s t ∧
        SameMem s t) ∧
    (∀ (zone : Fin 16) (count : Fin 8),
      have lo := unwrap s.cnNow (s.rdN (TRJ.PP_QFIRST p))
      have l := s.claimsOn zone lo (lo + count + 1)
      Gives (exec (.ppQuery w p zone count) s) fun t =>
        t.f (TRJ.PP_STAT'RESULT p) = 0 ∧ t.f (TRJ.PP_STAT'QRES_N p) = min 8 l.length ∧
        t.b (TRJ.PP_STAT'MORE p) = decide (8 < l.length) ∧
        (∀ i, i < min 8 l.length → ∃ c, c ∈ l ∧ t.f (TRJ.PP_QRES_A'QUEUE p i) = c.queue % 16 ∧
          t.rdN (TRJ.PP_QRES_B p i) = c.first % 2 ^ 32) ∧
        ((s.pp p).isOpen = true → (s.pp p).squashed = false → ∀ y, s.planOf (s.pp p).epoch = some y →
          ∃ z, t.planOf (s.pp p).epoch = some z ∧ (z.deps.length < 17 → ∀ c, c ∈ l → c.undecided = true →
            s.portQueues p ≠ [c.queue] → TrjDep.mk c.epoch c.zone ∈ z.deps)) ∧
        t.trj.entries = s.trj.entries ∧ t.trj.claims = s.trj.claims ∧
        SameRegsBut (TRJ.PP_CMD p :: trjViews ++ (upto 8).map (TRJ.PP_QRES_A p) ++ (upto 8).map (TRJ.PP_QRES_B p)) s t ∧
        SameMem s t)) ∧
  (∀ (s : State) (w : Req) (p : Fin 16), s.takesWrite w (TRJ.PP_CMD p) = true → s.evalOn = true →
    bitsOf (s.rd (TRJ.PP_CMD p)) 31 28 = 0 →
    Gives (exec (.ppOpen w p) s) fun t =>
      (∃ h, t.trj.held = s.trj.held ++ [h] ∧ h.port = p.val ∧ bit h.word 31 = true) ∧ t.b (TRJ.PP_STAT'BUSY p) = true ∧
      t.trj.plans = s.trj.plans ∧ SameRegsBut [TRJ.PP_CMD p, TRJ.PP_STAT p] s t ∧ SameMem s t) ∧
  (∀ (s : State) (h : PpHeld) (l : List PpHeld), s.domOn pdCTL = true → s.trj.held = h :: l → h.port < 16 →
    bitsOf (w32 h.word) 31 28 = 8 → h.word < 2 ^ 32 → modePlans s.mode = false →
    Gives (exec .ppHeldCommand s) fun t =>
      t.trj.held = l ∧ t.trj.outPend = false ∧ t.b (TRJ.PP_STAT'BUSY h.port) = l.any (fun x => x.port == h.port) ∧
      t.f (TRJ.PP_STAT'RESULT h.port) = 0x10 ∧ SameMem s t ∧
      (s.trj.outPend = true → t.evalOn = false ∧ t.f TRJ.COMMIT_STAT'L3_SEQ = s.trj.evalSeq % 65536 ∧ t.rdN TRJ.VT_SEAL = 0 ∧
        (s.domOn pdTIME = true → 0 < dtIncr s.time.rate → s.trj.evalB ≤ t.ns)) ∧
      (s.trj.outPend = false → SameRegsBut trjViews s t))

/-- A write of the table by another requester than VT_REQ is ignored and sets VT_REFUSED; after a seal it is ignored;
VT_SEAL seals, or sets SEAL_WRONG or SEAL_LATE, also while a table is sealed. L3_EVALUATION for a boundary not yet
evaluated notes the table 10 us before it and changes no entry, plan or claim; when its results take hold at the
boundary, every boundary of the window has a committed entry, a fallback reference or no entry, and the table and its
seal are clear; without a seal it sets NO_TABLE and STALE_L3 and raises EVT[66]. No other register, outside the
block's window, and no memory changes. Rules: R212, R213, R214, R215, R216, R217. -/
def Obligations.VerdictTableAndEvaluation : Prop :=
  (∀ (s : State) (w : Req) (r : Fin 10) (v : Word), s.takesWrite w (TRJ.VT_VERDICT + 4 * r.val) = true →
    Gives (exec (.vtWrite w r v) s) fun t =>
      (if s.isVtReq w = false then t.b TRJ.TRJ_ERR'VT_REFUSED = true ∧ SameRegsBut [TRJ.TRJ_ERR] s t
      else if s.b TRJ.VT_SEAL'SEALED = true then SameRegsBut [] s t
      else (r ≠ 0 → t.rd (TRJ.VT_VERDICT + 4 * r.val) = v) ∧
        (r = 0 → ∀ q, q < 16 → bitsOf (t.rd TRJ.VT_VERDICT) (2 * q + 1) (2 * q) =
          (if bitsOf v (2 * q + 1) (2 * q) < 2 then bitsOf v (2 * q + 1) (2 * q)
           else bitsOf (s.rd TRJ.VT_VERDICT) (2 * q + 1) (2 * q))) ∧
        SameRegsBut [TRJ.VT_VERDICT + 4 * r.val] s t) ∧ SameMem s t) ∧
  (∀ (s : State) (w : Req) (target : BitVec 16), s.takesWrite w TRJ.VT_SEAL = true →
    Gives (exec (.vtSeal w target) s) fun t =>
      (if s.isVtReq w = false then t.b TRJ.TRJ_ERR'VT_REFUSED = true ∧ SameRegsBut [TRJ.TRJ_ERR] s t
      else t.f TRJ.VT_SEAL'TARGET = (if s.b TRJ.VT_SEAL'SEALED = true then s.f TRJ.VT_SEAL'TARGET else target.toNat) ∧
        SameRegsBut [TRJ.VT_SEAL, TRJ.TRJ_ERR] s t ∧
        if target.toNat ≠ (s.f SYS.CYCLE_STAT'L3_SEQ + 1) % 65536 then
          t.b TRJ.TRJ_ERR'SEAL_WRONG = true ∧ t.b TRJ.VT_SEAL'SEALED = s.b TRJ.VT_SEAL'SEALED
        else if s.evalOn = true then t.b TRJ.TRJ_ERR'SEAL_LATE = true ∧ t.b TRJ.VT_SEAL'SEALED = s.b TRJ.VT_SEAL'SEALED
        else s.trj.evalB = 0 ∨ s.trj.evalB + 1000000 ≤ s.ns → t.b TRJ.VT_SEAL'SEALED = true ∧ SameRegsBut [TRJ.VT_SEAL] s t) ∧ SameMem s t) ∧
  (∀ s : State, s.trj.outPend = true →
    (∀ q, q < 16 → s.qUsed q = true → ∀ i, i < 128 → (s.slot q i).st = 2 → ∃ p, s.planOf (s.slot q i).epoch = some p ∧ p.live = true ∧ p.queue = q) →
    have t := s.trjTakeHold
    t.trj.outPend = false ∧ t.evalOn = false ∧ t.rdN TRJ.VT_VERDICT = 0 ∧ t.rdN TRJ.VT_SEAL = 0 ∧
    t.f TRJ.COMMIT_STAT'L3_SEQ = s.trj.evalSeq % 65536 ∧ t.f TRJ.COMMIT_STAT'SQUASHED = min 255 t.trj.outSq ∧
    (∀ q i e, q < 16 → s.qUsed q = true → i < 20 → t.entryAt q (s.trj.evalB / 50000 + i) = some e → e.st = 3 ∨ e.st = 4) ∧ SameMem s t) ∧
  (∀ s : State, s.domOn pdCTL = true → s.cycRun = true → s.trj.evalB ≠ s.nextL3 → s.trj.outPend = false →
    Gives (exec .l3Evaluation s) fun t =>
      t.trj.evalB = s.nextL3 ∧ t.evalOn = true ∧ t.trj.outPend = true ∧ t.trj.solve = s.rdN TRJ.VT_SOLVE ∧
      t.trj.entries = s.trj.entries ∧ t.trj.plans = s.trj.plans ∧ t.trj.claims = s.trj.claims ∧
      (s.domOn pdTIME = true → 0 < dtIncr s.time.rate → s.nextL3 ≤ t.ns + 10000) ∧
      (s.b TRJ.VT_SEAL'SEALED = false →
        t.b TRJ.TRJ_ERR'NO_TABLE = true ∧ t.b SYS.CYCLE_STAT'STALE_L3 = true ∧ t.evtPending 66 = true) ∧
      (∀ a, a < TRJ.TRJ_CTRL ∨ TRJ.TRJ_CTRL + 0x10000 ≤ a → a ∉ [TIME.SLEW_LEFT, SYS.CYCLE_STAT, EVT.EVT_PEND 0, EVT.EVT_PEND 2] →
        a ∉ (upto 64).map (PERF.HIST_BIN 10) → t.rd a = s.rd a) ∧ SameMem s t)

namespace Sys2Proof.Machine

/-- The registers that a Faceplate job may change outside block FACE: flag words, the shared memory window's errors, the ledger,
pending events, histograms, SLEW_LEFT. -/
def FaceFrame (s t : State) : Prop :=
  ∀ a, (a < FACE.FACE_CTRL ∨ FACE.FACE_CTRL + 0x10000 ≤ a) → (∀ b, a ≠ CHUCK.SMW_FLAG b) → (∀ h k, a ≠ PERF.HIST_BIN h k) →
    a ∉ [CHUCK.SMW_ERR, CHUCK.SMW_ERR_INFO, TIME.SLEW_LEFT, EVT.EVT_PEND 0, EVT.EVT_PEND 2, EVT.EVT_PEND 3, PWR.LEDGER_ERR] ++ ledgerRegs →
    t.rd a = s.rd a

/-- The running single class S job's result set: its descriptor has been returned and its first buffer is FACE's. -/
def SResult (s : State) : Prop :=
  s.face.s.buf = 4096 ∧ s.face.s.round = 0 ∧ s.owner s.face.s.resBuf = ownFACE ∧ 0 < s.setBufs

/-- The class S job of `s` has ended in `t` with status `code` after `iter` iterations: its header stands in its result set, which
has passed to the consumer (R266, R270, R272, R274). -/
def SEnded (s t : State) (code iter : Nat) : Prop :=
  t.face.s.st = 0 ∧ t.b FACE.FACE_STAT'S_BUSY = false ∧ t.evtPending 72 = true ∧ t.ledgerHolds 1 0 = (s.face.s.st != 3 && s.ledgerHolds 1 0) ∧
  t.f FACE.FACE_STAT'S_SEQ = (s.face.sSeq + 1) % 65536 ∧ t.face.prevOk = decide (code ≤ 2) ∧
  t.f FACE.S_LAST'ITER = iter % 65536 ∧ t.f FACE.S_LAST'STATUS % 256 = code ∧
  t.ldn (smwAt s.face.s.resBuf) 2 = (s.face.sSeq + 1) % 65536 ∧ t.ldn (smwAt s.face.s.resBuf + 2) 2 = t.f FACE.S_LAST'STATUS ∧
  bit (t.f FACE.S_LAST'STATUS) 15 = true ∧ t.owner s.face.s.resBuf = s.face.s.consumer % 32 ∧ FaceFrame s t ∧
  SameMemBut (smwAt s.face.s.resBuf) (4096 * ((64 + 4 * (s.cfg.face.n + 2 * s.cfg.face.m) + 4095) / 4096)) s t

end Sys2Proof.Machine

/-- While kinematics runs, FRAME_PUBLISH sets FRAME_VALID and FRAME_SEQ to the boundary's L3_SEQ, puts each joint angle,
rounded and saturated, in its word, and 0 in every word of an arm without a model and in every word past the table.
ASSEMBLY_DONE ends assembly; a single run writes WEIGHT times source, delivered into the destination's exponent, at
each destination; a value-memory word that no run covers keeps its value. Other registers (but the Chuck's, which
takes the ROUGH_FLOW job) and memory stay. Rules: R252, R253, R255, R257, R258. -/
def Obligations.KinematicFrameAndAssembly : Prop :=
  (∀ s : State, s.domOn pdROUGH = true → s.rough.st = 1 →
    Gives (exec .framePublish s) fun t =>
      t.rough.st = 2 ∧ t.b ROUGH.ROUGH_STAT'FRAME_VALID = true ∧ t.f ROUGH.ROUGH_STAT'FRAME_SEQ = s.rough.seq % 65536 ∧
      (∀ a o, a < 8 → o < 1024 → (s.cfg.models.getD a default).used = false ∨ (848 ≤ o ∧ (s.cfg.models.getD a default).nj ≤ 8) →
        t.rdN (ROUGH.FRAME a o) = 0) ∧
      (∀ a j, a < 8 → (s.cfg.models.getD a default).used = true → (s.cfg.models.getD a default).nj ≤ 8 →
        j < (s.cfg.models.getD a default).nj →
        t.rdI (ROUGH.FRAME a j) =
          (deliver 3 ((s.cfg.models.getD a default).theta j (s.rough.pos.get ((s.qAxes a).getD j 64)))).1) ∧
      (∀ x, (x < ROUGH.ROUGH_STAT ∨ ROUGH.ROUGH_STAT + 0x10000 ≤ x) → (x < CHUCK.CHUCK_CTRL ∨ CHUCK.CHUCK_CTRL + 0x10000 ≤ x) →
        (∀ h k, x ≠ PERF.HIST_BIN h k) → (∀ k, x ≠ EVT.EVT_PEND k) → t.rd x = s.rd x) ∧ SameMem s t) ∧
  (∀ s : State, s.domOn pdROUGH = true → s.domOn pdFACE = true → s.rough.st = 2 → s.cfg.casc.rounds = 0 → s.face.s.due = false →
    Gives (exec .assemblyDone s) fun t =>
      t.rough.st = 0 ∧ t.rough.asmDone = true ∧ t.b ROUGH.ROUGH_STAT'BUSY = false ∧
      (∀ r i, s.cfg.face.runs = [r] → r.target = 0 → i < r.count →
        t.faceVal (r.dest + i) = (deliver (s.cfg.face.valExp (r.dest + i)) (s.runValue r i)).1) ∧
      (∀ i, (∀ r, r ∈ s.cfg.face.runs → r.target = 0 → i < r.dest ∨ r.dest + r.count ≤ i) → t.faceVal i = s.faceVal i) ∧
      SameRegsBut [ROUGH.ROUGH_STAT, ROUGH.ROUGH_TIME] s t ∧ SameMem s t)

/-- S_SUBMIT while a job waits or runs answers BUSY, with S_AUTO = 1 AUTO, with a descriptor not owned by FACE OWNER, and
keeps the jobs; a valid descriptor (values resident, COLD) with its deadline ahead and tokens free answers OK and
runs. B_SUBMIT behind a waiting batch answers BUSY, without its buffers OWNER; a valid one answers OK and waits.
ABORT_S ends the job with STATUS ABORTED and the iterations completed in its header; ABORT_B ends the batch and the
one behind it, each with a result of its own. Frames as stated. Rules: R260, R261, R262, R269, R274. -/
def Obligations.FaceplateSubmissionsAndAborts : Prop :=
  (∀ (s : State) (w : Req) (buf : Fin 2048), s.takesWrite w FACE.FACE_CMD = true →
    Gives (exec (.sSubmit w buf) s) (fun t =>
      have code := t.f FACE.FACE_STAT'SUBMIT_RESULT
      (s.face.s.st ≠ 0 → code = 1) ∧
      (s.face.s.st = 0 → s.b FACE.FACE_CTRL'S_AUTO = true → code = 2) ∧
      (s.face.s.st = 0 → s.b FACE.FACE_CTRL'S_AUTO = false → s.owner buf ≠ ownFACE → code = 3 ∧ SameRegsBut [FACE.FACE_STAT] s t) ∧
      (code ≠ 0 → t.face = s.face ∧ SameMem s t ∧ (s.owner buf = ownFACE → s.ldn (smwAt buf + 3) 1 = 0 → s.ldn (smwAt buf + 2) 1 ≠ 1 →
        t.owner buf = s.f (CHUCK.SMW_FLAG'PREV buf)))) ∧
    (s.face.s.st = 0 → s.b FACE.FACE_CTRL'S_AUTO = false → s.owner buf = ownFACE →
      s.ldn (smwAt buf) 4 = 0x00020253 → s.ldn (smwAt buf + 12) 1 ≤ 16 → s.ldn (smwAt buf + 13) 19 = 0 →
      s.imgValid = true → modeDrives s.mode = true → s.cfg.face.n ≠ 0 →
      s.faceOwns (s.ldn (smwAt buf + 10) 2) s.setBufs = true → s.ns < s.nsOf (s.ldn (smwAt buf + 4) 4) →
      s.ledgerUsed + s.f FACE.FACE_TOKENS'S_TOKENS ≤ s.budget → s.pwr.waiting = [] →
      Gives (exec (.sSubmit w buf) s) fun t =>
        t.f FACE.FACE_STAT'SUBMIT_RESULT = 0 ∧ t.face.s.st = 3 ∧ t.b FACE.FACE_STAT'S_BUSY = true ∧ t.ledgerHolds 1 0 = true ∧
        t.face.s.weights = s.cfg.weights ∧ t.face.s.wCold = true ∧ (∀ i, i < s.cfg.face.n → t.faceVec vX i = 0) ∧
        t.owner buf = s.f (CHUCK.SMW_FLAG'PREV buf) ∧ FaceFrame s t ∧ SameMem s t)) ∧
  (∀ (s : State) (w : Req) (buf : Fin 2048), s.takesWrite w FACE.FACE_CMD = true →
    have n := s.f FACE.FACE_SIZE'B_IN_BUFS
    Gives (exec (.bSubmit w buf) s) fun t =>
      have code := t.f FACE.FACE_STAT'SUBMIT_RESULT
      (s.face.bq.st ≠ 0 ∨ s.face.b.st = 1 ∨ s.face.b.st = 2 → code = 1) ∧
      (s.face.bq.st = 0 → s.face.b.st = 0 → s.owner buf ≠ ownFACE → code = 3) ∧
      (s.face.bq.st = 0 → s.face.b.st = 0 → s.faceOwns buf (max 1 n) = true → s.ldn (smwAt buf) 4 = 0x42 →
        s.ldn (smwAt buf + 8) 1 ≤ 16 → s.ldn (smwAt buf + 9) 23 = 0 → s.imgValid = true → modeDrives s.mode = true →
        s.cfg.face.slots.length ≠ 0 →
        s.faceOwns (s.f FACE.B_RES_CFG'B_RES_BASE) (s.f FACE.FACE_SIZE'B_OUT_BUFS) = true →
        code = 0 ∧ t.face.b.st = 1 ∧ t.face.b.buf = buf.val ∧ t.face.b.consumer = s.ldn (smwAt buf + 8) 1 ∧
        SameRegsBut [FACE.FACE_STAT] s t) ∧
      (code ≠ 0 → t.face = s.face) ∧ FaceFrame s t ∧ SameMem s t) ∧
  (∀ (s : State) (w : Req) (iter : Nat), s.takesWrite w FACE.FACE_CMD = true →
    (s.face.s.st = 0 → Gives (exec (.abortS w iter) s) fun t => t.face = s.face ∧ SameRegsBut [] s t ∧ SameMem s t) ∧
    (s.face.s.st ≠ 0 → SResult s → Gives (exec (.abortS w iter) s) fun t =>
      SEnded s t 5 (if s.face.s.st = 3 then (s.sPartial iter).1 else 0) ∧ SameMemBut (smwAt s.face.s.resBuf) 64 s t) ∧
    (s.face.s.deadIter = 0 → Gives (exec (.abortB w) s) fun t =>
      t.face.b.st = 0 ∧ (s.face.b.st ≠ 0 → t.face.bq.st = 0 ∧ t.evtPending 73 = true) ∧
      (s.face.b.st ≠ 0 → t.rdN FACE.B_LAST = 65536 * ((s.face.bSeq + (if s.face.bq.st = 0 then 1 else 2)) % 65536) + s.cfg.face.slots.length % 65536) ∧
      FaceFrame s t))

/-- SOLVE_START runs the native job with its weights latched once assembly is done, and else leaves it due.
CLASS_S_JOB_END ends with OK or MAX_ITER as R233 and R264 compute it; S_DEADLINE with OK where the test at the
deadline converges, else DEADLINE, or DEADLINE_NO_ITER before the first iteration, or, while deferred, with
DEADLINE_MISS too. BATCH_START copies the input and suspends class S; BATCH_END and B_DEADLINE write the header, count
NOT_DONE (at most 15 unfinished slots lie before a finished one) and pass to the next batch. Rules: R233, R236, R242,
R256, R264, R266, R267, R268, R270, R271, R274. -/
def Obligations.FaceplateSolvesAndBatches : Prop :=
  (∀ s : State, s.domOn pdFACE = true → s.face.s.st = 1 → s.face.s.ownSet = true → s.face.s.round = 0 →
    have u := s.advanceTo (s.face.s.issNs + s.cfg.roughEnd)
    (s.rough.asmDone = false → Gives (exec .solveStart s) fun t =>
      t.face.s = { s.face.s with due := true } ∧ SameRegsBut [TIME.SLEW_LEFT] s t ∧ SameMem s t) ∧
    (s.rough.asmDone = true → u.ns < s.face.s.deadline → s.face.s.feed = 0 → s.face.s.warm = 2 →
      s.ledgerUsed + s.f FACE.FACE_TOKENS'S_TOKENS ≤ s.budget → s.pwr.waiting = [] →
      Gives (exec .solveStart s) fun t =>
        t.face.s.st = 3 ∧ t.face.s.startNs = u.ns ∧ t.face.s.weights = s.cfg.weights ∧ t.face.s.susp = decide (s.face.b.st = 3) ∧
        t.ledgerHolds 1 0 = true ∧ t.b FACE.FACE_STAT'S_BUSY = true ∧ (∀ i, i < s.cfg.face.n → t.faceVec vX i = 0) ∧
        FaceFrame s t ∧ SameMem s t)) ∧
  (∀ s : State, s.domOn pdFACE = true → s.face.s.st = 3 → s.face.s.susp = false → SResult s →
    have j := s.face.s
    have r := s.loadSolve.begin_ s.cfg.face j.weights s.faceVals
    Gives (exec .classSJobEnd s) (fun t =>
      have e := Solve.run s.cfg.face j.weights s.faceVals j.weights.admmMax 0 (noResid, 0) r
      SEnded s t (if e.2.2.1 then 0 else 1) e.1) ∧
    ∀ iter : Nat,
      have e := Solve.run s.cfg.face j.weights s.faceVals (min iter j.weights.admmMax) 0 (noResid, 0) r
      have x := e.2.2.2.finish s.cfg.face j.weights s.faceVals
      e.2.2.1 = false → e.1 < j.weights.admmMax →
      Gives (exec (.sDeadline iter) s) fun t =>
        SEnded s t (if x.1.ok = true then 0 else if e.1 = 0 then 3 else 2) e.1 ∧
        t.f FACE.FACE_CNT'DEADLINE_CNT = min (s.f FACE.FACE_CNT'DEADLINE_CNT + 1) 65535) ∧
  (∀ (s : State) (iter : Nat), s.domOn pdFACE = true → s.face.s.st = 2 → s.face.s.warm = 2 → SResult s →
    Gives (exec (.sDeadline iter) s) fun t =>
      SEnded s t 3 0 ∧ t.b FACE.FACE_ERR'DEADLINE_MISS = true ∧ t.evtPending 74 = true ∧
      t.f FACE.FACE_CNT'DEFER_CNT = min (s.f FACE.FACE_CNT'DEFER_CNT + 1) 255) ∧
  (∀ s : State, s.domOn pdFACE = true → s.face.b.st = 1 →
    Gives (exec .batchStart s) fun t =>
      (if s.face.s.st = 3 then t.face.b.st = 3 ∧ t.face.s.susp = true ∧ t.b FACE.FACE_STAT'S_SUSP = true
       else if s.ledgerUsed + s.f FACE.FACE_TOKENS'B_TOKENS ≤ s.budget ∧ s.pwr.waiting = [] then
         t.face.b.st = 3 ∧ t.face.b.own = true ∧ t.ledgerHolds 2 0 = true
       else if s.budget < s.ledgerUsed + s.f FACE.FACE_TOKENS'B_TOKENS then
         t.face.b.st = 2 ∧ t.b FACE.FACE_STAT'DEFERRED = true ∧ t.evtPending 11 = true
       else True) ∧
      (t.face.b.st = 3 → t.face.b.input = s.bInput s.face.b.buf) ∧ FaceFrame s t ∧ SameMem s t) ∧
  (∀ s : State, s.domOn pdFACE = true → s.face.b.st = 3 → s.face.s.deadIter = 0 →
    have base := s.f FACE.B_RES_CFG'B_RES_BASE
    have n := s.cfg.face.slots.length
    have seq := (s.face.bSeq + 1) % 65536
    Gives (exec .batchEnd s) (fun t =>
      t.face.b = s.face.bq ∧ t.face.bq.st = 0 ∧ t.rdN FACE.B_LAST = 65536 * seq ∧ t.evtPending 73 = true ∧
      (s.face.b.own = true → t.ledgerHolds 2 0 = false) ∧
      (s.owner base = ownFACE → t.ldn (smwAt base) 8 = seq + 2 ^ 31) ∧ FaceFrame s t) ∧
    ∀ done : BitVec 256, n ≤ 256 →
      have nd := ((upto n).filter (fun k => !(bit done.toNat k && decide (((upto k).filter (fun i => !bit done.toNat i)).length ≤ 15)))).length
      Gives (exec (.bDeadline false done) s) fun t =>
        t.face.b = s.face.bq ∧ t.f FACE.B_LAST'NOT_DONE = nd ∧ t.f FACE.B_LAST'SEQ = seq ∧ t.evtPending 73 = true ∧
        (s.owner base = ownFACE → t.ldn (smwAt base + 4) 2 = nd) ∧
        t.f FACE.FACE_CNT'DEADLINE_CNT = min (s.f FACE.FACE_CNT'DEADLINE_CNT + 1) 65535 ∧ FaceFrame s t)

namespace Sys2Proof.Machine

/-- Core `n` runs, stands at instruction `ins`, is not stepping, and no active loop suppresses the instruction (R280, R288, R308). -/
def Issues (s : State) (n : Fin 16) (e : Ecc) (ins : CIns) : Prop :=
  s.canIssue n = true ∧ s.insAt n = some ins ∧ (s.core n).stepping = false ∧ (∀ m, e ≠ Ecc.double m) ∧
  (s.core n).suppressed (s.corePC n) = false

/-- The registers of the block that an instruction's issue may change: status, PC, corrected errors, lost tags. -/
def issueRegs (n : Nat) : List Nat := [GC.GC_STAT n, GC.GC_PC n, GC.GC_ECC n, PERF.TAG_PC n]

/-- The other cores, this core's control registers and call stack, and every other register read as before; outside loops PC
moves on by one. -/
def CoreFrame (s t : State) (n : Fin 16) : Prop :=
  (∀ m, m ≠ n.val → t.core m = s.core m) ∧ SameRegsBut (issueRegs n) s t ∧
  (t.core n).m = (s.core n).m ∧ (t.core n).am = (s.core n).am ∧ (t.core n).imask = (s.core n).imask ∧
  (t.core n).exc = (s.core n).exc ∧ (t.core n).epc = (s.core n).epc ∧ (t.core n).stack = (s.core n).stack ∧
  (t.core n).reserve = (s.core n).reserve ∧ t.coreSt n = gsRUNNING ∧
  ((s.core n).loops = [] → t.corePC n = (s.corePC n + 1) % 2 ^ 15 ∧ t.coreRB n = s.coreRB n ∧ (t.core n).loops = [])

/-- A flag of core `n`'s SR. -/
def coreFlag (s : State) (n : Fin 16) (b : Nat) : Bool := srGet (s.core n).sr b

/-- SR of core `n` in `t`: Z, N, C, V, U, SAT as given, every other bit as in `s`. -/
def SrIs (s t : State) (n : Fin 16) (z neg c v u sat : Bool) : Prop :=
  coreFlag t n srZ = z ∧ coreFlag t n srN = neg ∧ coreFlag t n srC = c ∧ coreFlag t n srV = v ∧ coreFlag t n srU = u ∧
  coreFlag t n srSAT = sat ∧ ∀ b, 6 ≤ b → b < 32 → coreFlag t n b = coreFlag s n b

/-- The address of a parallel move. -/
def moveAddr (s : State) (n : Fin 16) (m : Nat × CMove) : Nat := ((s.core n).i.get m.2.ptr).toNat

/-- The moves of `k` reach local memory through permitted address modes, and no load names the operation's destination (R276, R280,
R283). -/
def MovesOk (s : State) (n : Fin 16) (k : CArith) : Prop :=
  ∀ m, m ∈ k.moves → moveAddr s n m < 0x8000 ∧ (s.core n).modIllegal m.2.ptr m.2.md = false ∧
    (m.2.store = false → gDest k.op = true → m.2.reg ≠ k.d)

/-- Instruction `k` has completed in `t`: g registers (the result `g`, then the words loaded), accumulators, pointers, stores (R280,
R297-R299), and nothing else. -/
def ArithDone (s t : State) (n : Fin 16) (k : CArith) (g : Option Word) (accs : Nat → Int) : Prop :=
  have rb := s.coreRB n
  have c0 := match g with | some v => (s.core n).wg rb k.d v | none => s.core n
  have c1 := (k.moves.filter (fun m => !m.2.store)).foldl
    (fun c m => c.wg rb m.2.reg (w32 (s.ldn (coreMem n (memOf m.1) + 4 * moveAddr s n m) 4))) c0
  (∀ r, r < 32 → (t.core n).g.get r = c1.g.get r) ∧ (∀ j, j < 4 → (t.core n).ra j = accs j) ∧
  (∀ p, p < 8 → (t.core n).i.get p = (k.moves.foldl (fun c m => c.advance m.2.ptr m.2.md) (s.core n)).i.get p) ∧
  SameMem ((k.moves.filter (fun m => m.2.store)).foldl
    (fun u m => u.stn (coreMem n (memOf m.1) + 4 * moveAddr s n m) 4 ((s.core n).rg rb m.2.reg).toNat) s) t ∧ CoreFrame s t n

/-- A g result `r` with its Z and N, and C, V, SAT as given. -/
def GDone (s t : State) (n : Fin 16) (k : CArith) (r : Word) (c v sat : Bool) : Prop :=
  ArithDone s t n k (some r) (s.core n).ra ∧ SrIs s t n (r == 0) r.msb c v (coreFlag s n srU) sat

/-- An exact accumulator result `x`, saturated at 72 bits, with its flags (R291, R294); `y`: that of acc_n′, if there is one. -/
def AccDone (s t : State) (n : Fin 16) (k : CArith) (x : Int) (y : Option Int) : Prop :=
  have sat := decide (satI 72 x ≠ x) || (match y with | some y => decide (satI 72 y ≠ y) | none => false)
  ArithDone s t n k none (fun j => if j = k.d then satI 72 x else
    match y with | some y => if j = k.d ^^^ 1 then satI 72 y else (s.core n).ra j | none => (s.core n).ra j) ∧
  SrIs s t n (decide (satI 72 x = 0)) (decide (satI 72 x < 0)) (coreFlag s n srC) sat
    (decide (satI 72 x < -(2 ^ 63) ∨ 2 ^ 63 ≤ satI 72 x)) (coreFlag s n srSAT || sat)

/-- Lanes (`h`, `l`), each saturated at 36 bits, as an accumulator (R292), and whether one saturates. -/
def lanes (h l : Int) : Int := satI 36 h * 2 ^ 36 + (uN 36 (satI 36 l) : Nat)
def lanesSat (h l : Int) : Bool := decide (satI 36 h ≠ h) || decide (satI 36 l ≠ l)

/-- Lane results of acc_n, and of acc_n′ if there is one. -/
def LaneDone (s t : State) (n : Fin 16) (k : CArith) (h l : Int) (y : Option (Int × Int)) : Prop :=
  have x := lanes h l
  have sat := lanesSat h l || (match y with | some y => lanesSat y.1 y.2 | none => false)
  ArithDone s t n k none (fun j => if j = k.d then x else
    match y with | some y => if j = k.d ^^^ 1 then lanes y.1 y.2 else (s.core n).ra j | none => (s.core n).ra j) ∧
  SrIs s t n (decide (x = 0)) (decide (x < 0)) (coreFlag s n srC) sat (decide (x < -(2 ^ 63) ∨ 2 ^ 63 ≤ x))
    (coreFlag s n srSAT || sat)

/-- Core `n` has taken the exception of vector `v` (R304): EXC shows it; with the reserve entry free the state at `ret` is saved, IE
is clear, PRIV set and PC at 2 v; else the core has stopped with DOUBLE. Registers, pointers and accumulators are as before. -/
def Excepted (s t : State) (n : Fin 16) (v code ret : Nat) : Prop :=
  t.f (GC.GC_EXC'VECTOR n) = v ∧ t.f (GC.GC_EXC'CAUSE n) = (if v = 2 then code else 0) ∧ t.f (GC.GC_EXC'ADDR n) = s.corePC n ∧
  (∀ m, m ≠ n.val → t.core m = s.core m) ∧ (t.core n).g = (s.core n).g ∧ (t.core n).acc = (s.core n).acc ∧
  (t.core n).i = (s.core n).i ∧ (t.core n).m = (s.core n).m ∧ (t.core n).am = (s.core n).am ∧ (t.core n).imask = (s.core n).imask ∧
  ((s.core n).reserve = none →
    have ent : StackEnt := { full := true, pc := ret, sr := (s.core n).sr, loops := (s.core n).loops, idle := (s.core n).idle }
    t.corePC n = 2 * v ∧ coreFlag t n srPRIV = true ∧ coreFlag t n srIE = false ∧
    (∀ b, b < 8 → coreFlag t n b = coreFlag s n b) ∧ (t.core n).exc = w32 code ∧ (t.core n).epc = w32 ret ∧
    (if (s.core n).stack.length < 16 then (t.core n).stack = ent :: (s.core n).stack ∧ (t.core n).reserve = none
     else (t.core n).stack = (s.core n).stack ∧ (t.core n).reserve = some ent) ∧
    SameRegsBut (GC.GC_EXC n :: issueRegs n) s t ∧ SameMem s t) ∧
  ((s.core n).reserve ≠ none → t.coreSt n = gsFAULT ∧ t.f (GC.GC_STAT'HALT_CAUSE n) = 6 ∧ t.evtPending (80 + n) = true)

/-- The result `v` of a g destination alone: no flag, pointer, accumulator or memory changes. -/
def LoadDone (s t : State) (n : Fin 16) (g : Nat) (v : Word) : Prop :=
  (∀ r, r < 32 → (t.core n).g.get r = if r = physG (s.coreRB n) g then v else (s.core n).g.get r) ∧
  (t.core n).acc = (s.core n).acc ∧ (t.core n).sr = (s.core n).sr ∧ CoreFrame s t n ∧ SameMem s t

/-- What a register of R279 holds after a write of `v`; `old` is what it held. -/
def regVal (rn sub : Nat) (v old : Word) : Word :=
  if rn < 0x30 then v
  else if rn < 0x38 then v &&& 0xC000FFFF
  else if rn < 0x3C then (if sub = 2 then BitVec.ofInt 32 (sxN 8 v.toNat) else v)
  else match sub with | 0 => v &&& 0x33F | 1 => v &&& 0xF | 5 => v &&& 0xFFFF | 6 => old | _ => v

/-- Register (rn, sub) of core `n` has been written with `v`; every other keeps its value, and memory too. -/
def RegDone (s t : State) (n : Fin 16) (rn sub : Nat) (v : Word) : Prop :=
  t.coreReg n rn sub = regVal rn sub v (s.coreReg n rn sub) ∧
  ((rn ≠ 0x3C ∨ sub ≠ 1) → ∀ rn' sub', rn' < 64 → rnValid rn' sub' = true → rn' ≠ rn ∨ (0x38 ≤ rn ∧ sub' ≠ sub) →
    t.coreReg n rn' sub' = s.coreReg n rn' sub') ∧
  t.corePC n = (s.corePC n + 1) % 2 ^ 15 ∧ (∀ m, m ≠ n.val → t.core m = s.core m) ∧ SameRegsBut (issueRegs n) s t ∧ SameMem s t

end Sys2Proof.Machine

/-- An arithmetic instruction with a g destination, a compare or NOP, with or without parallel moves in local memory,
completes: the destination holds the result of the operation on the sources read at issue under RB, Z, N, C, V and SAT
are as R291-R294 and R299 say, loads, post-modifications and stores are made, PC moves on. Whether C of a difference
is a borrow is the value Config leaves open (log entry 27). Nothing else changes. Rules: R280, R289, R291, R293, R294,
R295, R297, R298, R299. -/
def Obligations.CoreRegisterArithmetic : Prop :=
  ∀ (s : State) (n : Fin 16) (e : Ecc) (k : CArith), Issues s n e (.arith k) → MovesOk s n k →
  have a := (s.core n).rg (s.coreRB n) (k.a % 32)
  have b := (s.core n).rg (s.coreRB n) (k.b % 32)
  (k.op = 0x10 → Gives (exec (.add n e) s) fun t => GDone s t n k (a + b) (decide (2 ^ 32 ≤ a.toNat + b.toNat)) (decide (a.toInt + b.toInt ≠ (a + b).toInt)) (coreFlag s n srSAT)) ∧
  (k.op = 0x11 → Gives (exec (.sub n e) s) fun t => GDone s t n k (a - b) (decide (a.toNat < b.toNat) == Config.subCarryIsBorrow) (decide (a.toInt - b.toInt ≠ (a - b).toInt)) (coreFlag s n srSAT)) ∧
  (k.op = 0x12 → Gives (exec (.adds n e) s) fun t => GDone s t n k (BitVec.ofInt 32 (satI 32 (a.toInt + b.toInt))) (decide (2 ^ 32 ≤ a.toNat + b.toNat)) (decide (a.toInt + b.toInt ≠ (a + b).toInt)) (coreFlag s n srSAT || decide (a.toInt + b.toInt ≠ (a + b).toInt))) ∧
  (k.op = 0x13 → Gives (exec (.subs n e) s) fun t => GDone s t n k (BitVec.ofInt 32 (satI 32 (a.toInt - b.toInt))) (decide (a.toNat < b.toNat) == Config.subCarryIsBorrow) (decide (a.toInt - b.toInt ≠ (a - b).toInt)) (coreFlag s n srSAT || decide (a.toInt - b.toInt ≠ (a - b).toInt))) ∧
  (k.op = 0x14 → Gives (exec (.and n e) s) fun t => GDone s t n k (a &&& b) (coreFlag s n srC) (coreFlag s n srV) (coreFlag s n srSAT)) ∧
  (k.op = 0x15 → Gives (exec (.or n e) s) fun t => GDone s t n k (a ||| b) (coreFlag s n srC) (coreFlag s n srV) (coreFlag s n srSAT)) ∧
  (k.op = 0x16 → Gives (exec (.xor n e) s) fun t => GDone s t n k (a ^^^ b) (coreFlag s n srC) (coreFlag s n srV) (coreFlag s n srSAT)) ∧
  (k.op = 0x17 → Gives (exec (.andn n e) s) fun t => GDone s t n k (a &&& ~~~b) (coreFlag s n srC) (coreFlag s n srV) (coreFlag s n srSAT)) ∧
  (k.op = 0x18 → Gives (exec (.asl n e) s) fun t => GDone s t n k (a <<< k.b) (coreFlag s n srC) (coreFlag s n srV) (coreFlag s n srSAT)) ∧
  (k.op = 0x19 → Gives (exec (.asr n e) s) fun t => GDone s t n k (a.sshiftRight k.b) (coreFlag s n srC) (coreFlag s n srV) (coreFlag s n srSAT)) ∧
  (k.op = 0x1A → Gives (exec (.lsr n e) s) fun t => GDone s t n k (a >>> k.b) (coreFlag s n srC) (coreFlag s n srV) (coreFlag s n srSAT)) ∧
  (k.op = 0x1B → Gives (exec (.asls n e) s) fun t => GDone s t n k (BitVec.ofInt 32 (satI 32 (a.toInt * 2 ^ k.b))) (coreFlag s n srC) (coreFlag s n srV) (coreFlag s n srSAT || decide (satI 32 (a.toInt * 2 ^ k.b) ≠ a.toInt * 2 ^ k.b))) ∧
  (k.op = 0x1C → Gives (exec (.mulr n e) s) fun t => GDone s t n k (BitVec.ofInt 32 (satI 32 (rshr (a.toInt * b.toInt * 2) 32))) (coreFlag s n srC) (coreFlag s n srV) (coreFlag s n srSAT || decide (satI 32 (rshr (a.toInt * b.toInt * 2) 32) ≠ rshr (a.toInt * b.toInt * 2) 32))) ∧
  (k.op = 0x1D → Gives (exec (.muli n e) s) fun t => GDone s t n k (BitVec.ofInt 32 (a.toInt * b.toInt)) (coreFlag s n srC) (coreFlag s n srV) (coreFlag s n srSAT)) ∧
  (k.op = 0x1E → Gives (exec (.min n e) s) fun t => GDone s t n k (if a.toInt < b.toInt then a else b) (coreFlag s n srC) (coreFlag s n srV) (coreFlag s n srSAT)) ∧
  (k.op = 0x1F → Gives (exec (.max n e) s) fun t => GDone s t n k (if a.toInt < b.toInt then b else a) (coreFlag s n srC) (coreFlag s n srV) (coreFlag s n srSAT)) ∧
  (k.op = 0x20 → Gives (exec (.abs n e) s) fun t => GDone s t n k (BitVec.ofInt 32 (satI 32 ((a.toInt.natAbs : Int)))) (coreFlag s n srC) (coreFlag s n srV) (coreFlag s n srSAT || decide (satI 32 ((a.toInt.natAbs : Int)) ≠ (a.toInt.natAbs : Int)))) ∧
  (k.op = 0x21 → Gives (exec (.neg n e) s) fun t => GDone s t n k (BitVec.ofInt 32 (satI 32 (-a.toInt))) (coreFlag s n srC) (coreFlag s n srV) (coreFlag s n srSAT || decide (satI 32 (-a.toInt) ≠ -a.toInt))) ∧
  (k.op = 0x27 → Gives (exec (.norm n e) s) fun t => GDone s t n k (BitVec.ofNat 32 (normCount a)) (coreFlag s n srC) (coreFlag s n srV) (coreFlag s n srSAT)) ∧
  (k.op = 0x22 → Gives (exec (.cmp n e) s) fun t => ArithDone s t n k none (s.core n).ra ∧
    SrIs s t n (a - b == 0) (a - b).msb (decide (a.toNat < b.toNat) == Config.subCarryIsBorrow) (decide (a.toInt - b.toInt ≠ (a - b).toInt)) (coreFlag s n srU) (coreFlag s n srSAT)) ∧
  (k.op = 0x23 →
    have b := BitVec.ofInt 32 (sxN 5 k.b)
    Gives (exec (.cmpi n e) s) fun t => ArithDone s t n k none (s.core n).ra ∧
    SrIs s t n (a - b == 0) (a - b).msb (decide (a.toNat < b.toNat) == Config.subCarryIsBorrow) (decide (a.toInt - b.toInt ≠ (a - b).toInt)) (coreFlag s n srU) (coreFlag s n srSAT)) ∧
  (k.op = 0x24 →
    have x := rshr ((s.core n).ra k.a) (32 - k.b)
    Gives (exec (.ext n e) s) fun t => ArithDone s t n k (some (BitVec.ofInt 32 (satI 32 x))) (s.core n).ra ∧
    SrIs s t n (coreFlag s n srZ) (coreFlag s n srN) (coreFlag s n srC) (coreFlag s n srV) (coreFlag s n srU) (coreFlag s n srSAT || decide (satI 32 x ≠ x))) ∧
  (k.op = 0x25 →
    have x := rshr ((s.core n).ra k.a) (k.b)
    Gives (exec (.exti n e) s) fun t => ArithDone s t n k (some (BitVec.ofInt 32 (satI 32 x))) (s.core n).ra ∧
    SrIs s t n (coreFlag s n srZ) (coreFlag s n srN) (coreFlag s n srC) (coreFlag s n srV) (coreFlag s n srU) (coreFlag s n srSAT || decide (satI 32 x ≠ x))) ∧
  (k.op = 0x26 →
    have h := rshr (hiLane ((s.core n).ra k.a)) 16
    have l := rshr (loLane ((s.core n).ra k.a)) 16
    Gives (exec (.extd n e) s) fun t =>
    ArithDone s t n k (some (BitVec.ofInt 16 (satI 16 h) ++ BitVec.ofInt 16 (satI 16 l))) (s.core n).ra ∧
    SrIs s t n (coreFlag s n srZ) (coreFlag s n srN) (coreFlag s n srC) (coreFlag s n srV) (coreFlag s n srU)
      (coreFlag s n srSAT || decide (satI 16 h ≠ h) || decide (satI 16 l ≠ l))) ∧
  (k.op = 0 → Gives (exec (.nop n e) s) fun t => ArithDone s t n k none (s.core n).ra ∧ (t.core n).sr = (s.core n).sr)

/-- An accumulator instruction, with or without parallel moves in local memory, completes: the accumulator, and the second
one of a dual operation, holds the exact result saturated at 72 bits or, in the SIMD operations, at 36 bits a lane; Z,
N and U come from the result, V and SAT from saturation; loads, post-modifications and stores are made. In a
suppressed iteration a MAC changes no accumulator, flag or byte of memory. Nothing else changes. Rules: R280, R288,
R291, R292, R294, R297, R298, R299. -/
def Obligations.CoreAccumulatorArithmetic : Prop :=
  (∀ (s : State) (n : Fin 16) (e : Ecc) (k : CArith), Issues s n e (.arith k) → MovesOk s n k →
  have a := (s.core n).rg (s.coreRB n) (k.a % 32)
  have b := (s.core n).rg (s.coreRB n) (k.b % 32)
  have a' := (s.core n).rg (s.coreRB n) (k.a % 32 ^^^ 1)
  have b' := (s.core n).rg (s.coreRB n) (k.b % 32 ^^^ 1)
  (k.op = 0x01 → Gives (exec (.mpy n e) s) fun t => AccDone s t n k (a.toInt * b.toInt * 2) none) ∧
  (k.op = 0x02 → Gives (exec (.mac n e) s) fun t => AccDone s t n k ((s.core n).ra k.d + a.toInt * b.toInt * 2) none) ∧
  (k.op = 0x03 → Gives (exec (.msu n e) s) fun t => AccDone s t n k ((s.core n).ra k.d - a.toInt * b.toInt * 2) none) ∧
  (k.op = 0x04 → Gives (exec (.mpyi n e) s) fun t => AccDone s t n k (a.toInt * b.toInt) none) ∧
  (k.op = 0x05 → Gives (exec (.maci n e) s) fun t => AccDone s t n k ((s.core n).ra k.d + a.toInt * b.toInt) none) ∧
  (k.op = 0x06 → Gives (exec (.msui n e) s) fun t => AccDone s t n k ((s.core n).ra k.d - a.toInt * b.toInt) none) ∧
  (k.op = 0x07 → Gives (exec (.mac2 n e) s) fun t => AccDone s t n k ((s.core n).ra k.d + a.toInt * b.toInt * 2) (some ((s.core n).ra (k.d ^^^ 1) + a'.toInt * b'.toInt * 2))) ∧
  (k.op = 0x08 → Gives (exec (.mac2i n e) s) fun t => AccDone s t n k ((s.core n).ra k.d + a.toInt * b.toInt) (some ((s.core n).ra (k.d ^^^ 1) + a'.toInt * b'.toInt))) ∧
  (k.op = 0x0C → Gives (exec (.adda n e) s) fun t => AccDone s t n k ((s.core n).ra k.d + a.toInt * 2 ^ 32) none) ∧
  (k.op = 0x0D → Gives (exec (.suba n e) s) fun t => AccDone s t n k ((s.core n).ra k.d - a.toInt * 2 ^ 32) none) ∧
  (k.op = 0x0E → Gives (exec (.clra n e) s) fun t => AccDone s t n k (0) none) ∧
  (k.op = 0x28 → Gives (exec (.asra n e) s) fun t => AccDone s t n k (rshr ((s.core n).ra k.d) k.b) none) ∧
  (k.op = 0x29 → Gives (exec (.asla n e) s) fun t => AccDone s t n k ((s.core n).ra k.d * 2 ^ k.b) none) ∧
  (k.op = 0x2A → Gives (exec (.addaa n e) s) fun t => AccDone s t n k ((s.core n).ra k.d + (s.core n).ra (k.a % 4)) none) ∧
  (k.op = 0x2B → Gives (exec (.lda n e) s) fun t => AccDone s t n k (a.toInt * 2 ^ 32) none) ∧
  (k.op = 0x09 → Gives (exec (.dmpy n e) s) fun t => LaneDone s t n k (hiHalf a * hiHalf b * 2) (loHalf a * loHalf b * 2)
    none) ∧
  (k.op = 0x0A → Gives (exec (.dmac n e) s) fun t => LaneDone s t n k (hiLane ((s.core n).ra k.d) + hiHalf a * hiHalf b * 2) (loLane ((s.core n).ra k.d) + loHalf a * loHalf b * 2)
    none) ∧
  (k.op = 0x0B → Gives (exec (.dmac2 n e) s) fun t => LaneDone s t n k (hiLane ((s.core n).ra k.d) + hiHalf a * hiHalf b * 2) (loLane ((s.core n).ra k.d) + loHalf a * loHalf b * 2)
    (some (hiLane ((s.core n).ra (k.d ^^^ 1)) + hiHalf a' * hiHalf b' * 2, loLane ((s.core n).ra (k.d ^^^ 1)) + loHalf a' * loHalf b' * 2)))) ∧
  (∀ (s : State) (n : Fin 16) (e : Ecc) (k : CArith), s.canIssue n = true → s.insAt n = some (.arith k) → (s.core n).stepping = false →
    (∀ m, e ≠ Ecc.double m) → (s.core n).suppressed (s.corePC n) = true → MovesOk s n k → k.op = 0x02 →
    Gives (exec (.mac n e) s) fun t => (t.core n).acc = (s.core n).acc ∧ (t.core n).sr = (s.core n).sr ∧ SameMem s t ∧
      (∀ r, r < 16 → (t.core n).g.get r = (s.core n).g.get r) ∧
      (∀ p, p < 8 → (t.core n).i.get p = (k.moves.foldl (fun c m => c.advance m.2.ptr m.2.md) (s.core n)).i.get p))

/-- Outside loops LDI, LDIH and MOVC write the register that RN and SUB name and no other, and a write of SR, IMASK, EXC
or EPC with PRIV = 0 takes vector 1 instead. LDX loads from or stores to local X or Y at pointer + displacement, loads
from the shared memory window, and takes vector 3 outside the map and, with PRIV = 0, in BAR0 space outside the PERF
block; LDP loads a P word and post-modifies, or takes vector 1 through an illegal address mode, vector 3 outside P.
Rules: R276, R279, R283, R300, R303, R304. -/
def Obligations.CoreMovesAndLoads : Prop :=
  (∀ (s : State) (n : Fin 16) (e : Ecc) (rn sub x y : Nat), (s.core n).loops = [] → rn < 64 → sub < 16 →
    (Issues s n e (.ldi rn sub x) → Gives (exec (.ldi n e) s) fun t =>
      if privReg rn sub = true ∧ coreFlag s n srPRIV = false then Excepted s t n 1 0 (s.corePC n)
      else RegDone s t n rn sub (BitVec.ofInt 32 (sxN 16 x))) ∧
    (Issues s n e (.ldih rn sub x) → Gives (exec (.ldih n e) s) fun t =>
      if privReg rn sub = true ∧ coreFlag s n srPRIV = false then Excepted s t n 1 0 (s.corePC n)
      else RegDone s t n rn sub (BitVec.ofNat 32 (x % 65536 * 65536 + (s.coreReg n rn sub).toNat % 65536))) ∧
    (Issues s n e (.movc rn sub x y) → Gives (exec (.movc n e) s) fun t =>
      if privReg rn sub = true ∧ coreFlag s n srPRIV = false then Excepted s t n 1 0 (s.corePC n)
      else RegDone s t n rn sub (s.coreReg n x y))) ∧
  (∀ (s : State) (n : Fin 16) (e : Ecc) (g ptr : Nat) (store y : Bool) (disp : Int), g < 32 → Issues s n e (.ldx g store ptr y disp) →
    have a := uN 32 (((s.core n).i.get ptr).toNat + disp)
    have at_ := coreMem n (if y then 2 else 1) + 4 * a
    (a < 0x8000 → Gives (exec (.ldx n e) s) fun t =>
      if store then
        SameMem (s.stn at_ 4 ((s.core n).rg (s.coreRB n) g).toNat) t ∧ (t.core n).g = (s.core n).g ∧ (t.core n).i = (s.core n).i ∧
        (t.core n).acc = (s.core n).acc ∧ (t.core n).sr = (s.core n).sr ∧ CoreFrame s t n
      else LoadDone s t n g (w32 (s.ldn at_ 4)) ∧ (t.core n).i = (s.core n).i) ∧
    (y = false → store = false → 0x100000 ≤ a → a < 0x300000 → s.domOn pdMEM = true → s.isHdr ((a - 0x100000) / 1024) = false →
      Gives (exec (.ldx n e) s) fun t => LoadDone s t n g (w32 (s.ldn (smwAt 0 + 4 * (a - 0x100000)) 4))) ∧
    ((if y then 0x8000 ≤ a else xKind a = 3 ∨ (xKind a = 2 ∧ coreFlag s n srPRIV = false ∧ barOf a / 0x10000 ≠ 0x150)) →
      Gives (exec (.ldx n e) s) fun t => Excepted s t n 3 0 (s.corePC n))) ∧
  (∀ (s : State) (n : Fin 16) (e : Ecc) (g ptr md : Nat), g < 32 → ptr < 8 → Issues s n e (.ldp g ptr md) →
    have a := ((s.core n).i.get ptr).toNat
    Gives (exec (.ldp n e) s) fun t =>
      if (s.core n).modIllegal ptr md then Excepted s t n 1 0 (s.corePC n)
      else if 0x4100 ≤ a then Excepted s t n 3 0 (s.corePC n)
      else LoadDone s t n g (w32 (s.pWord n a)) ∧
        (∀ p, p < 8 → (t.core n).i.get p = if p = ptr ∧ md ≠ 0 then
          postMod ((s.core n).am.get ptr) ((s.core n).i.get ptr) ((s.core n).modAmount ptr md) else (s.core n).i.get p))

/-- Outside loops a taken BRA continues at its target, CALL pushes its return address or takes vector 2 at depth 16, RTS
and RTI pop the top entry, RTI with SR and the loop state; LOOPI and LOOPG enter a loop, skip a body with count 0, or
take vector 2 at depth 2; the last instruction of a body ends an iteration, counts LCNT down and rotates RB; JMPR
jumps, TRAP takes vector 6, LEXIT ends the loop, WAIT, HALT, SYNC, NOP and BXV do as R295 and R302 say. Rules: R286,
R287, R289, R295, R301, R302, R304. -/
def Obligations.CoreControlFlow : Prop :=
  (∀ (s : State) (n : Fin 16) (e : Ecc) (cond target g code : Nat), (s.core n).loops = [] → target < 2 ^ 14 →
    have pc := s.corePC n
    have c := s.core n
    (Issues s n e (.bra cond target) → Gives (exec (.bra n e) s) fun t =>
      t.corePC n = (if condHolds c.sr cond then target else (pc + 1) % 2 ^ 15) ∧ (t.core n).g = c.g ∧ (t.core n).sr = c.sr ∧
      (t.core n).stack = c.stack ∧ (t.core n).loops = [] ∧ SameRegsBut (issueRegs n) s t ∧ SameMem s t) ∧
    (Issues s n e (.call cond target) → Gives (exec (.call n e) s) fun t =>
      if condHolds c.sr cond = false then t.corePC n = (pc + 1) % 2 ^ 15 ∧ (t.core n).stack = c.stack
      else if 16 ≤ c.stack.length then Excepted s t n 2 1 pc
      else t.corePC n = target ∧ (t.core n).stack = { (default : StackEnt) with pc := (pc + 1) % 2 ^ 15 } :: c.stack ∧
        (t.core n).g = c.g ∧ (t.core n).sr = c.sr ∧ SameRegsBut (issueRegs n) s t ∧ SameMem s t) ∧
    (∀ x l, c.reserve = none → c.stack = x :: l →
      (Issues s n e .rts → Gives (exec (.rts n e) s) fun t =>
        t.corePC n = x.pc % 2 ^ 15 ∧ (t.core n).stack = l ∧ (t.core n).g = c.g ∧ (t.core n).sr = c.sr ∧
        SameRegsBut (issueRegs n) s t ∧ SameMem s t) ∧
      (Issues s n e .rti → x.full = true → Gives (exec (.rti n e) s) fun t =>
        t.corePC n = x.pc % 2 ^ 15 ∧ (t.core n).stack = l ∧ (t.core n).sr = x.sr ∧ (t.core n).loops = x.loops ∧
        (t.core n).idle = x.idle ∧ (t.core n).g = c.g ∧ SameRegsBut (issueRegs n) s t ∧ SameMem s t)) ∧
    (Issues s n e (.jmpr g) → Gives (exec (.jmpr n e) s) fun t =>
      if 2 ^ 15 ≤ (c.rg (s.coreRB n) g).toNat then Excepted s t n 3 0 pc
      else t.corePC n = (c.rg (s.coreRB n) g).toNat ∧ (t.core n).g = c.g ∧ (t.core n).sr = c.sr ∧
        SameRegsBut (issueRegs n) s t ∧ SameMem s t) ∧
    (Issues s n e (.trap code) → code < 256 → Gives (exec (.trap n e) s) fun t => Excepted s t n 6 code ((pc + 1) % 2 ^ 15)) ∧
    (Issues s n e .sync → Gives (exec (.sync n e) s) fun t =>
      (t.core n).g = c.g ∧ (t.core n).sr = c.sr ∧ CoreFrame s t n ∧ SameMem s t) ∧
    (Issues s n e .nopB → Gives (exec (.nopB n e) s) fun t =>
      (t.core n).g = c.g ∧ (t.core n).sr = c.sr ∧ CoreFrame s t n ∧ SameMem s t) ∧
    (Issues s n e .halt → Gives (exec (.halt n e) s) fun t =>
      t.coreSt n = gsHALTED ∧ t.f (GC.GC_STAT'HALT_CAUSE n) = 5 ∧ t.corePC n = (pc + 1) % 2 ^ 15 ∧ (t.core n).g = c.g ∧
      (t.core n).sr = c.sr) ∧
    (Issues s n e .wait → Gives (exec (.wait n e) s) fun t =>
      t.coreSt n = (if (s.nextInt n).isSome then gsRUNNING else gsWAITING) ∧ t.corePC n = (pc + 1) % 2 ^ 15 ∧ (t.core n).g = c.g ∧
      (t.core n).sr = c.sr ∧ SameRegsBut (issueRegs n) s t ∧ SameMem s t)) ∧
  (∀ (s : State) (n : Fin 16) (e : Ecc) (rot : Bool) (skip len x g : Nat), 1 ≤ len → len ≤ 128 →
    have pc := s.corePC n
    have c := s.core n
    have count := (c.rg (s.coreRB n) g).toNat
    have l := fun (k : Nat) => (LoopLvl.mk k (pc + 1) (pc + len) rot skip 0 c.depth false false)
    (Issues s n e (.loopi rot skip len x) → Gives (exec (.loopi n e) s) fun t =>
      if 2 ≤ c.loops.length then Excepted s t n 2 2 pc
      else SameMem s t ∧ (x = 0 → c.loops = [] → t.corePC n = pc + len + 1 ∧ (t.core n).loops = []) ∧
        (x ≠ 0 → t.corePC n = pc + 1 ∧ (t.core n).loops = l x :: c.loops ∧ (t.core n).g = c.g ∧ (t.core n).sr = c.sr ∧
          SameRegsBut (issueRegs n) s t)) ∧
    (Issues s n e (.loopg rot skip len g) → Gives (exec (.loopg n e) s) fun t =>
      if 2 ≤ c.loops.length then Excepted s t n 2 2 pc
      else SameMem s t ∧ (count = 0 → c.loops = [] → t.corePC n = pc + len + 1 ∧ (t.core n).loops = []) ∧
        (count ≠ 0 → t.corePC n = pc + 1 ∧ (t.core n).loops = l count :: c.loops ∧ (t.core n).g = c.g ∧
          (t.core n).sr = c.sr ∧ SameRegsBut (issueRegs n) s t))) ∧
  (∀ (s : State) (n : Fin 16) (e : Ecc) (l : LoopLvl), (s.core n).loops = [l] →
    (Issues s n e .lexit → Gives (exec (.lexit n e) s) fun t =>
      (t.core n).loops = [] ∧ t.corePC n = (s.corePC n + 1) % 2 ^ 15 ∧ (t.core n).g = (s.core n).g ∧
      (t.core n).sr = (s.core n).sr ∧ SameRegsBut (issueRegs n) s t ∧ SameMem s t) ∧
    (Issues s n e .nopB → l.bot = s.corePC n → l.depth = (s.core n).depth → Gives (exec (.nopB n e) s) fun t =>
      t.coreRB n = (if l.rot then (s.coreRB n + 15) % 16 else s.coreRB n) ∧
      (if 1 < l.cnt then t.corePC n = l.top % 2 ^ 15 ∧ (t.core n).loopReg 0 = l.cnt - 1 ∧ (t.core n).loopReg 1 = l.top ∧
         (t.core n).loopReg 2 = l.bot
       else t.corePC n = (s.corePC n + 1) % 2 ^ 15 ∧ (t.core n).loops = []))) ∧
  (∀ (s : State) (n : Fin 16) (e : Ecc) (g ptr md count : Nat) (y : Bool), g < 32 → ptr < 8 → Issues s n e (.bxv g ptr y md count) →
    have c := s.core n
    have p := fun (j : Nat) => ((upto j).foldl (fun (c : GCore) _ => c.advance ptr md) c).i.get ptr
    have w := fun (j : Nat) => normCount (w32 (s.ldn (coreMem n (if y then 2 else 1) + 4 * (p j).toNat) 4))
    1 ≤ count → c.modIllegal ptr md = false → (∀ j, j < count → (p j).toNat < 0x8000) →
    Gives (exec (.bxv n e) s) fun t => ∃ r, (∃ j, j < count ∧ w j = r) ∧ (∀ j, j < count → r ≤ w j) ∧
      (∀ q, q < 32 → (t.core n).g.get q = if q = physG (s.coreRB n) g then BitVec.ofNat 32 r else c.g.get q) ∧
      (∀ q, q < 8 → (t.core n).i.get q = if q = ptr then p count else c.i.get q) ∧
      SrIs s t n (decide (r = 0)) false (coreFlag s n srC) (coreFlag s n srV) (coreFlag s n srU) (coreFlag s n srSAT) ∧
      (t.core n).acc = c.acc ∧ CoreFrame s t n ∧ SameMem s t)

/-- A word that decodes to nothing takes vector 1, a fetch outside P vector 3, a double-bit error in the fetched word
vector 5. A due interrupt line enters vector 16 + i with IE clear and PRIV set; WAIT resumes when one is pending; a
breakpoint halts or takes vector 7. HALT stops a running core, RUN resumes a halted one at GC_PC, STEP issues one
instruction, GC_PC and GC_DBG_DATA are written only while HALTED; a P word is written only where R278 allows; SOFT_RST
and release follow GC_BOOT_CFG; a kick of 0xC0DE restarts the watchdog. Rules: R276, R278, R296, R302, R304, R306,
R307, R308, R309. -/
def Obligations.CoreExceptionsAndDebug : Prop :=
  (∀ (s : State) (n : Fin 16) (e : Ecc), s.canIssue n = true → s.insAt n = none → (s.core n).stepping = false → e = Ecc.none →
    Gives (exec (.illegalInstruction n e) s) fun t =>
      Excepted s t n (if s.corePC n < 0x4100 then 1 else 3) 0 (s.corePC n)) ∧
  (∀ (s : State) (n : Fin 16), s.canIssue n = true → s.insAt n = some .nopB → (s.core n).stepping = false → s.fetchesP n = true →
    Gives (exec (.nopB n (Ecc.double 0)) s) fun t =>
      t.f (GC.GC_EXC'VECTOR n) = 5 ∧ t.f (GC.GC_ECC'UNCORR_CNT n) = min (s.f (GC.GC_ECC'UNCORR_CNT n) + 1) 255 ∧
      t.f (GC.GC_ECC'LAST_SPACE n) = 0 ∧ ((s.core n).reserve = none → t.corePC n = 10)) ∧
  (∀ (s : State) (n : Fin 16), s.domOn (pdGC (n / 4)) = true →
    (∀ i, s.coreSt n = gsRUNNING ∨ s.coreSt n = gsWAITING → s.nextInt n = some i → coreFlag s n srIE = true →
      (s.core n).stack.length < 16 → (s.core n).reserve = none → (s.core n).wp = 0 → s.bpMatch n = 0 → Gives (exec (.interruptEntry n) s) fun t =>
        t.corePC n = 2 * (16 + i) ∧ coreFlag t n srIE = false ∧ coreFlag t n srPRIV = true ∧ t.coreSt n = gsRUNNING ∧
        (t.core n).stack = { full := true, pc := s.corePC n, sr := (s.core n).sr, loops := (s.core n).loops, idle := (s.core n).idle }
          :: (s.core n).stack ∧ (t.core n).g = (s.core n).g ∧ (t.core n).loops = (s.core n).loops ∧
        SameRegsBut (issueRegs n ++ (upto 64).map (PERF.HIST_BIN 9)) s t ∧ SameMem s t) ∧
    (s.coreSt n = gsWAITING → (s.nextInt n).isSome = true → Gives (exec (.waitResume n) s) fun t =>
      t.coreSt n = gsRUNNING ∧ t.corePC n = s.corePC n ∧ SameRegsBut (issueRegs n) s t ∧ SameMem s t) ∧
    (s.coreSt n = gsRUNNING → (s.core n).wp = 0 → s.bpMatch n = 1 → Gives (exec (.breakpointHalt n) s) fun t =>
      t.coreSt n = gsHALTED ∧ t.f (GC.GC_STAT'HALT_CAUSE n) = 3 ∧ t.corePC n = s.corePC n ∧ (t.core n).g = (s.core n).g) ∧
    (s.coreSt n = gsRUNNING → (s.core n).wp = 0 → s.bpMatch n = 2 → Gives (exec (.breakpointHalt n) s) fun t =>
      Excepted s t n 7 0 (s.corePC n)) ∧
    (s.coreSt n = gsRESET → Gives (exec (.coreBoot n) s) fun t =>
      (if bitsOf (s.rd GC.GC_BOOT_CFG) (2 * n + 1) (2 * n) = 1 then t.coreSt n = gsRUNNING ∧ t.corePC n = 0x4000
       else t.coreSt n = gsHALTED ∧ t.f (GC.GC_STAT'HALT_CAUSE n) = 7 ∧ t.corePC n = 0) ∧
      (t.core n).sr = 0x200 ∧ t.coreRB n = 0 ∧ (t.core n).stack = [] ∧ (t.core n).loops = [] ∧
      SameRegsBut [GC.GC_STAT n, GC.GC_PC n] s t ∧ SameMem s t) ∧
    (s.coreSt n = gsRUNNING → (s.core n).userCode = false → 0x4000 ≤ s.corePC n → s.imgValid = true →
      sectBody s.shadow (0x8100 + n) 0 = none → Gives (exec (.bootRomLoad n) s) fun t =>
        t.coreSt n = gsHALTED ∧ t.f (GC.GC_STAT'HALT_CAUSE n) = 7) ∧
    (∀ vb, s.coreSt n = gsRUNNING → (s.core n).userCode = false → 0x4000 ≤ s.corePC n → s.imgValid = true →
      sectBody s.shadow (0x8100 + n) 0 = some vb →
      have r := s.romLoad n (vb.2.length / 8 + 1) vb.2
      (leAt vb.2 0 4 / 65536 = 0 → r.1 = some (leAt vb.2 4 4) ∧ SameMem s r.2) ∧
      ∀ a, r.1 = some a → (2 ^ 15 ≤ a → Gives (exec (.bootRomLoad n) s) fun t => t.f (GC.GC_EXC'VECTOR n) = 3) ∧
      (a < 2 ^ 15 → Gives (exec (.bootRomLoad n) s) fun t =>
        t.corePC n = a ∧ t.coreSt n = gsRUNNING ∧ (t.core n).userCode = true ∧ (t.core n).g = (s.core n).g ∧
        SameRegsBut [GC.GC_STAT n, GC.GC_PC n] s t ∧ SameMem r.2 t))) ∧
  (∀ (s : State) (w : Req) (n : Fin 16), s.takesWrite w (GC.GC_CTRL n) = true →
    Gives (exec (.gcHalt w n) s) (fun t =>
      (s.coreSt n = gsRUNNING ∨ s.coreSt n = gsWAITING → t.coreSt n = gsHALTED ∧ t.f (GC.GC_STAT'HALT_CAUSE n) = 1) ∧
      (s.coreSt n ≠ gsRUNNING → s.coreSt n ≠ gsWAITING → SameRegsBut [] s t) ∧ t.corePC n = s.corePC n ∧
      (t.core n).g = (s.core n).g) ∧
    Gives (exec (.gcRun w n) s) (fun t =>
      t.coreSt n = (if s.coreSt n = gsHALTED then gsRUNNING else s.coreSt n) ∧ t.corePC n = s.corePC n ∧
      (t.core n).g = (s.core n).g ∧ SameRegsBut [GC.GC_STAT n] s t ∧ SameMem s t) ∧
    (s.coreSt n = gsHALTED → s.insAt n = some .nopB → (s.core n).loops = [] → s.bpMatch n = 0 → (s.core n).wp = 0 →
      s.nextInt n = none → s.clockRuns (pdGC (n / 4)) = true → s.b (PERF.TAG_CFG'EN n) = false → Gives (exec (.gcStep w n Ecc.none) s) fun t =>
        t.coreSt n = gsHALTED ∧ t.f (GC.GC_STAT'HALT_CAUSE n) = 2 ∧ t.corePC n = (s.corePC n + 1) % 2 ^ 15 ∧
        (t.core n).g = (s.core n).g) ∧
    Gives (exec (.gcSoftRst w n) s) (fun t =>
      (if bitsOf (s.rd GC.GC_BOOT_CFG) (2 * n + 1) (2 * n) = 1 then t.coreSt n = gsRUNNING ∧ t.corePC n = 0x4000
       else t.coreSt n = gsHALTED ∧ t.corePC n = 0) ∧ (∀ r, (t.core n).g.get r = 0) ∧ (t.core n).sr = 0x200 ∧ (t.core n).stack = [])) ∧
  (∀ (s : State) (w : Req) (n : Fin 16) (v : Word),
    (s.takesWrite w (GC.GC_PC n) = true → Gives (exec (.gcPcWrite w n v) s) fun t =>
      t.corePC n = (if s.coreSt n = gsHALTED then bitsOf v 14 0 else s.corePC n) ∧
      SameRegsBut [GC.GC_PC n, GC.GC_STAT n] s t ∧ SameMem s t) ∧
    (s.takesWrite w (GC.GC_DBG_DATA n) = true →
      have rn := s.f (GC.GC_DBG_SEL'RN n)
      have sub := s.f (GC.GC_DBG_SEL'SUB n)
      Gives (exec (.gcDbgDataWrite w n v) s) fun t =>
        (if s.coreSt n = gsHALTED ∧ rnValid rn sub = true then t.coreReg n rn sub = regVal rn sub v (s.coreReg n rn sub)
         else t.core n = s.core n) ∧ SameRegsBut [GC.GC_STAT n] s t ∧ SameMem s t) ∧
    (s.takesWrite w (GC.GC_WDOG_KICK n) = true → Gives (exec (.wdogKick w n v) s) fun t =>
      (bitsOf v 15 0 = 0xC0DE → (t.core n).wdUsed = 0 ∧ (t.core n).wdFrom = s.ns) ∧
      (bitsOf v 15 0 ≠ 0xC0DE → t.core n = s.core n) ∧ SameRegsBut [] s t ∧ SameMem s t) ∧
    ∀ a : Fin 16384, s.takesWrite w (coreMem n 0 + 4 * a.val) = true → Gives (exec (.pMemoryWrite w n a v) s) fun t =>
      if s.coreSt n = gsRESET ∨ s.coreSt n = gsHALTED ∨ (reqCode w = n.val ∧ s.inBootRom n = true) then
        t.ldn (coreMem n 0 + 4 * a.val) 4 = v.toNat ∧ SameMemBut (coreMem n 0 + 4 * a.val) 4 s t ∧ SameRegsBut [GC.GC_STAT n] s t
      else t.evtPending 0 = true ∧ SameMem s t)

/-- Ten words, one or more of each class, decode to the instructions that the layouts of R296-R302 give them, among them
the two words that R302 gives for the dot product; words of classes 0b101 to 0b111, of reserved codes and with a
reserved field set decode to none. Rules: R296, R297, R298, R299, R300, R301, R302. -/
def Obligations.CoreWordsDecode : Prop :=
  decodeCore 0x69600103 = some (.loopi true 3 1 259) ∧
  decodeCore 0x051B0101 = some (.arith ⟨2, 0, 19, 27, some ⟨false, 16, 0, 1⟩, some ⟨false, 24, 4, 1⟩⟩) ∧
  decodeCore 0x28144500 = some (.arith { op := 0x10, d := 5, a := 2, b := 5, x := none, y := none }) ∧
  decodeCore 0x42001000 = some (.ldi 0x20 0 0x1000) ∧
  decodeCore 0x4BC0003C = some (.movc 0x3C 0 0x3C 0) ∧
  decodeCore 0x4C3AFFFF = some (.ldx 3 true 2 true (-1)) ∧
  decodeCore 0x60100100 = some (.bra 1 0x100) ∧
  decodeCore 0x6E000007 = some (.trap 7) ∧
  decodeCore 0x80A04004 = some (.bxv 10 0 false 1 4) ∧
  decodeCore 0x84000000 = some .halt ∧
  decodeCore 0xA0000000 = none ∧ decodeCore 0xFFFFFFFF = none ∧ decodeCore 0x1E000000 = none ∧ decodeCore 0x27800000 = none ∧
  decodeCore 0x64000001 = none ∧ decodeCore 0x80A04000 = none ∧ decodeCore 0x60D00000 = none

/-- For every instruction of the Ririd set with operands that its layout can hold, the word that encodeCore writes from
R296-R302 decodes to that instruction, with every operand; and whatever instruction a word decodes to is well formed,
so that its own word decodes to it too. Rules: R296, R297, R298, R299, R300, R301, R302. -/
def Obligations.CoreDecodeOfEncode : Prop :=
  (∀ i : CIns, i.wf = true → decodeCore (encodeCore i) = some i) ∧
  (∀ i : CIns, i.wf = true → encodeCore i < 2 ^ 32) ∧
  (∀ (w : Nat) (i : CIns), w < 2 ^ 32 → decodeCore w = some i → i.wf = true ∧ decodeCore (encodeCore i) = some i)

namespace Sys2Proof.Machine

/-- The registers that follow the pool: flow states, levels, credit, use; and those of a list. -/
def ChuckFrame (l : List Nat) (s t : State) : Prop :=
  (∀ a, a ∉ l → a ∉ [CHUCK.CHUCK_STAT, CHUCK.HOST_CREDIT] ++ (upto 8).map CHUCK.LEVEL_CNT → (∀ f, a ≠ CHUCK.FLOW_STAT f) →
    t.rd a = s.rd a) ∧ SameMem s t

end Sys2Proof.Machine

/-- A flag write by the owner with a listed code passes the buffer: OWNER is new, PREV the old owner, PASS_CNT one more;
else FLAG_REFUSED. SMW_PASS passes every buffer of the range or none, with PASS_REFUSED. SMW_RECLAIM by the host or
supervisor takes a buffer that no job holds and raises EVT[113]. A payload write changes the bytes within the buffer
for the owner; any other sets WRITE_REFUSED, records the first and raises EVT[113]. Nothing else changes. Rules: R310,
R311, R312, R314, R315. -/
def Obligations.BufferOwnershipPassesByRule : Prop :=
  (∀ (s : State) (w : Req) (b : Fin 2048) (v : Word), s.takesWrite w (CHUCK.SMW_FLAG b) = true →
    Gives (exec (.smwFlagWrite w b v) s) fun t =>
      (if s.owns w b = true ∧ bitsOf v 4 0 ≤ 0x12 then
        t.owner b = bitsOf v 4 0 ∧ t.f (CHUCK.SMW_FLAG'PREV b) = s.owner b ∧
        t.f (CHUCK.SMW_FLAG'PASS_CNT b) = (s.f (CHUCK.SMW_FLAG'PASS_CNT b) + 1) % 65536 ∧ SameRegsBut [CHUCK.SMW_FLAG b] s t
      else t.b CHUCK.SMW_ERR'FLAG_REFUSED = true ∧ SameRegsBut [CHUCK.SMW_ERR] s t) ∧ SameMem s t) ∧
  (∀ (s : State) (w : Req) (v : Word), s.takesWrite w CHUCK.SMW_PASS = true →
    have n := bitsOf v 24 19 + 1
    have b := bitsOf v 10 0
    Gives (exec (.smwPass w v) s) fun t =>
      (if (∀ i, i < n → b + i < 2048 ∧ s.owns w (b + i) = true) ∧ bitsOf v 31 27 ≤ 0x12 then
        (∀ i, i < n → t.owner (b + i) = bitsOf v 31 27 ∧ t.f (CHUCK.SMW_FLAG'PREV (b + i)) = s.owner (b + i)) ∧
        SameRegsBut ((upto n).map (fun i => CHUCK.SMW_FLAG (b + i))) s t
      else t.b CHUCK.SMW_ERR'PASS_REFUSED = true ∧ SameRegsBut [CHUCK.SMW_ERR] s t) ∧ SameMem s t) ∧
  (∀ (s : State) (w : Req) (b : Fin 2048), s.takesWrite w CHUCK.SMW_RECLAIM = true →
    Gives (exec (.smwReclaim w b) s) fun t =>
      (if s.hostOrSupv w = true ∧ s.bufInChuck b = false then
        t.owner b = reqCode w ∧ t.f (CHUCK.SMW_FLAG'PREV b) = s.owner b ∧ t.evtPending 113 = true ∧
        SameRegsBut [CHUCK.SMW_FLAG b, EVT.EVT_PEND 3] s t
      else t.b CHUCK.SMW_ERR'PASS_REFUSED = true ∧ SameRegsBut [CHUCK.SMW_ERR] s t) ∧ SameMem s t) ∧
  (∀ (s : State) (w : Req) (b : Fin 2048) (o : Fin 4096) (data : List (BitVec 8)), s.domOn pdMEM = true →
    ¬(w = .host ∧ (s.evt.d3 = true ∨ s.b SYS.HOST_CFG'HOST_PROXY = true)) →
    Gives (exec (.smwPayloadWrite w b o data) s) fun t =>
      if s.owns w b = true then
        (∀ i, i < min data.length (4096 - o.val) → t.ldb (smwAt b + o.val + i) = (data.getD i 0).toNat) ∧
        SameMemBut (smwAt b + o.val) (min data.length (4096 - o.val)) s t ∧ SameRegsBut [] s t
      else
        t.b CHUCK.SMW_ERR'WRITE_REFUSED = true ∧ t.evtPending 113 = true ∧
        (s.b CHUCK.SMW_ERR'WRITE_REFUSED = false →
          t.f CHUCK.SMW_ERR_INFO'REQUESTER = reqCode w ∧ t.f CHUCK.SMW_ERR_INFO'BUF = b.val) ∧
        SameRegsBut [CHUCK.SMW_ERR, CHUCK.SMW_ERR_INFO, EVT.EVT_PEND 3] s t ∧ SameMem s t)

/-- ENQ_CMD.GO answers the first failing check of R318 and changes nothing, or takes the job, its buffers passing to
DEVICE. A held hardware job enters when it can. JOB_DISPATCH delivers the chosen job to an idle core's mailbox and
raises EVT[160 + n]; time reaches the affinity window's end, which frees the job for other cores. CORE_DONE empties
the mailbox or is refused; JOB_RELEASE appends a record to the sink's queue, or waits while it is full; a read of
CQ_LO pops the oldest. FLOW_CFG is written only for a flow without a queued or served job or a reorder entry. Rules:
R318, R319, R320, R324, R325, R326, R328, R329. -/
def Obligations.JobsPassThroughTheChuck : Prop :=
  (∀ (s : State) (w : Req), s.takesWrite w CHUCK.ENQ_CMD = true →
    have ws := (upto 8).map (s.stagedWord w)
    have w0 := ws.getD 0 0
    have w1 := ws.getD 1 0
    have n := w1 / 65536 % 256
    have b := w1 % 2048
    have code := if s.b CHUCK.CHUCK_CTRL'EN = false then 5
      else if w0 / 256 % 256 ≠ 0 ∨ w1 / 2048 % 32 ≠ 0 ∨ w1 / 2 ^ 24 ≠ 0 ∨ 16 < n ∨ 2048 < b + n then 2
      else if s.b (CHUCK.FLOW_CFG'EN (w0 % 256)) = false then 3
      else if ¬(∀ i, i < n → s.owns w (b + i) = true) then 4
      else if s.poolFree (s.whoOf w) = false then 1 else 0
    Gives (exec (.enqGo w) s) fun t =>
      t.perReq.get (reqCode w * 2 ^ 32 + CHUCK.ENQ_STAT) / 2 ^ 28 = code ∧
      (code ≠ 0 → t.chuck.pool = s.chuck.pool ∧ SameRegsBut [] s t ∧ SameMem s t) ∧
      (code = 0 → t.chuck.pool.length = s.chuck.pool.length + 1 ∧
        (∃ j, j ∈ t.chuck.pool ∧ j.words = ws ∧ j.flow = w0 % 256 ∧ j.st = 0 ∧ j.who = s.whoOf w ∧
          j.id = t.perReq.get (reqCode w * 2 ^ 32 + CHUCK.ENQ_STAT) % 2 ^ 28) ∧
        (∀ i, i < n → t.owner (b + i) = ownDEVICE) ∧ ChuckFrame ((upto n).map (fun i => CHUCK.SMW_FLAG (b + i))) s t)) ∧
  (∀ (s : State) (h : HwJob) (l : List HwJob), s.domOn pdMEM = true → s.b CHUCK.CHUCK_CTRL'EN = true → s.poolFree 17 = true →
    s.chuck.held = h :: l → s.b (CHUCK.FLOW_CFG'EN h.flow) = true →
    Gives (exec .hwEnqueueRetry s) fun t =>
      t.chuck.held = l.filter (fun x => x.producer != h.producer) ∧ t.chuck.pool.length = s.chuck.pool.length + 1 ∧
      (∃ j, j ∈ t.chuck.pool ∧ j.words = h.words ∧ j.flow = h.flow ∧ j.who = 17) ∧ ChuckFrame [] s t) ∧
  (∀ (s : State) (c : Fin 16) (j : ChuckJob), s.domOn pdMEM = true → s.b CHUCK.CHUCK_CTRL'EN = true → s.coreIdle c = true →
    s.chuckSync.bestJob (s.chuckSync.chuck.pool.filter (s.chuckSync.takes c)) = some j →
    Gives (exec (.jobDispatch c) s) fun t =>
      t.b (CHUCK.MBX_TAG'FULL c) = true ∧ t.f (CHUCK.MBX_TAG'JOB_ID c) = j.id % 4096 ∧ t.f (CHUCK.MBX_TAG'FSEQ c) = j.fseq % 65536 ∧
      (∀ i, i < 8 → t.rdN (CHUCK.MBX c i) = j.words.getD i 0 % 2 ^ 32) ∧
      (∀ b, b ∈ j.inBufs → t.owner b = c.val) ∧ t.evtPending (160 + c.val) = true ∧
      ChuckFrame ([CHUCK.MBX_TAG c, EVT.EVT_PEND 5] ++ (upto 8).map (CHUCK.MBX c) ++ j.inBufs.map CHUCK.SMW_FLAG ++
        (upto 64).map (PERF.HIST_BIN 13)) s t) ∧
  (∀ (s : State) (f : Fin 256) (j : ChuckJob), s.domOn pdMEM = true →
    (s.chuckSync.flowJobs f).find? (fun j => j.st == 0) = some j → j.availNs ≠ 0 → (s.chuckSync.waitsFor j).isSome = true →
    Gives (exec (.affinityWindowEnd f) s) fun t =>
      t.chuck.pool = s.chuckSync.chuck.pool ∧
      (s.domOn pdTIME = true → 0 < dtIncr s.time.rate → j.availNs - 1 + 100 * s.f CHUCK.CHUCK_CTRL'AFF_WIN ≤ t.ns) ∧
      ChuckFrame [TIME.SLEW_LEFT] s t) ∧
  (∀ (s : State) (w : Req) (c : Fin 16) (status : BitVec 8) (resValid : Bool) (resBuf : Fin 2048),
    s.takesWrite w (CHUCK.CORE_DONE c) = true →
    Gives (exec (.coreDone w c status resValid resBuf) s) fun t =>
      if reqCode w ≠ c.val then SameRegsBut [] s t ∧ SameMem s t
      else if s.coreIdle c = true then t.b CHUCK.CHUCK_ERR'DONE_REFUSED = true ∧ SameRegsBut [CHUCK.CHUCK_ERR] s t ∧ SameMem s t
      else t.coreIdle c = true ∧
        (∀ j, j ∈ t.chuck.pool → j.st = 1 → j.core ≠ c.val) ∧
        (resValid = true → s.owner resBuf = c.val → t.owner resBuf = ownDEVICE) ∧
        (resValid = true → s.owner resBuf ≠ c.val → t.b CHUCK.CHUCK_ERR'RES_OWNER = true ∧ t.owner resBuf = s.owner resBuf) ∧
        ChuckFrame [CHUCK.MBX_TAG c, CHUCK.CHUCK_ERR, CHUCK.SMW_FLAG resBuf] s t) ∧
  (∀ (s : State) (f : Fin 256) (j : ChuckJob), s.domOn pdMEM = true → s.nextRelease f = some j →
    have k := min 16 (s.f (CHUCK.FLOW_CFG'SINK f))
    Gives (exec (.jobRelease f) s) fun t =>
      if 256 ≤ (s.chuck.cq.get k).length then SameRegsBut [] s t ∧ t.chuck = s.chuck ∧ SameMem s t
      else
        t.chuck.cq.get k = s.chuck.cq.get k ++
          [(2 ^ 31 + (if j.resValid then 2 ^ 30 else 0) + j.status * 65536 + f.val, j.fseq * 65536 + j.resBuf)] ∧
        t.f (CHUCK.CQ_STAT'COUNT k) = (s.chuck.cq.get k).length + 1 ∧ (∀ x, x ∈ t.chuck.pool → x.id ≠ j.id) ∧
        (j.resValid = true → t.owner j.resBuf = k) ∧ t.evtPending (128 + k) = true ∧
        ChuckFrame ([CHUCK.CQ_STAT k, CHUCK.SMW_FLAG j.resBuf, EVT.EVT_PEND 4] ++
          (upto 64).map (PERF.HIST_BIN (s.f (CHUCK.FLOW_CFG'CLASS f)))) s t) ∧
  (∀ (s : State) (w : Req) (k : Fin 17), s.takesRead w (CHUCK.CQ_LO k) = true →
    (s.chuck.cq.get k = [] → Gives (exec (.completionPop w k) s) fun t =>
      t.resp = .data 0 ∧ t.latched w (CHUCK.CQ_HI k) = 0 ∧ SameRegsBut [] s t ∧ SameMem s t) ∧
    (∀ r l, s.chuck.cq.get k = r :: l → Gives (exec (.completionPop w k) s) fun t =>
      t.resp = .data r.1 ∧ t.latched w (CHUCK.CQ_HI k) = r.2 ∧ t.chuck.cq.get k = l ∧
      t.f (CHUCK.CQ_STAT'COUNT k) = l.length % 512 ∧ SameRegsBut [CHUCK.CQ_STAT k] s t ∧ SameMem s t)) ∧
  (∀ (s : State) (w : Req) (f : Fin 256) (mask : Bool) (v : Word),
    s.takesWrite w (if mask then CHUCK.FLOW_MASK f else CHUCK.FLOW_CFG f) = true →
    Gives (exec (.flowCfgWrite w f mask v) s) fun t =>
      if (s.flowJobs f).any (fun j => j.st != 2 || s.f (CHUCK.FLOW_CFG'KIND f) == 1) = true then t.b CHUCK.CHUCK_ERR'FLOW_CFG_REFUSED = true ∧ SameRegsBut [CHUCK.CHUCK_ERR] s t ∧ SameMem s t
      else
        (mask = true → t.f (CHUCK.FLOW_MASK'MASK f) = bitsOf v 15 0) ∧
        (mask = false → t.f (CHUCK.FLOW_CFG'EN f) = bitsOf v 31 31 ∧ t.f (CHUCK.FLOW_CFG'PRIO f) = bitsOf v 6 4) ∧
        ChuckFrame [if mask then CHUCK.FLOW_MASK f else CHUCK.FLOW_CFG f] s t)

namespace Sys2Proof.Machine

/-- What a safety command that changes no mode leaves as it was: the parameters, every register outside the blocks SAFE, PORT,
EVT, NAND and PWR (the safety log takes a page and a token), but for the slew register of device time, and every byte of memory. -/
def SafeFrame (s t : State) : Prop :=
  (∀ a, a ∈ safeMirrors → t.rd a = s.rd a) ∧
  (∀ a, a / 0x10000 ∉ [0x03, 0xC0, 0xD0, 0x130, 0x140] → a ≠ TIME.SLEW_LEFT → t.rd a = s.rd a) ∧ SameMem s t

/-- A level of a safety input as a channel sees it: low where the input's supply has been switched off for good (R339). -/
def seenLevel (s : State) (i : Nat) (lvl : Bool) : Bool :=
  lvl && !(decide (s.f (SAFE.SI_CFG'SUPPLY i) < 8) && s.fbit SAFE.TPS_STAT'TPS_FAULT (s.f (SAFE.SI_CFG'SUPPLY i)))

/-- A safety stop from a mode in which votes may be released has put the module in M9, held by safety (R521, R523). -/
def StoppedBySafety (s t : State) (cause : Nat) : Prop :=
  voteMode s.mode = true → t.mode = 9 ∧ t.f SYS.MODE_STAT'CAUSE = cause ∧ t.f SYS.MODE_STAT'PREV = s.mode ∧
    t.b SAFE.SAFE_STAT'SAFE_STOP = true ∧ t.f SAFE.ZONE_STAT'VOTE_A = 255 ∧ t.f SAFE.ZONE_STAT'VOTE_B_L = 255

/-- Channel `l` has been marked failed: M10 from M3-M8 while the other is healthy, else a safety stop (R358-R360). -/
def ChannelFailed (s t : State) (l : Bool) (cause : Nat) : Prop :=
  t.chOk l = false ∧ (if l then t.safe.failL else t.safe.failD) = true ∧ t.evtPending 176 = true ∧
  (s.f SAFE.SAFE_STAT'XCHK_CAUSE = 0 → t.f SAFE.SAFE_STAT'XCHK_CAUSE = cause) ∧
  (s.chOk (!l) = true → 3 ≤ s.mode → s.mode ≤ 8 →
    t.mode = 10 ∧ t.f SYS.MODE_STAT'CAUSE = 4 ∧ t.b SAFE.SAFE_STAT'DEGRADED = true ∧
    t.f SAFE.SAFE_STAT'DEG_LEFT = s.f SAFE.DEG_CFG'DEG_T ∧ t.evtPending 178 = true) ∧
  (s.mode = 10 ∨ s.chOk (!l) = false → StoppedBySafety s t 3) ∧ (∀ a, a ∈ safeMirrors → t.rd a = s.rd a)

end Sys2Proof.Machine

/-- At a 100 us instant each channel whose domain runs takes its levels. INPUT_FILTER_STOP and RUN change exactly the one
filtered state whose filter has run out, else nothing. A supply is low from 20 us in its pulse slots and back at 70 us
unless it has faulted or reads low outside its pulses; TEST_READ keeps the levels of its slot. TPS_FAULT, on overload
or 200 us of low, switches the supply off, latches TEST_FAULT with cause SUPPLY on its inputs (log entry 30) and
raises EVT[176]. Outside M10, parameters, other blocks and memory stay. Rules: R332, R335, R336, R337, R339. -/
def Obligations.SafetyInputsAreSampledFilteredAndTested : Prop :=
  (∀ (s : State) (x : Nat) (siD siL : BitVec 24) (edm : BitVec 4) (tps : BitVec 8) (rb : BitVec 16) (cdRb : BitVec 8)
    (hb : BitVec 2), x % 100000 = 0 → s.safe.srcFrame ≤ x →
    s.released pdDEAD = true → s.mode ≠ 10 →
    Gives (exec (.safetySample x siD siL edm ⟨tps, rb, cdRb, hb⟩) s) fun t =>
      (∀ i, i < 24 → t.b (SAFE.SI_STAT'LVL_D i) = seenLevel s i (siD.getLsbD i) ∧
        (s.released pdLIVE = true → t.b (SAFE.SI_STAT'LVL_L i) = seenLevel s i (siL.getLsbD i)) ∧
        (s.released pdLIVE = false → t.b (SAFE.SI_STAT'LVL_L i) = s.b (SAFE.SI_STAT'LVL_L i))) ∧
      (∀ k, k < 8 → t.fbit SAFE.TPS_STAT'LEVEL k = (tps.getLsbD k && !s.fbit SAFE.TPS_STAT'TPS_FAULT k)) ∧
      t.safe.srcFrame = x + 1 ∧ SafeFrame s t) ∧
  (∀ (s : State) (live : Bool) (i : Fin 24), s.mode ≠ 10 →
    Gives (exec (.inputFilterStop live i) s) (fun t =>
      t.filt live i = (s.filt live i && !s.mayStop live i) ∧
      (∀ (m : Bool) (j : Nat), j < 24 → ¬(m = live ∧ j = i.val) → t.filt m j = s.filt m j) ∧ SafeFrame s t) ∧
    Gives (exec (.inputFilterRun live i) s) (fun t =>
      t.filt live i = (s.filt live i || s.mayRun live i) ∧
      (∀ (m : Bool) (j : Nat), j < 24 → ¬(m = live ∧ j = i.val) → t.filt m j = s.filt m j) ∧ SafeFrame s t)) ∧
  (∀ (s : State) (x : Nat) (k : Fin 8) (d l : BitVec 24), s.released pdDEAD = true → s.ns ≤ x →
    (x % 100000 = 20000 → pulseSlot k (x % 4000000 / 100000) = true → Gives (exec (.testPulseStart x k) s) fun t =>
      t.fbit SAFE.TPS_STAT'LEVEL k = false ∧ SameRegsBut [SAFE.TPS_STAT, TIME.SLEW_LEFT] s t ∧ SameMem s t) ∧
    (x % 100000 = 70000 → Gives (exec (.testPulseEnd x k) s) fun t =>
      t.fbit SAFE.TPS_STAT'LEVEL k = (!s.fbit SAFE.TPS_STAT'TPS_FAULT k && s.safe.tpsNs.get k == 0) ∧
      SameRegsBut [SAFE.TPS_STAT, TIME.SLEW_LEFT] s t ∧ SameMem s t) ∧
    (x % 100000 = 55000 → Gives (exec (.testRead x d l) s) fun t =>
      t.safe.tr = some (x % 4000000 / 100000, d, l) ∧ SameRegsBut [TIME.SLEW_LEFT] s t ∧ SameMem s t)) ∧
  (∀ (s : State) (k : Fin 8) (overload : Bool), s.released pdDEAD = true → s.fbit SAFE.TPS_STAT'TPS_FAULT k = false → s.mode ≠ 10 →
    (overload = true ∨ s.safe.tpsNs.get k ≠ 0) →
    Gives (exec (.tpsFault ⟨k, overload⟩) s) fun t =>
      (overload = false → s.domOn pdTIME = true → 0 < dtIncr s.time.rate → s.safe.tpsNs.get k + 200000 ≤ t.ns) ∧
      t.fbit SAFE.TPS_STAT'TPS_FAULT k = true ∧ t.fbit SAFE.TPS_STAT'LEVEL k = false ∧ t.evtPending 176 = true ∧
      (∀ i, i < 24 → s.siEn i = true → s.f (SAFE.SI_CFG'SUPPLY i) = k.val →
        t.b (SAFE.SI_STAT'TEST_FAULT i) = true ∧
        (s.b (SAFE.SI_STAT'TEST_FAULT i) = false → t.f (SAFE.SI_STAT'TEST_CAUSE i) = 3)) ∧ SafeFrame s t)

/-- After SAFETY_SAMPLE, in every mode, a channel's released vote for a zone means: the mode is one of M3-M8 or M10; every
function that masks the zone is in RUN in the evaluating channel, or is of STOP_CAT 1 whose stop has not taken effect;
no arm of the zone has OVERSPEED or HUB_STALE; the portal interlock condition holds; no output fault and no
STO_FB_FAULT is latched for the zone; no EDM_FAULT is latched for a contactor whose mask includes it. Otherwise the
channel votes STO. Rules: R346. -/
def Obligations.VotesAreReleasedOnlyWhileAllowed : Prop :=
  ∀ (s : State) (x : Nat) (siD siL : BitVec 24) (edm : BitVec 4) (tps : BitVec 8) (rb : BitVec 16) (cdRb : BitVec 8)
    (hb : BitVec 2), x % 100000 = 0 → s.safe.srcFrame ≤ x →
    s.released pdDEAD = true →
    Gives (exec (.safetySample x siD siL edm ⟨tps, rb, cdRb, hb⟩) s) fun t => t.released pdDEAD = true → ∀ (z : Nat) (l : Bool), z < 8 →
      t.fbit (if l then SAFE.ZONE_STAT'VOTE_B_L else SAFE.ZONE_STAT'VOTE_A) z = false →
      (t.mode ∈ [3, 4, 5, 6, 7, 8, 10]) ∧
      (∀ f, f < 24 → t.fnEn f = true → t.fbit (SAFE.FN_CFG'ZONE_MASK f) z = true →
        t.fnDem (t.chEff l) f = false ∨ (t.b (SAFE.FN_CFG'STOP_CAT f) = true ∧ bit t.safe.ss1Done z = false)) ∧
      (∀ a, a < 8 → t.fbit (SAFE.ZONE_CFG'ARM_MASK z) a = true →
        t.fbit SAFE.ARM_SAFE'OVERSPEED a = false ∧ t.fbit SAFE.ARM_SAFE'HUB_STALE a = false) ∧
      t.interlock (t.chEff l) z = true ∧
      t.fbit SAFE.ZONE_STAT'OUT_FAULT z = false ∧ t.fbit SAFE.ZONE_FB'STO_FB_FAULT z = false ∧
      (∀ k, k < 4 → t.b (SAFE.CD_CFG'EN k) = true → bit (t.cdMask k) z = true → t.cdBit k 3 = false)

/-- A discrepancy that has lasted T_DISC puts the function of that channel alone in FAULT, cause DISCREPANCY; REM_TO
cycles without an accepted frame put a remote function in FAULT, cause REMOTE_TIMEOUT, in a healthy channel that
missed them; both raise EVT[177] on entry. A valid reset pulse moves, in each channel that sees it, exactly functions
of its group that stand in WAIT with A and B in run to RUN; one of group 0 that every healthy channel sees clears
DEG_EXPIRED and OVERSPEED. When SS1_T has passed, each channel that sees the demand votes STO. Parameters, other
blocks and memory stay. Rules: R341, R342, R345, R347, R361. -/
def Obligations.SafetyFunctionsFaultAndReset : Prop :=
  (∀ (s : State) (live : Bool) (f : Fin 24), (s.fnc live f).discFrom ≠ 0 → s.fnEn f = true → s.chOk live = true →
    ((s.fnc live f).st = 1 ∨ ((f.val = 16 ∨ f.val = 17) ∧ (s.fnc live f).st ≠ 3)) → s.mode ≠ 10 →
    Gives (exec (.discrepancyTimeout live f) s) fun t =>
      (s.domOn pdTIME = true → 0 < dtIncr s.time.rate →
        (s.fnc live f).discFrom - 1 + 10000000 * s.f (SAFE.FN_CFG'T_DISC f) ≤ t.ns) ∧
      (t.fnc live f).st = 3 ∧ (t.fnc live f).cause = 1 ∧ t.fnc (!live) f = s.fnc (!live) f ∧ t.evtPending 177 = true ∧ SafeFrame s t) ∧
  (∀ (s : State) (f : Fin 24), s.fnEn f = true → s.b (SAFE.FN_CFG'REMOTE f) = true → s.mode ≠ 10 →
    (s.chOk false = true ∨ s.chOk true = true) →
    Gives (exec (.remoteTimeout f) s) fun t =>
      have due := fun (l : Bool) => if l then (s.remDue true f + 249999) / 250000 * 250000 else s.remDue false f
      (s.domOn pdTIME = true → 0 < dtIncr s.time.rate → ∃ l : Bool, s.chOk l = true ∧ due l ≤ t.ns) ∧
      (∀ l : Bool, if s.chOk l = true ∧ due l ≤ t.ns ∧ (s.fnc l f).st ≠ 3 then
          (t.fnc l f).st = 3 ∧ (t.fnc l f).cause = 3 ∧ t.evtPending 177 = true
        else t.fnc l f = s.fnc l f) ∧ SafeFrame s t) ∧
  (∀ (s : State) (g : Fin 4),
    have sees := fun (l : Bool) => s.chOk l && bit (if l then s.safe.pulseL else s.safe.pulseD) g
    (sees false = true ∨ sees true = true) →
    Gives (exec (.resetPulse g) s) fun t =>
      (∀ (l : Bool) (f : Nat), f < 24 →
        (sees l = true → s.fnEn f = true → s.f (SAFE.FN_CFG'RST_GRP f) = g.val → f < 22 → f ≠ 16 → f ≠ 17 →
          (s.fnc l f).st = 2 → s.fnChan l f 0 = true → s.fnChan l f 1 = true → (t.fnc l f).st = 0) ∧
        ((s.fnc l f).st ≠ 2 ∨ s.f (SAFE.FN_CFG'RST_GRP f) ≠ g.val ∨ sees l = false → t.fnc l f = s.fnc l f)) ∧
      (g.val = 0 → (∀ l : Bool, s.chOk l = true → sees l = true) → t.b SAFE.SAFE_STAT'DEG_EXPIRED = false ∧ t.f SAFE.ARM_SAFE'OVERSPEED = 0) ∧ SafeFrame s t) ∧
  (∀ (s : State) (z : Fin 8), s.safe.ss1Ns.get z ≠ 0 → bit s.safe.ss1Done z = false → s.released pdDEAD = true →
    Gives (exec (.ss1Timeout z) s) fun t =>
      (s.domOn pdTIME = true → 0 < dtIncr s.time.rate → s.safe.ss1Ns.get z - 1 + 1000000 * s.f (SAFE.ZONE_CFG'SS1_T z) ≤ t.ns) ∧
      (∀ l : Bool, (∃ f, f < 24 ∧ s.fnEn f = true ∧ s.fbit (SAFE.FN_CFG'ZONE_MASK f) z = true ∧ s.fnDem (s.chEff l) f = true ∧
          s.b (SAFE.FN_CFG'STOP_CAT f) = true) →
        t.fbit (if l then SAFE.ZONE_STAT'VOTE_B_L else SAFE.ZONE_STAT'VOTE_A) z = true) ∧
      t.fbit SAFE.ZONE_STAT'SS1_RUN z = false ∧ SafeFrame s t)

/-- DARK_TEST_START marks a released output while no other is in test, END frees it. An output fault latches OUT_FAULT,
opens the cross-off switch, so all eight votes of the group read STO, and enters M9. STO voted but not reported
latches STO_FB_FAULT and enters M9; released but reported sets STO_FB_WARN only. EDM at the wrong level after a
switching latches EDM_FAULT, opens the contactor and enters M9. CD_DELAY's end opens the switches whose delay has
passed and that no released zone asks for; 24 h without switching sets STALE. Rules: R123, R349, R350, R351, R521. -/
def Obligations.SafetyOutputsAndContactorsAreWatched : Prop :=
  (∀ (s : State) (o : Fin 16),
    (s.inDark (s.safe.dark - 1) = false → s.outSto o = false → s.released (if o.val < 8 then pdDEAD else pdLIVE) = true →
      Gives (exec (.darkTestStart o) s) fun t => t.safe.dark = o.val + 1 ∧ SameRegsBut [] s t ∧ SameMem s t) ∧
    (s.safe.dark = o.val + 1 → Gives (exec (.darkTestEnd o) s) fun t =>
      t.safe.dark = 0 ∧ (s.domOn pdTIME = true → 0 < dtIncr s.time.rate → s.safe.darkNs - 1 + 200000 ≤ t.ns) ∧
      SameRegsBut [TIME.SLEW_LEFT] s t ∧ SameMem s t)) ∧
  (∀ (s : State) (o : Fin 16), s.released pdDEAD = true → bit s.safe.outFlt o = false →
    ((s.outSto o = true ∧ s.safe.rb.getLsbD o.val = false ∧ s.safe.rbNs.get o ≠ 0) ∨
      (s.outSto o = false ∧ s.safe.rb.getLsbD o.val = true ∧ s.inDark o = false)) →
    Gives (exec (.outputFault o) s) fun t =>
      (s.outSto o = true → s.domOn pdTIME = true → 0 < dtIncr s.time.rate → s.safe.rbNs.get o + 1000000 ≤ t.ns) ∧
      t.fbit SAFE.ZONE_STAT'OUT_FAULT (o.val % 8) = true ∧ t.evtPending 176 = true ∧
      (if o.val < 8 then t.safe.xoffA = true ∧ t.f SAFE.ZONE_STAT'VOTE_A = 255
        else t.safe.xoffB = true ∧ t.f SAFE.ZONE_STAT'VOTE_B_L = 255) ∧
      StoppedBySafety s t 3 ∧ (∀ a, a ∈ safeMirrors → t.rd a = s.rd a)) ∧
  (∀ (s : State) (n : Fin 16) (sto : Bool), s.domOn pdLINK = true → s.released pdDEAD = true →
    (s.cfg.bricks.getD n default).used = true → (s.cfg.bricks.getD n default).zone < 8 →
    (s.bport n).stoNs ≠ 0 → s.stoDiffers n = true → s.stoVoted (s.cfg.bricks.getD n default).zone = some sto →
    Gives (exec (.stoFbMismatch n) s) fun t =>
      (s.domOn pdTIME = true → 0 < dtIncr s.time.rate → (s.bport n).stoNs - 1 + 10000000 ≤ t.ns) ∧
      t.b (BLK.PORT_STAT'STO_DISAGREE n) = true ∧
      (sto = true → t.fbit SAFE.ZONE_FB'STO_FB_FAULT (s.cfg.bricks.getD n default).zone = true ∧ StoppedBySafety s t 3 ∧
        (∀ a, a ∈ safeMirrors → t.rd a = s.rd a)) ∧
      (sto = false → t.fbit SAFE.ZONE_FB'STO_FB_WARN (s.cfg.bricks.getD n default).zone = true ∧ t.mode = s.mode ∧
        SameRegsBut [BLK.PORT_STAT n, SAFE.ZONE_FB, TIME.SLEW_LEFT] s t ∧ SameMem s t)) ∧
  (∀ (s : State) (k : Fin 4), (s.safe.cd.get k).chk = true → s.b (SAFE.CD_CFG'EN k) = true → s.released pdDEAD = true →
    Gives (exec (.edmTimeout k) s) fun t =>
      (s.domOn pdTIME = true → 0 < dtIncr s.time.rate → (s.safe.cd.get k).swNs + 1000000 * s.f (SAFE.CD_CFG'EDM_T k) ≤ t.ns) ∧
      if s.cdBit k 2 = !s.cdOn k then (t.safe.cd.get k).chk = false ∧ SameRegsBut [TIME.SLEW_LEFT] s t ∧ SameMem s t
      else t.cdBit k 3 = true ∧ t.cdOn k = false ∧ t.evtPending 176 = true ∧ StoppedBySafety s t 3 ∧
        (∀ a, a ∈ safeMirrors → t.rd a = s.rd a)) ∧
  (∀ (s : State) (k : Fin 4),
    have off := fun (l : Bool) => if l then (s.safe.cd.get k).offNsL else (s.safe.cd.get k).offNs
    have delay := 100000000 * s.f (SAFE.CD_CFG'CD_DELAY k)
    (∃ l : Bool, s.cdSwitch l k = true ∧ off l ≠ 0) →
    Gives (exec (.contactorDelayEnd k) s) fun t =>
      (s.domOn pdTIME = true → 0 < dtIncr s.time.rate → ∃ l : Bool, s.cdSwitch l k = true ∧ off l ≠ 0 ∧ off l + delay ≤ t.ns + 1) ∧
      (∀ l : Bool, s.cdSwitch l k = true → off l ≠ 0 → off l + delay ≤ t.ns + 1 → t.cdWanted l k = false → t.cdSwitch l k = false) ∧
      SafeFrame s t) ∧
  (∀ (s : State) (k : Fin 4), s.b (SAFE.CD_CFG'EN k) = true → s.cdBit k 4 = false →
    Gives (exec (.contactorStale k) s) fun t =>
      (s.domOn pdTIME = true → 0 < dtIncr s.time.rate → (s.safe.cd.get k).swNs + 86400 * 1000000000 ≤ t.ns) ∧
      t.cdBit k 4 = true ∧ SameRegsBut [SAFE.CD_STAT, TIME.SLEW_LEFT] s t ∧ SameMem s t)

/-- A channel named by its fault is marked failed, the first cause is kept, EVT[176] raised; from M3-M8 with the other
channel healthy the module enters M10 with DEG_LEFT = DEG_T and EVT[178], else M9. A difference over 2 ms asks for
both self-tests: a single failing channel is marked failed, any other pair of results enters M9. A pass after the
release of a domain makes its channel healthy. DEG_LEFT 0 enters M9 with DEG_EXPIRED. Rules: R332, R357, R358, R359,
R360. -/
def Obligations.SafetyChannelsCheckEachOther : Prop :=
  (∀ (s : State) (l : Bool), (if l then s.safe.failL else s.safe.failD) = false → s.released pdDEAD = true →
    (if l then s.safe.hbL else s.safe.hbD) ≠ 0 →
    Gives (exec (.heartbeatTimeout l) s) fun t => ChannelFailed s t l 5 ∧
      (s.domOn pdTIME = true → 0 < dtIncr s.time.rate → (if l then s.safe.hbL else s.safe.hbD) - 1 + 1000000 ≤ t.ns)) ∧
  (∀ (s : State), s.safe.failL = false → s.released pdLIVE = true →
    Gives (exec .lockstepMismatch s) fun t => ChannelFailed s t true 8) ∧
  (∀ (s : State) (c : Fin 3), s.safe.xNs.get (c.val + 1) ≠ 0 → s.safe.xPend = false →
    Gives (exec (.crossCheckTimeout c) s) fun t =>
      (s.domOn pdTIME = true → 0 < dtIncr s.time.rate → s.safe.xNs.get (c.val + 1) + 2000000 ≤ t.ns) ∧
      t.safe.xPend = true ∧ t.evtPending 176 = true ∧
      (s.f SAFE.SAFE_STAT'XCHK_CAUSE = 0 → t.f SAFE.SAFE_STAT'XCHK_CAUSE = c.val + 1) ∧ SafeFrame s t) ∧
  (∀ (s : State) (l pass : Bool), s.released (if l then pdLIVE else pdDEAD) = true → (if l then s.safe.failL else s.safe.failD) = false →
    (s.safe.xPend = false →
      (pass = false → Gives (exec (.selfTestDone l pass) s) fun t => ChannelFailed s t l (if l then 7 else 6)) ∧
      (pass = true → s.chOk l = false → Gives (exec (.selfTestDone l pass) s) fun t =>
        t.chOk l = true ∧ t.chOk (!l) = s.chOk (!l) ∧ t.evtPending 176 = true ∧
        (s.chOk (!l) = true → t.b SAFE.SAFE_STAT'DEGRADED = false) ∧ SafeFrame s t)) ∧
    (s.safe.xPend = true →
      (s.safe.xTest.get (!l).toNat = 0 → Gives (exec (.selfTestDone l pass) s) fun t =>
        t.safe.xTest.get l.toNat = (if pass then 2 else 1) ∧ t.safe.xPend = true ∧ SameRegsBut [] s t ∧ SameMem s t) ∧
      ((s.safe.xTest.get (!l).toNat = 1 ∧ pass = true) ∨ (s.safe.xTest.get (!l).toNat = 2 ∧ pass = false) →
        Gives (exec (.selfTestDone l pass) s) fun t =>
          t.safe.xPend = false ∧ ChannelFailed s t (if pass then !l else l) (if (if pass then !l else l) then 7 else 6)) ∧
      ((s.safe.xTest.get (!l).toNat = 1 ∧ pass = false) ∨ (s.safe.xTest.get (!l).toNat = 2 ∧ pass = true) →
        Gives (exec (.selfTestDone l pass) s) fun t => t.safe.xPend = false ∧ t.evtPending 176 = true ∧ StoppedBySafety s t 3))) ∧
  (∀ (s : State), s.mode = 10 →
    Gives (exec .degradedTimeout s) fun t =>
      (s.domOn pdTIME = true → 0 < dtIncr s.time.rate → s.safe.degNs + 1000000 * s.f SAFE.DEG_CFG'DEG_T ≤ t.ns) ∧
      t.b SAFE.SAFE_STAT'DEG_EXPIRED = true ∧ t.f SAFE.SAFE_STAT'DEG_LEFT = 0 ∧ t.mode = 9 ∧ t.f SYS.MODE_STAT'CAUSE = 5 ∧
      (∀ a, a ∈ safeMirrors → t.rd a = s.rd a))

/-- When both channels agree the outcome of a snapshot: each channel's level of an arm rises by at most one; outside M10
the applied level is the lower of the two; a channel that is failed or in reset, and one whose snapshot has a stale
hub of the arm or any stale sensor, gives an arm level 0, as does SSM disabled for it; HUB_STALE shows what a working
channel found; the snapshot is consumed. Parameters, other blocks and memory stay. Rules: R353, R366, R369, R375,
R376. -/
def Obligations.SeparationOutcomeSetsTheLevels : Prop :=
  ∀ (s : State), s.safe.snapB ≠ 0 → (s.released pdDEAD = true ∨ s.released pdLIVE = true) →
    Gives (exec .ssmOutcome s) fun t =>
      (∀ a, a < 8 →
        lvlAt (t.rdN SAFE.SSM_LVL_D) a ≤ lvlAt (s.rdN SAFE.SSM_LVL_D) a + 1 ∧
        lvlAt (t.rdN SAFE.SSM_LVL_L) a ≤ lvlAt s.safe.lvlL a + 1 ∧
        (s.mode ≠ 10 → lvlAt (t.rdN SAFE.SSM_LEVEL) a = min (lvlAt (t.rdN SAFE.SSM_LVL_D) a) (lvlAt (t.rdN SAFE.SSM_LVL_L) a)) ∧
        t.fbit SAFE.ARM_SAFE'HUB_STALE a = [false, true].any (fun l => s.chActs l && s.hubStale l a) ∧
        (∀ l : Bool, s.chActs l = false ∨ s.b (SAFE.SSM_ARM_CFG'EN a) = false ∨ s.hubStale l a = true ∨
          s.sensorsUsed.any (fun p => s.sensorStale l p.2) = true →
          lvlAt (t.rdN (if l then SAFE.SSM_LVL_L else SAFE.SSM_LVL_D)) a = 0)) ∧
      t.safe.snapB = 0 ∧ SafeFrame s t

/-- PORT_CMD.OPEN, CLOSE, STOP and RELEARN are refused without a PORTAL section (1), outside M3-M10 or RELEARN outside M3
(2), CLOSE with the edge in stop in either channel (4), any but STOP in FAULT (5), RELEARN while moving (6):
CMD_REFUSED and REFUSE_CODE show it and no command waits. Otherwise exactly that command waits; a STOP that waits
withdraws OPEN and CLOSE, and of OPEN and CLOSE the later stays. No other register and no memory changes. Rules: R382,
R386. -/
def Obligations.PortalCommandsAreCheckedAndWait : Prop :=
  ∀ (s : State) (w : Req) (p : Fin 8), s.takesWrite w (PORT.PORT_CMD p) = true →
    ¬(s.actsAsHost w = true ∧ s.standby = true ∧ s.paired = true) →
    have none_ := !(s.portal p).used || !s.b (PORT.PORT_CFG'EN p)
    have out := decide (s.mode < 3) || decide (10 < s.mode)
    have refused := fun (t : State) (code : Nat) =>
      t.b (PORT.PORT_FLAGS'CMD_REFUSED p) = true ∧ t.f (PORT.PORT_FLAGS'REFUSE_CODE p) = code ∧ t.pt p = s.pt p ∧
        SameRegsBut [PORT.PORT_FLAGS p] s t ∧ SameMem s t
    have taken := fun (t : State) => SameRegsBut [] s t ∧ SameMem s t ∧ ∀ q, q ≠ p.val → t.pt q = s.pt q
    Gives (exec (.portOpen w p) s) (fun t =>
      if none_ then refused t 1 else if out then refused t 2 else if s.ptSt p = ptFAULT then refused t 5
      else taken t ∧ t.pt p = { s.pt p with cmdOpen := !(s.pt p).cmdStop, cmdClose := false }) ∧
    Gives (exec (.portClose w p) s) (fun t =>
      if none_ then refused t 1 else if out then refused t 2 else if s.edgeAny p = true then refused t 4
      else if s.ptSt p = ptFAULT then refused t 5
      else taken t ∧ t.pt p = { s.pt p with cmdOpen := false, cmdClose := !(s.pt p).cmdStop }) ∧
    Gives (exec (.portStop w p) s) (fun t =>
      if none_ then refused t 1 else if out then refused t 2
      else taken t ∧ t.pt p = { s.pt p with cmdStop := true, cmdOpen := false, cmdClose := false }) ∧
    Gives (exec (.portRelearn w p) s) fun t =>
      if none_ then refused t 1 else if s.mode ≠ 3 then refused t 2 else if s.ptSt p = ptFAULT then refused t 5
      else if s.ptMoving p = true then refused t 6
      else taken t ∧ t.pt p = { s.pt p with cmdRelearn := true, cmdOpen := !(s.pt p).cmdStop && (s.pt p).cmdOpen, cmdClose := !(s.pt p).cmdStop && (s.pt p).cmdClose }

/-- UNLOCK_TO in UNLOCK_WAIT sets UNLOCK_TIMEOUT, withdraws the request and leads to LOCKED, CLOSED or STOPPED by lock and
guard. LOCK_T in CLOSED and TRAVEL_MAX in motion lead to FAULT with their cause and EVT[184]. OBS_N exceedances while
moving set OBSTACLE, count it, brake the group with HON = 0 and lead to REVERSING with EVT[184]. BRAKE_T later a
closing portal is OPENING and an opening one drives back. At START_BLANK the threshold is the one without I_START. A
channel closes no lock switch while its vote is released, unless SSM_SAFE holds. Rules: R387, R391, R392, R395, R396,
R399. -/
def Obligations.PortalTimersAndObstacles : Prop :=
  (∀ (s : State) (p : Fin 8), s.ptUsable p = true → s.ptSt p = ptUNLOCK_WAIT →
    Gives (exec (.unlockTimeout p) s) fun t =>
      (s.domOn pdTIME = true → 0 < dtIncr s.time.rate → (s.pt p).reqNs - 1 + 1000000 * (s.portal p).unlockTo ≤ t.ns) ∧
      t.b (PORT.PORT_FLAGS'UNLOCK_TIMEOUT p) = true ∧ t.b (PORT.PORT_STAT'UNLOCK_REQ p) = false ∧
      t.ptSt p = (if t.lockBoth p then ptLOCKED else if t.guardBoth p then ptCLOSED else ptSTOPPED) ∧ SafeFrame s t) ∧
  (∀ (s : State) (p : Fin 8), s.ptUsable p = true →
    (s.ptSt p = ptCLOSED → s.lockBoth p = false → (s.pt p).wdNs ≠ 0 → Gives (exec (.lockTimeout p) s) fun t =>
      (s.domOn pdTIME = true → 0 < dtIncr s.time.rate → (s.pt p).wdNs - 1 + 1000000 * (s.portal p).lockT ≤ t.ns) ∧
      t.ptSt p = ptFAULT ∧ t.f (PORT.PORT_STAT'FAULT_CAUSE p) = 1 ∧ t.b (PORT.PORT_FLAGS'LOCK_FAULT p) = true ∧
      t.evtPending 184 = true ∧ SafeFrame s t) ∧
    (s.ptSt p = ptOPENING ∨ s.ptSt p = ptCLOSING → Gives (exec (.travelTimeout p) s) fun t =>
      (s.domOn pdTIME = true → 0 < dtIncr s.time.rate → (s.pt p).startNs + 1000000 * (s.portal p).travelMax ≤ t.ns) ∧
      t.ptSt p = ptFAULT ∧ t.f (PORT.PORT_STAT'FAULT_CAUSE p) = 2 ∧ t.evtPending 184 = true ∧ SafeFrame s t) ∧
    (s.ptSt p = ptOPENING ∨ s.ptSt p = ptCLOSING → max 1 (s.portal p).obsN ≤ (s.pt p).exceed →
      Gives (exec (.obstacleDetect p) s) fun t =>
        t.b (PORT.PORT_FLAGS'OBSTACLE p) = true ∧ t.ptSt p = ptREVERSING ∧ t.evtPending 184 = true ∧
        t.f (PORT.PORT_CNT'OBSTACLES p) = min 255 (s.f (PORT.PORT_CNT'OBSTACLES p) + 1) ∧
        ((s.portal p).kind ≠ 2 → (s.portal p).lpg < 8 → ∀ k, k < 3 → t.rdN (PWM.DUTY_SH (64 + (s.portal p).lpg) k) = 0) ∧
        SameMem s t)) ∧
  (∀ (s : State) (p : Fin 8), s.ptUsable p = true → s.ptSt p = ptREVERSING → (s.pt p).revOn = false →
    Gives (exec (.reverseDriveStart p) s) fun t =>
      (s.domOn pdTIME = true → 0 < dtIncr s.time.rate → (s.pt p).detNs + 1000000 * (s.portal p).brakeT ≤ t.ns) ∧
      if (s.pt p).revOpen = false then t.ptSt p = ptOPENING ∧ SameMem s t else t.ptSt p = ptREVERSING ∧ (t.pt p).revOn = true ∧ SameMem s t) ∧
  (∀ (s : State) (p : Fin 8), s.ptUsable p = true → s.ptMoving p = true →
    Gives (exec (.startBlankEnd p) s) fun t =>
      (s.domOn pdTIME = true → 0 < dtIncr s.time.rate → (s.pt p).startNs + 1000000 * (s.portal p).startBlank ≤ t.ns) ∧
      t.f (PORT.PORT_CUR'THRESHOLD p) = t.ptThreshold p ∧ SameRegsBut [PORT.PORT_CUR p, TIME.SLEW_LEFT] s t ∧ SameMem s t) ∧
  (∀ (s : State) (l : Bool) (p : Nat), p < 8 → s.released pdDEAD = true →
    bit (if l then s.safeEval.safe.lkdL else s.safeEval.safe.lkdD) p = true →
    s.safeEval.fbit (if l then SAFE.ZONE_STAT'VOTE_B_L else SAFE.ZONE_STAT'VOTE_A) (s.portal p).zone = true ∨
      s.safeEval.ssmSafe (s.portal p).zone = true)

namespace Sys2Proof.Machine

/-- The bytes between SOF and EOF form a frame of the layout of R405 for channel `ch` and slot `k`. -/
def FrameFits (fr : List (BitVec 8)) (ch k : Nat) (kinds : List Nat) : Prop :=
  leAt fr 0 1 % 16 ∈ kinds ∧ leAt fr 0 1 / 32 = ch ∧ leAt fr 2 1 = k ∧ fr.length = 12 + leAt fr 3 1 ∧
    leAt fr (8 + leAt fr 3 1) 4 = crc32c (fr.take (8 + leAt fr 3 1))

/-- What the bus engine leaves as it was: every register outside the blocks SRT and EVT, but for the slew register of device
time, and every byte of memory. -/
def SrtFrame (s t : State) : Prop :=
  (∀ a, a / 0x10000 ∉ [0xE0, 0x140] → a ≠ TIME.SLEW_LEFT → t.rd a = s.rd a) ∧ SameMem s t

end Sys2Proof.Machine

/-- In its sync slot a coldstart node in COLDSTART, ACTIVE or TAKEOVER sends SYNC on every used channel; in an own counted
slot an ACTIVE module sends DATA or NULL, each with its KIND, channel, slot, length and CRC. A request outside the
window sends nothing, counts in BLOCK_CNT, sets GUARD_BLOCK and raises EVT[192]. COMMIT of an own software frame
copies TX_DATA into the send buffer, or lets it wait with PENDING = 1 near a slot of the frame. Other blocks and
memory stay. Rules: R403, R405, R410, R411, R414, R418. -/
def Obligations.SertikTransmitsInItsSlots : Prop :=
  (∀ (s : State) (k : Fin 80), s.srtOn = true → s.srt.lastSlot ≤ k.val →
    Gives (exec (.sertikSlotStart k true) s) (fun t =>
      t.b SRT.SRT_ERR'GUARD_BLOCK = true ∧ t.f SRT.GUARD_STAT'BLOCK_CNT = min 65535 (s.f SRT.GUARD_STAT'BLOCK_CNT + 1) ∧
      t.evtPending 192 = true ∧ t.srt.sent = s.srt.sent ∧ SrtFrame s t) ∧
    (s.b SRT.GUARD_STAT'TABLE_OK = true → ∀ ch, ch < 2 → s.chUsed ch = true →
      (k.val = s.srtIdx → k.val < 3 → s.srtState ∈ [srtCOLDSTART, srtACTIVE, srtTAKEOVER] →
        Gives (exec (.sertikSlotStart k false) s) fun t =>
          FrameFits (t.srt.sent.get ch) ch k [2] ∧ t.srt.sentSync = true ∧ SrtFrame s t) ∧
      (¬(k.val = s.srtIdx ∧ k.val < 3) → s.srtState ∈ [srtACTIVE, srtTAKEOVER] →
        (∀ e, s.slotOf ch k = some e → s.ownSlot e = true → e.kind ≠ 3 → e.len ≤ 64 →
          Gives (exec (.sertikSlotStart k false) s) fun t => FrameFits (t.srt.sent.get ch) ch k [1, 5] ∧ SrtFrame s t)))) ∧
  (∀ (s : State) (w : Req) (f : Fin 256), s.takesWrite w (SRT.TX_CTRL f) = true → s.txFrame f = true → s.f (SRT.TX_CTRL'SRC f) ≠ 1 →
    have b := (upto 16).flatMap (fun i => toLE 4 (s.rdN (SRT.TX_DATA f i)))
    have near := ((s.ownSlots 0 f) ++ (s.ownSlots 1 f)).any (fun k => decide (3125 * k ≤ s.ns % 250000 + 1000 ∧ s.ns % 250000 < 3125 * k + 3125))
    Gives (exec (.txCommit w f) s) fun t =>
      (if near = true ∧ s.srtOn = true then t.b (SRT.TX_STAT'PENDING f) = true ∧ (t.srt.tx.get f).wait = some b ∧
          (t.srt.tx.get f).buf = (s.srt.tx.get f).buf
        else t.b (SRT.TX_STAT'PENDING f) = false ∧ (t.srt.tx.get f).buf = b ∧ (t.srt.tx.get f).fresh = true ∧
          (t.srt.tx.get f).wait = none) ∧
      SameRegsBut [SRT.TX_STAT f] s t ∧ SameMem s t)

/-- On an ACTIVE member a frame with a code violation only counts; a matching DATA frame is stored with its header,
source, time and words, AGE 0, and a second one of its FRAME_ID in the cycle counts as a duplicate. SRT_CTRL.EN starts
LISTEN or OFF, and reads 0 without a section. Silence leads from LISTEN to COLDSTART, BACKOFF ends in INTEGRATE or
COLDSTART, silent leaders lead to LISTEN with SYNC_LOST; the shifted cycle makes the module ACTIVE and leader. Three
missed counted slots declare a channel lost, with EVT[193]; an idle grant is freed. Rules: R408, R409, R415, R416,
R418, R424, R426, R431. -/
def Obligations.SertikReceivesStartsAndRecovers : Prop :=
  (∀ (s : State) (ch : Fin 2) (sof : Nat) (fr : List (BitVec 8)), s.srtOn = true → s.chUsed ch = true → s.srtState = srtACTIVE →
    Gives (exec (.sertikFrameReceive ch sof true fr) s) (fun t =>
      t.f (SRT.ERR_CNT'CODE ch) = min 255 (s.f (SRT.ERR_CNT'CODE ch) + 1) ∧
      SameRegsBut [SRT.ERR_CNT ch, TIME.SLEW_LEFT] s t ∧ SameMem s t) ∧
    (have k := sof % 250000 / 3125
      have f := leAt fr 6 1
      have n := leAt fr 3 1
      FrameFits fr ch k [1] → n ≤ 64 → leAt fr 0 1 / 16 % 2 = 0 → leAt fr 1 1 < 64 → leAt fr 7 1 = 0 → leAt fr 4 2 = s.cycleNo →
      3 < k → k < 68 → 100 ≤ sof % 3125 → sof % 3125 ≤ 500 →
      (∀ e, s.slotOf ch k = some e → s.mayOwn e (leAt fr 1 1 % 32) = true → e.frame = f → e.len = n → e.kind ≠ 4 →
        s.txFrame f = false → s.b (SRT.RX_CFG'EN f) = true → s.f (SRT.RX_CFG'DEST f) ≠ 1 →
        Gives (exec (.sertikFrameReceive ch sof false fr) s) fun t =>
          (if s.srt.stored.contains f = true then
            t.f (SRT.RX_CNT'DUP_CNT f) = min 65535 (s.f (SRT.RX_CNT'DUP_CNT f) + 1) ∧ SameRegsBut [SRT.RX_CNT f, TIME.SLEW_LEFT] s t
          else t.b (SRT.RX_HDR'HELD f) = true ∧ t.f (SRT.RX_HDR'AGE f) = 0 ∧ t.f (SRT.RX_HDR'CYCLE f) = s.cycleNo ∧
            t.f (SRT.RX_HDR'CH f) = ch.val ∧ t.rdN (SRT.RX_DT f) = sof % 2 ^ 32 ∧
            (∀ i, i < 16 → t.rdN (SRT.RX_DATA f i) = leAt ((fr.drop 8).take n) (4 * i) 4) ∧
            SameRegsBut ([SRT.RX_HDR f, SRT.RX_SRC f, SRT.RX_DT f, TIME.SLEW_LEFT] ++ (upto 16).map (SRT.RX_DATA f)) s t) ∧
          SameMem s t))) ∧
  (∀ (s : State) (ch : Fin 2), s.srtOn = true → s.lost ch = false → (s.srt.lastSlot = 0 ∨ s.srt.lastSlot ≤ s.srt.ended) →
    3 ≤ s.srt.miss.get ch → s.srt.alive.get ch = true →
    Gives (exec (.channelLoss ch) s) fun t =>
      t.lost ch = true ∧ (if ch.val = 0 then t.srt.foA else t.srt.foB) = true ∧ t.b SRT.SRT_ERR'CH_LOST = true ∧
      t.evtPending 193 = true ∧ SrtFrame s t) ∧
  (∀ (s : State) (w : Req) (v : Word), s.takesWrite w SRT.SRT_CTRL = true →
    Gives (exec (.srtEnWrite w v) s) fun t =>
      (s.cfg.srt.used = false → t.b SRT.SRT_CTRL'EN = false) ∧
      (s.cfg.srt.used = true → t.b SRT.SRT_CTRL'EN = bit v.toNat 31 ∧
        (s.b SRT.SRT_CTRL'EN = false → bit v.toNat 31 = true → t.srtState = srtLISTEN) ∧
        (s.b SRT.SRT_CTRL'EN = true → bit v.toNat 31 = false →
          t.srtState = srtOFF ∧ t.b SRT.SRT_STAT'LEADER = false ∧ t.f SRT.SRT_STAT'LEADER_IDX = 3)) ∧
      SameRegsBut [SRT.SRT_CTRL, SRT.SRT_STAT] s t ∧ SameMem s t) ∧
  (∀ (s : State), s.srtOn = true →
    (s.srtState = srtLISTEN → s.srtIdx < 3 → Gives (exec .listenTimeout s) fun t =>
      (s.domOn pdTIME = true → 0 < dtIncr s.time.rate → s.srt.stNs + 500000 ≤ t.ns) ∧
      t.srtState = srtCOLDSTART ∧ SameRegsBut [SRT.SRT_STAT, TIME.SLEW_LEFT] s t ∧ SameMem s t) ∧
    (s.srtState = srtBACKOFF → Gives (exec .backoffEnd s) fun t =>
      (s.domOn pdTIME = true → 0 < dtIncr s.time.rate → s.backoffListen + 250000 ≤ t.ns) ∧
      t.srtState = (if s.srt.heardSync then srtINTEGRATE else srtCOLDSTART) ∧
      SameRegsBut [SRT.SRT_STAT, TIME.SLEW_LEFT] s t ∧ SameMem s t) ∧
    (s.srtState = srtACTIVE → s.b SRT.SRT_STAT'LEADER = false → 4 ≤ s.srt.silent → Gives (exec .syncLoss s) fun t =>
      t.srtState = srtLISTEN ∧ t.f SRT.SRT_STAT'LEADER_IDX = 3 ∧ t.b SRT.SRT_ERR'SYNC_LOST = true ∧
      SameRegsBut [SRT.SRT_STAT, SRT.SRT_ERR] s t ∧ SameMem s t) ∧
    (s.srtState = srtTAKEOVER → (s.cycleNo + 65536 - s.srt.toCycle) % 65536 < 32768 → Gives (exec .takeoverCycleStart s) fun t =>
      t.srtState = srtACTIVE ∧ t.b SRT.SRT_STAT'LEADER = true ∧ t.f SRT.SRT_STAT'LEADER_IDX = s.srtIdx ∧
      t.cycleNo = s.ns / 250000 % 65536 ∧ SameRegsBut [SRT.SRT_STAT, SRT.COLD_CNT] s t ∧ SameMem s t) ∧
    (∀ (i : Fin 24), s.b SRT.SRT_STAT'LEADER = true → bit (s.grant i) 5 = true → 64 ≤ s.srt.idle.get i →
      Gives (exec (.grantTimeout i) s) fun t =>
        t.grant i = 0 ∧ (∀ j, j < 24 → j ≠ i.val → t.grant j = s.grant j) ∧ SameRegsBut [SRT.GRANT (i.val / 4)] s t ∧ SameMem s t))

/-- STEP_CMD steps DT to SET_SEC:SET_NS only while no boundaries run, HOLD_EXIT ends holdover, RATE_ADJ is clamped to
RATE_MAX and refused to others, in holdover and under Fyver time; a slew of up to 1 ms starts and ends; RUN arms the
start at the next millisecond and stops at once with M9; reads of DT_NS and TXTS_HDR latch and pop; a Sync timeout
holds over; PPS. An Ethernet frame is counted bad, ignored or stored behind its header in the next DEVICE buffer; a
send command answers the first failing check of R502 or queues its buffer; a sent frame returns it. Rules: R421, R432,
R435, R436, R437, R438, R439, R440, R443, R444, R445, R500, R501, R502, R503. -/
def Obligations.DeviceTimeAndEthernetPorts : Prop :=
  (∀ (s : State) (w : Req), s.takesWrite w TIME.STEP_CMD = true →
    Gives (exec (.stepGo w) s) (fun t =>
      (if s.hostOrSupv w = false then t.b TIME.TIME_STAT'ADJ_REFUSED = true ∧ t.time = s.time ∧ SameRegsBut [TIME.TIME_STAT] s t
      else if s.cycRun = true ∨ 1000000000 ≤ s.rdN TIME.SET_NS then
        t.b TIME.TIME_STAT'STEP_REFUSED = true ∧ t.time = s.time ∧ SameRegsBut [TIME.TIME_STAT] s t
      else
        t.time.dt = ((s.rdN TIME.SET_SEC_LO + 2 ^ 32 * s.f TIME.SET_SEC_HI'SET_SEC_HI) * 1000000000 + s.rdN TIME.SET_NS) * 2 ^ 32 ∧
        (s.time.startArmed = true → t.time.startNs = (t.ns / 1000000 + 1) * 1000000) ∧ SameRegsBut [] s t) ∧ SameMem s t) ∧
    Gives (exec (.holdExit w) s) fun t =>
      (if s.hostOrSupv w = false then t.b TIME.TIME_STAT'ADJ_REFUSED = true ∧ SameRegsBut [TIME.TIME_STAT] s t
      else t.b TIME.TIME_STAT'HOLDOVER = false ∧ t.b TIME.TIME_STAT'SLEWING = false ∧ t.rdN TIME.SLEW_LEFT = 0 ∧
        t.time.slewLeft = 0 ∧ t.time.slewing = 0 ∧ t.time.gmLatch = true ∧ SameRegsBut [TIME.TIME_STAT, TIME.SLEW_LEFT] s t) ∧
      SameMem s t) ∧
  (∀ (s : State) (w : Req) (v : Word), s.takesWrite w TIME.RATE_ADJ = true →
    have mx := (s.f TIME.RATE_MAX'RATE_MAX : Int) * ppm
    have c := clampI (Neg.neg mx) mx v.toInt
    Gives (exec (.rateAdjWrite w v) s) fun t =>
      (if s.hostOrSupv w = false ∨ s.fyvTime = true ∨ s.b TIME.TIME_STAT'HOLDOVER = true then
        t.b TIME.TIME_STAT'ADJ_REFUSED = true ∧ t.time = s.time ∧ SameRegsBut [TIME.TIME_STAT] s t
      else t.rdI TIME.RATE_ADJ = c ∧ (c ≠ v.toInt → t.b TIME.TIME_STAT'ADJ_REFUSED = true) ∧
        (c = v.toInt → t.rd TIME.TIME_STAT = s.rd TIME.TIME_STAT) ∧
        (s.srtLeads = false → t.time.rate = clampI (Neg.neg mx) mx (c + s.time.slewing)) ∧
        (s.srtLeads = true → t.time.rate = s.time.rate) ∧ SameRegsBut [TIME.RATE_ADJ, TIME.TIME_STAT] s t) ∧ SameMem s t) ∧
  (∀ (s : State) (w : Req) (v : Word), s.takesWrite w TIME.RATE_MAX = true →
    have n := v.toNat % 1024
    Gives (exec (.rateMaxWrite w v) s) fun t =>
      (if n < 1 ∨ 500 < n then SameRegsBut [] s t
      else t.f TIME.RATE_MAX'RATE_MAX = n ∧
        t.rdI TIME.RATE_ADJ = clampI (Neg.neg ((n : Int) * ppm)) ((n : Int) * ppm) (s.rdI TIME.RATE_ADJ) ∧
        SameRegsBut [TIME.RATE_MAX, TIME.RATE_ADJ] s t) ∧ SameMem s t) ∧
  (∀ (s : State) (w : Req) (v : Word), s.takesWrite w TIME.SLEW_NS = true →
    Gives (exec (.slewWrite w v) s) fun t =>
      (if s.hostOrSupv w = false ∨ s.fyvTime = true ∨ s.b TIME.TIME_STAT'HOLDOVER = true ∨ v.toInt < -1000000 ∨ 1000000 < v.toInt then
        t.b TIME.TIME_STAT'ADJ_REFUSED = true ∧ t.time = s.time ∧ SameRegsBut [TIME.TIME_STAT] s t
      else t.time.slewLeft = v.toInt * 2 ^ 32 ∧ t.rdI TIME.SLEW_LEFT = v.toInt ∧
        t.b TIME.TIME_STAT'SLEWING = decide (v.toInt ≠ 0) ∧ SameRegsBut [TIME.TIME_STAT, TIME.SLEW_LEFT] s t) ∧ SameMem s t) ∧
  (∀ s : State, s.domOn pdTIME = true → s.b TIME.TIME_STAT'SLEWING = true →
    (s.time.slewLeft = 0 ∨ (s.srtLeads = false ∧ s.slewRate ≠ 0)) →
    Gives (exec .slewEnd s) fun t =>
      t.b TIME.TIME_STAT'SLEWING = false ∧ t.time.slewing = 0 ∧ SameRegsBut [TIME.TIME_STAT, TIME.SLEW_LEFT] s t ∧ SameMem s t) ∧
  (∀ (s : State) (w : Req), s.takesWrite w TIME.TIME_CTRL = true →
    Gives (exec (.timeRunSet w) s) (fun t =>
      t.b TIME.TIME_CTRL'RUN = true ∧
      (s.b TIME.TIME_CTRL'RUN = false → t.time.startArmed = true ∧ t.time.startNs = (s.ns / 1000000 + 1) * 1000000) ∧
      (s.b TIME.TIME_CTRL'RUN = true → t.time = s.time) ∧ SameRegsBut [TIME.TIME_CTRL] s t ∧ SameMem s t) ∧
    (s.b TIME.TIME_CTRL'RUN = false → Gives (exec (.timeRunClear w) s) fun t => SameRegsBut [] s t ∧ SameMem s t) ∧
    (s.b TIME.TIME_CTRL'RUN = true → Gives (exec (.timeRunClear w) s) fun t =>
      t.b TIME.TIME_CTRL'RUN = false ∧ t.cycRun = false ∧ t.time.startArmed = false ∧ t.time.dt = s.time.dt ∧
      (voteMode s.mode = true → t.mode = 9 ∧ t.f SYS.MODE_STAT'CAUSE = 7 ∧ t.f SYS.MODE_STAT'PREV = s.mode) ∧
      (voteMode s.mode = false → SameRegsBut [TIME.TIME_CTRL, SYS.CYCLE_CFG] s t ∧ SameMem s t))) ∧
  (∀ s : State, s.domOn pdTIME = true → s.time.startArmed = true →
    Gives (exec .boundaryGeneratorStart s) fun t =>
      t.cycRun = true ∧ t.f SYS.CYCLE_STAT'L3_SEQ = 0 ∧ t.time.startArmed = false ∧
      [t.time.l0next, t.time.l1next, t.time.l2next, t.time.l3next] = List.replicate 4 s.time.startNs ∧
      (∀ a, a < 64 → (t.ax a).tau = 0) ∧ SameRegsBut [SYS.CYCLE_CFG, SYS.CYCLE_STAT, TIME.SLEW_LEFT] s t ∧ SameMem s t) ∧
  (∀ (s : State) (w : Req), s.takesRead w TIME.DT_NS = true →
    Gives (exec (.dtNsRead w) s) fun t =>
      t.resp = .data (s.ns % 1000000000) ∧ t.latched w TIME.DT_SEC_LO = s.ns / 1000000000 % 2 ^ 32 ∧
      t.latched w TIME.DT_SEC_HI = s.ns / 1000000000 / 2 ^ 32 % 65536 ∧ SameRegsBut [] s t ∧ SameMem s t) ∧
  (∀ (s : State) (w : Req) (p : Fin 2), s.takesRead w (TIME.TXTS_HDR p) = true →
    Gives (exec (.txtsPop w p) s) fun t =>
      (s.time.txts.get p = [] → t.resp = .data 0 ∧ t.time = s.time) ∧
      (∀ tag ns sec q, s.time.txts.get p = (tag, ns, sec) :: q →
        t.time.txts.get p = q ∧ t.resp = .data (2 ^ 31 + q.length * 65536 + tag % 65536) ∧
        t.latched w (TIME.TXTS_NS p) = ns ∧ t.latched w (TIME.TXTS_SEC_LO p) = sec % 2 ^ 32) ∧ SameRegsBut [] s t ∧ SameMem s t) ∧
  (∀ s : State, s.domOn pdTIME = true → (s.f TIME.TIME_CTRL'SRC = 1 ∨ s.f TIME.TIME_CTRL'SRC = 2) →
    s.b TIME.TIME_STAT'HOLDOVER = false →
    Gives (exec .ptpSyncTimeout s) fun t =>
      (0 < dtIncr s.time.rate → s.time.syncNs + 1000000 * s.f TIME.SYNC_TO'SYNC_TO ≤ t.ns) ∧
      t.b TIME.TIME_STAT'HOLDOVER = true ∧ t.f TIME.TIME_STAT'HOLD_CAUSE = 0 ∧ t.b TIME.TIME_STAT'SLEWING = false ∧
      t.evtPending 200 = true ∧ SameRegsBut [TIME.TIME_STAT, TIME.SLEW_LEFT, EVT.EVT_PEND 6] s t ∧ SameMem s t) ∧
  (∀ s : State, s.domOn pdTIME = true → s.b TIME.TIME_CTRL'PPS_EN = true →
    Gives (exec .ppsPulse s) fun t =>
      t.time.ppsNs = t.ns + 1 ∧ (s.ns % 1000000000 ≠ 0 → 0 < dtIncr s.time.rate → (s.ns / 1000000000 + 1) * 1000000000 ≤ t.ns) ∧
      SameRegsBut [TIME.SLEW_LEFT] s t ∧ SameMem s t) ∧
  (∀ (s : State) (p : Fin 2) (fcs : Bool) (ts : Nat) (fr : List (BitVec 8)), s.netLive p = true →
    ((fcs = false ∨ 4064 < fr.length) → Gives (exec (.ethernetReceive p fcs ts fr) s) fun t =>
      t.f (NET.NET_CNT'RX_BAD p) = min 65535 (s.f (NET.NET_CNT'RX_BAD p) + 1) ∧
      SameRegsBut [NET.NET_CNT p, TIME.SLEW_LEFT] s t ∧ SameMem s t) ∧
    (fcs = true → fr.length ≤ 4064 → s.netAccepts p fr = false → Gives (exec (.ethernetReceive p fcs ts fr) s) fun t =>
      SameRegsBut [TIME.SLEW_LEFT] s t ∧ SameMem s t) ∧
    (fcs = true → fr.length ≤ 4064 → s.netAccepts p fr = true →
      have b := s.f (NET.NET_RX_RING'RX_BASE p) + (s.netPort p).rxIdx
      b < 2048 → Gives (exec (.ethernetReceive p fcs ts fr) s) fun t =>
        (if s.domOn pdMEM = true ∧ s.owner b = ownDEVICE then
          t.bytes (smwAt b) (32 + fr.length) = s.rxHeader p fr (stampNs ts (Neg.neg (s.f (TIME.PTP_LAT'RX_LAT p) : Int))) ++ fr ∧
          t.owner b = s.f (NET.NET_CFG'RX_TO p) ∧ t.evtPending (204 + p.val) = true ∧ SameMemBut (smwAt b) (32 + fr.length) s t
        else t.f (NET.NET_CNT'RX_DROP p) = min 65535 (s.f (NET.NET_CNT'RX_DROP p) + 1) ∧
          t.b (NET.NET_STAT'RX_NOBUF p) = true ∧ SameMem s t) ∧
        (∀ a, a / 0x10000 ∉ [0xF0, 0x140] → a ∉ [NET.NET_CNT p, NET.NET_STAT p, CHUCK.SMW_FLAG b] → t.rd a = s.rd a))) ∧
  (∀ (s : State) (w : Req) (p : Fin 2) (v : Word), s.takesWrite w (NET.NET_TX_CMD p) = true → bit v.toNat 31 = true →
    have b := bitsOf v 10 0
    have code := if s.owns w b = false then 3 else if s.txFormat b = false then 2 else if s.netLive p = false then 4
      else if 64 ≤ (s.netPort p).queue.length then 1 else 0
    Gives (exec (.netTxGo w p v) s) fun t =>
      t.perReq.get (reqCode w * 2 ^ 32 + NET.NET_TX_STAT p) = code * 2 ^ 28 + (t.netPort p).queue.length * 2 ^ 16 ∧
      (if code = 0 then (t.netPort p).queue = (s.netPort p).queue ++ [b] ∧ t.owner b = ownDEVICE ∧ SameRegsBut [CHUCK.SMW_FLAG b] s t
        else (t.netPort p).queue = (s.netPort p).queue ∧ SameRegsBut [] s t) ∧ SameMem s t) ∧
  (∀ (s : State) (p : Fin 2) (ts b : Nat) (q : List Nat), s.netLive p = true → (s.netPort p).queue = b :: q → b < 2048 →
    Gives (exec (.ethernetFrameSent p ts) s) fun t =>
      (t.netPort p).queue = q ∧ (t.netPort p).lastTx = padTo 60 (s.bytes (smwAt b + 0x20) (s.ldn (smwAt b) 2)) ∧
      (s.owner b = ownDEVICE → t.owner b = s.f (CHUCK.SMW_FLAG'PREV b)) ∧ (q = [] → t.b (NET.NET_STAT'TX_DRAIN p) = true) ∧
      SameRegsBut [CHUCK.SMW_FLAG b, NET.NET_STAT p, TIME.TS_OVF p, TIME.SLEW_LEFT, EVT.EVT_PEND 6] s t ∧ SameMem s t) ∧
  (∀ (s : State) (p : Fin 2) (up present los : Bool), s.domOn pdHOST = true →
    Gives (exec (.ethernetLinkChange p up present los) s) fun t =>
      t.b (NET.NET_STAT'SFP_PRESENT p) = present ∧ t.b (NET.NET_STAT'SFP_LOS p) = los ∧
      (up = false ∨ s.netClock = false → t.b (NET.NET_STAT'LINK p) = false) ∧
      (up = true → s.netClock = true → s.imgValid = false → s.pwr.waiting = [] → t.b (NET.NET_STAT'LINK p) = true) ∧
      (t.b (NET.NET_STAT'LINK p) ≠ s.b (NET.NET_STAT'LINK p) → t.b (NET.NET_STAT'LINK_CHG p) = true) ∧
      (∀ a, a / 0x10000 ∉ [0x03, 0x140] → a ≠ NET.NET_STAT p → t.rd a = s.rd a) ∧ SameMem s t)

namespace Sys2Proof.Machine

/-- The pair state after the first STEADY_L3 frame of a boundary whose difference is within (or not within) ALIGN_TOL (R461): the
boundaries of a count are consecutive, and the standby also wants its DT within 20 ns of the partner's. -/
def AlignsByRule (s t : State) (within : Bool) (hash : Nat) : Prop :=
  have next := decide (s.fyv.alignB + 1000000 = s.fyv.ownB)
  (s.pairSt = pairJOIN → t.pairSt =
    (if within = true ∧ next = true ∧ 9 ≤ s.fyv.alignCnt ∧ hash = s.structHash ∧ (s.standby = true → (s.rdI FYV.TIME_OFS).natAbs ≤ 20)
      then pairALIGNED else pairJOIN)) ∧
  (s.pairSt = pairALIGNED → t.pairSt = (if within = false ∧ next = true ∧ 2 ≤ s.fyv.driftCnt then pairJOIN else pairALIGNED)) ∧
  (s.pairSt = pairALIGNED → within = false → next = true → 2 ≤ s.fyv.driftCnt → t.b FYV.PAIR_ERR'DRIFT = true) ∧
  (s.pairSt = pairJOIN → t.pairSt = pairALIGNED → t.evtPending 208 = true)

end Sys2Proof.Machine

/-- A role level held 20 us waits for the L1 boundary, or acts at once while no boundaries run. Votes, hash, backlog and
claims of the partner are taken; ten aligned boundaries lead to ALIGNED, three apart to JOIN with DRIFT, 1 ms without
the link to SOLO. The standby's integrators follow the active module's. 86 400 s raise SWAP_DUE. A frame with a bad
CRC only counts; a request gets its response; a frame for another position is forwarded. Links come up with their
delay and fall; lost time holds over; IMG_SEND returns its buffers; the master averages; a standby edge frame leaves
late. Rules: R448, R450, R454, R456, R457, R459, R461, R462, R464, R465, R467, R469, R470. -/
def Obligations.PairAndCascadeFollowTheirPartners : Prop :=
  (∀ (s : State) (active : Bool) (held : Nat),
    (held < 20000 → exec (.roleChange ⟨active, held⟩) s = .next s) ∧
    (20000 ≤ held → s.cycRun = true → Gives (exec (.roleChange ⟨active, held⟩) s) fun t =>
      t.fyv.rolePend = some active ∧ SameRegsBut [] s t ∧ SameMem s t) ∧
    (20000 ≤ held → s.cycRun = false → (s.steadyUp = false ∨ s.fyv.pActive = false ∨ s.member ≠ 1) →
      Gives (exec (.roleChange ⟨active, held⟩) s) fun t =>
      t.standby = !active ∧ t.fyv.rolePend = none ∧
      (s.standby = active → t.f FYV.PAIR_STAT'SWAP_DUE = 0 ∧ t.rdN FYV.SWAP_AGE = 0) ∧
      (s.standby = false → active = false → runMode s.mode = true → t.mode = 4 ∧ t.f SYS.MODE_STAT'CAUSE = 6))) ∧
  (∀ s : State, s.fyv.rVotes ≠ none → 4 ≤ (s.cycleNo + 65536 - s.fyv.rConsec) % 65536 →
    Gives (exec .refereeTimeout s) fun t =>
      t.fyv.rVotes = none ∧ t.b FYV.PAIR_STAT'FB_SUSP = s.paired ∧ SameRegsBut [FYV.PAIR_STAT] s t ∧ SameMem s t) ∧
  (∀ (s : State) (ns : Nat), s.domOn pdLINK = true → s.steadyUp = true →
    (∀ m, Gives (exec (.steadyFrameReceive ns true m) s) fun t =>
      t.f (FYV.LINK_STAT'CRC_CNT 4) = min 255 (s.f (FYV.LINK_STAT'CRC_CNT 4) + 1) ∧ t.fyv = s.fyv ∧
      SameRegsBut [FYV.LINK_STAT 4, TIME.SLEW_LEFT] s t ∧ SameMem s t) ∧
    (∀ mode active al a b drv, Gives (exec (.steadyFrameReceive ns false (.vote mode active al a b drv)) s) fun t =>
      t.f FYV.PAIR_STAT'PARTNER_MODE = mode % 16 ∧ t.fyv.pActive = active ∧ t.fyv.pVotes = some (a, b) ∧
      t.b FYV.PAIR_STAT'FB_SUSP = (s.paired && s.fyv.rVotes.isNone) ∧
      (s.pairSt = pairSOLO → s.fyv.pBeat = true → t.pairSt = pairJOIN) ∧
      SameRegsBut [FYV.PAIR_STAT, TIME.SLEW_LEFT] s t ∧ SameMem s t) ∧
    (∀ hash axes ports entries, Gives (exec (.steadyFrameReceive ns false (.l3 hash axes ports entries)) s) fun t =>
      have u := { s with fyv := { s.fyv with pAct := (upto 64).foldl (fun m a => m.set a (axes.getD a default)) ⟨[]⟩ } }
      t.fyv.pHash = some hash ∧ t.fyv.actB = s.fyv.ownB ∧ t.fyv.backlog = (if s.standby then entries else s.fyv.backlog) ∧
      t.f FYV.PAIR_DIFF'AXIS = u.pairDiff.1 % 64 ∧ t.f FYV.PAIR_DIFF'DIFF = min (2 ^ 26 - 1) (u.pairDiff.2 / 256) ∧
      (s.fyv.alignB ≠ s.fyv.ownB → AlignsByRule s t (decide (u.pairDiff.2 ≤ 256 * s.f FYV.PAIR_CFG'ALIGN_TOL)) hash) ∧
      (∀ a, a / 0x10000 ∉ [0x140] → a ∉ [FYV.PAIR_STAT, FYV.PAIR_DIFF, FYV.PAIR_ERR, TIME.SLEW_LEFT] →
        (s.standby = true → a / 0x10000 ≠ 0xD0) → t.rd a = s.rd a) ∧ SameMem s t) ∧
    (∀ cl, Gives (exec (.steadyFrameReceive ns false (.ledger cl)) s) fun t =>
      t.trj.mirrorOk = true ∧ t.trj.mirror.map (fun c => (c.zone, c.queue, c.first, c.count)) = cl.map (fun c => (c.zone, c.queue, c.first, c.count)) ∧
      SameRegsBut [FYV.PAIR_STAT, TIME.SLEW_LEFT] s t ∧ SameMem s t)) ∧
  (∀ s : State, s.domOn pdCTL = true → s.standby = true → s.fyv.actB ≠ 0 → s.fyv.actB = s.fyv.ownB → s.ns < s.fyv.actB + 150000 →
    Gives (exec .integratorTracking s) fun t =>
      (s.domOn pdTIME = true → 0 < dtIncr s.time.rate → s.fyv.actB + 100000 ≤ t.ns) ∧
      t.fyv.actB = 0 ∧
      (∀ a, a < 64 → s.axUsed a = true →
        have x := s.ax a
        have o := s.fyv.own.get a
        have p := s.fyv.pAct.get a
        if o.st = axRUN ∧ p.st = axRUN ∧ o.region = p.region ∧ s.f (CTL.AX_STAT'STATE a) = axRUN then
          (t.ax a).iD = lim (2 * s.axVmax a x.vdc) (acc (p.iD + (x.iD - o.iD))) ∧
          (t.ax a).iQ = lim (2 * s.axVmax a x.vdc) (acc (p.iQ + (x.iQ - o.iQ))) ∧
          (t.ax a).iV = lim (max 0 (s.rdI (CTL.INT_LIM_V a))) (acc (p.iV + (x.iV - o.iV)))
        else t.ax a = x) ∧
      SameRegsBut [FYV.PAIR_STAT, TIME.SLEW_LEFT] s t ∧ SameMem s t) ∧
  (∀ s : State, s.domOn pdLINK = true →
    (s.steadyUp = false → s.pairSt ≠ pairSOLO → Gives (exec .pairLinkTimeout s) fun t =>
      t.pairSt = pairSOLO ∧ t.fyv.pBeat = false ∧ t.evtPending 208 = true ∧
      (s.domOn pdTIME = true → 0 < dtIncr s.time.rate → s.fyv.downNs + 1000000 ≤ t.ns) ∧
      SameRegsBut [FYV.PAIR_STAT, TIME.SLEW_LEFT, EVT.EVT_PEND 6] s t ∧ SameMem s t) ∧
    (s.paired = true → s.b FYV.PAIR_STAT'SWAP_DUE = false → Gives (exec .swapDue s) fun t =>
      t.b FYV.PAIR_STAT'SWAP_DUE = true ∧ t.evtPending 208 = true ∧
      SameRegsBut [FYV.PAIR_STAT, FYV.SWAP_AGE, TIME.SLEW_LEFT, EVT.EVT_PEND 6] s t ∧ SameMem s t)) ∧
  (∀ (s : State) (l : Fin 4) (ns : Nat) (fr : List (BitVec 8)), s.domOn pdLINK = true → s.b (FYV.LINK_STAT'UP l) = true →
    have ok := fr.length = 20 + leAt fr 4 2 ∧ leAt fr 4 2 ≤ 8192 ∧ leAt fr 4 2 % 4 = 0 ∧
      leAt fr (16 + leAt fr 4 2) 4 = crc32c (fr.take (16 + leAt fr 4 2))
    have here := leAt fr 2 1 % 4 = s.f FYV.CASC_CFG'POS ∧ (bit (leAt fr 2 1) 3 = true ∨ leAt fr 2 1 / 4 % 2 = s.member)
    (¬ok → Gives (exec (.fyverFrameReceive l ns fr) s) fun t =>
      t.f (FYV.LINK_STAT'CRC_CNT l) = min 255 (s.f (FYV.LINK_STAT'CRC_CNT l) + 1) ∧ t.fyv.sent = s.fyv.sent ∧
      SameRegsBut [FYV.LINK_STAT l, TIME.SLEW_LEFT] s t ∧ SameMem s t) ∧
    (ok → here → leAt fr 0 1 = 2 → Gives (exec (.fyverFrameReceive l ns fr) s) fun t =>
      have u := s.advanceTo ns
      t.fyv.sent.get (256 * l + 3) = u.fyvFrame 0x03 (leAt fr 1 1) u.ns32 (toLE 4 u.ns32 ++ toLE 4 u.ns32) ∧
      SameRegsBut [TIME.SLEW_LEFT] s t ∧ SameMem s t) ∧
    (ok → leAt fr 2 1 % 4 ≠ s.f FYV.CASC_CFG'POS → leAt fr 0 1 ∉ [0x01, 0x11] → Gives (exec (.fyverFrameReceive l ns fr) s) fun t =>
      (∀ k, k ∈ (if l.val < 2 then [2, 3] else [0, 1]) → s.b (FYV.LINK_STAT'UP k) = true → t.fyv.sent.get (256 * k + leAt fr 0 1) = fr) ∧
      SameRegsBut [TIME.SLEW_LEFT] s t ∧ SameMem s t)) ∧
  (∀ (s : State) (l : Fin 5), s.domOn pdLINK = true →
    (∀ trip turn : Nat, s.b (FYV.LINK_STAT'UP l) = false → s.fyv.train = [] →
      Gives (exec (.fyverLinkUp l trip turn) s) fun t =>
        (t.b (FYV.LINK_STAT'UP l) = true ∧ t.f (FYV.LINK_STAT'DELAY l) = (trip - turn) / 2 % 65536 ∧ t.evtPending 209 = true ∨
          s.imgValid = true ∧ t.fyv.train = [(l.val, trip, turn)]) ∧
        (∀ a, a / 0x10000 ∉ [0x03, 0x140] → a ∉ [FYV.LINK_STAT l, FYV.CONS_STAT] → t.rd a = s.rd a) ∧ SameMem s t) ∧
    (s.b (FYV.LINK_STAT'UP l) = true → Gives (exec (.fyverLinkDown l) s) fun t =>
      t.b (FYV.LINK_STAT'UP l) = false ∧ t.evtPending 209 = true ∧ (l.val = 4 → t.fyv.pVotes = none ∧ t.fyv.downNs = s.ns) ∧
      (∀ a, a / 0x10000 ∉ [0x03, 0x140] → a ∉ [FYV.LINK_STAT l, FYV.CONS_STAT, FYV.PAIR_STAT] → t.rd a = s.rd a) ∧ SameMem s t)) ∧
  (∀ s : State, s.domOn pdTIME = true → s.fyvTime = true → s.fyv.timeLost = false → s.b TIME.TIME_STAT'HOLDOVER = false →
    Gives (exec .fyverTimeLoss s) fun t =>
      (0 < dtIncr s.time.rate → s.fyv.timeNs + 10000000 ≤ t.ns) ∧
      t.fyv.timeLost = true ∧ t.b TIME.TIME_STAT'HOLDOVER = true ∧ t.f TIME.TIME_STAT'HOLD_CAUSE = 0 ∧ t.evtPending 200 = true ∧
      SameRegsBut [TIME.TIME_STAT, TIME.SLEW_LEFT, EVT.EVT_PEND 6] s t ∧ SameMem s t) ∧
  (∀ (s : State) (w : Req) (v : Word), s.takesWrite w FYV.IMG_SEND = true →
    have n := bitsOf v 28 18
    have b := bitsOf v 10 0
    Gives (exec (.imgSend w v) s) fun t =>
      (if bit v.toNat 31 = true ∧ 1 ≤ n ∧ n ≤ 1024 ∧ b + n ≤ 2048 ∧ s.f FYV.CASC_CFG'POS = 0 ∧ (∀ i, i < n → s.owner (b + i) = ownDEVICE) then
        (∀ i, i < n → t.owner (b + i) = s.f (CHUCK.SMW_FLAG'PREV (b + i))) ∧
        SameRegsBut (FYV.IMG_SEND :: (upto n).map (fun i => CHUCK.SMW_FLAG (b + i))) s t
      else SameRegsBut [FYV.IMG_SEND] s t) ∧ SameMem s t) ∧
  (∀ s : State, s.domOn pdFACE = true → s.face.s.st = 1 → 1 ≤ s.face.s.round →
    have u := s.advanceTo (s.face.s.issNs + s.cfg.roughEnd + (s.face.s.round - 1) * s.consW)
    (s.rough.asmDone = false → Gives (exec .consensusRoundStart s) fun t =>
      t.face.s = { s.face.s with due := true } ∧ SameRegsBut [TIME.SLEW_LEFT] s t ∧ SameMem s t) ∧
    (s.rough.asmDone = true → u.ns < s.face.s.deadline → s.face.s.feed = 0 → s.face.s.warm = 2 →
      s.ledgerUsed + s.f FACE.FACE_TOKENS'S_TOKENS ≤ s.budget → s.pwr.waiting = [] →
      Gives (exec .consensusRoundStart s) fun t =>
        t.face.s.st = 3 ∧ t.face.s.startNs = u.ns ∧ t.face.s.weights = s.cfg.weights ∧
        (s.fyv.consRound ≠ 0 → t.fyv.consRound = 0 ∧ t.b FYV.CONS_STAT'CONS_LATE = true ∧ t.fyv.consU = s.fyv.consU) ∧
        SameMem s t)) ∧
  (∀ s : State, s.domOn pdLINK = true → s.domOn pdFACE = true → s.cfg.casc.pos = 0 → s.fyv.consRound ≠ 0 →
    Gives (exec .consensusAverage s) fun t =>
      t.fyv.consRound = 0 ∧ t.fyv.consDone = s.fyv.consDone + 1 ∧ t.fyv.consZ = s.consMean ∧
      t.f FYV.CONS_STAT'MISSED = (s.cfg.casc.npos - 1 - s.fyv.consGot.length) % 4 ∧
      SameRegsBut [FYV.CONS_STAT, FYV.CONS_RES, TIME.SLEW_LEFT] s t ∧ SameMem s t) ∧
  (∀ (s : State) (n : Fin 16), s.domOn pdLINK = true → s.portIsUp n = true → (s.bport n).standbyFrame ≠ [] →
    Gives (exec (.standbyEdgeFrameSend n) s) fun t =>
      t.time.ticks = max s.time.ticks ((s.bport n).readyTick + s.f FYV.PAIR_CFG'PAIR_OFS) ∧
      (t.bport n).lastFrame = laterFrame (s.bport n).standbyFrame (t.time.ticks - (s.bport n).readyTick) ∧
      (t.bport n).standbyFrame = [] ∧ (t.bport n).frames = (s.bport n).frames + 1 ∧
      SameRegsBut [TIME.SLEW_LEFT] s t ∧ SameMem s t)

/-- A good refresh of both groups reports VF, RUN, SILENT, UV_LATCH and UV_WARN and sets each output to its source's
state, a joined odd output to that of the even one, unless OVLD, SILENT or UV_LATCH holds it off; a bad frame only
counts. 10 ms of silence and 1 ms of undervoltage switch the whole group off and latch. An input change held for its
filter time sets RISE or FALL and, if enabled, the event. An overload of over 5 ms, or a thermal shutdown, latches the
output or the joined pair until OVLD_CLR. A compare output ends. RESTORE_READY, AUTO_RESTORE and ACK clear latches, or
ACK_REFUSED. Rules: R471, R472, R473, R474, R475, R476. -/
def Obligations.FieldInputsAndOutputsFollowRefresh : Prop :=
  (∀ (s : State) (v0 v1 : BitVec 12),
    (s.domOn pdCTL = true → Gives (exec (.fieldRefresh ⟨v0, false⟩ ⟨v1, false⟩) s) fun t =>
      (∀ gv, gv ∈ [(0, v0.toNat), (1, v1.toNat)] →
        t.f (DIO.DIO_GRP_STAT'VF gv.1) = gv.2 ∧ t.fbit DIO.DIO_LINK'RUN gv.1 = true ∧
        t.b (DIO.DIO_GRP_STAT'SILENT gv.1) = bit s.dio.silent gv.1 ∧ t.b (DIO.DIO_GRP_STAT'UV_LATCH gv.1) = bit s.dio.uv gv.1 ∧
        t.b (DIO.DIO_GRP_STAT'UV_WARN gv.1) = decide (gv.2 < 1920) ∧
        (gv.2 < 1920 → s.b (DIO.DIO_GRP_STAT'UV_WARN gv.1) = false →
          t.b (DIO.DIO_GRP_STAT'UV_SEEN gv.1) = true ∧ t.evtPending 216 = true) ∧
        (gv.2 < 1920 → t.b (DIO.DIO_GRP_STAT'RESTORE_READY gv.1) = false)) ∧
      (∀ i, i < 16 →
        have k := if s.foJoined i then i - 1 else i
        t.fbit DIO.DIO_OUT_ACT'ACT i = (s.foAsk k && s.foFree k && s.foFree i)) ∧
      (s.domOn pdTIME = true → 0 < dtIncr s.time.rate → s.dio.tickNs ≠ 0 → s.dio.tickNs + 10000 ≤ t.ns) ∧
      SameRegsBut [DIO.DIO_GRP_STAT 0, DIO.DIO_GRP_STAT 1, DIO.DIO_LINK, DIO.DIO_OUT_ACT, EVT.EVT_PEND 6, TIME.SLEW_LEFT] s t ∧
      SameMem s t) ∧
    (s.domOn pdCTL = true → Gives (exec (.fieldRefresh ⟨v0, true⟩ ⟨v1, true⟩) s) fun t =>
      t.f DIO.DIO_LINK'ERR_CNT = min 65535 (s.f DIO.DIO_LINK'ERR_CNT + 2) ∧
      SameRegsBut [DIO.DIO_LINK, TIME.SLEW_LEFT] s t ∧ SameMem s t) ∧
    (s.domOn pdCTL = false → ∀ e0 e1, Gives (exec (.fieldRefresh ⟨v0, e0⟩ ⟨v1, e1⟩) s) fun t =>
      SameRegsBut [TIME.SLEW_LEFT] s t ∧ SameMem s t)) ∧
  (∀ (s : State) (g : Fin 2),
    Gives (exec (.refreshTimeout g) s) (fun t =>
      bit t.dio.silent g = true ∧ t.fbit DIO.DIO_LINK'RUN g = false ∧
      (s.domOn pdTIME = true → 0 < dtIncr s.time.rate → s.dio.lastRefresh.get g + 10000000 ≤ t.ns) ∧
      (∀ i, i < 16 → bit t.dio.foOn i = (bit s.dio.foOn i && i / 8 != g.val) ∧
        (s.domOn pdCTL = true → t.fbit DIO.DIO_OUT_ACT'ACT i = (s.fbit DIO.DIO_OUT_ACT'ACT i && i / 8 != g.val))) ∧
      SameRegsBut [DIO.DIO_OUT_ACT, DIO.DIO_LINK, TIME.SLEW_LEFT] s t ∧ SameMem s t) ∧
    (s.dio.uvFrom.get g ≠ 0 → bit s.dio.uv g = false → Gives (exec (.undervoltageLatch g) s) fun t =>
      bit t.dio.uv g = true ∧
      (∀ i, i < 16 → bit t.dio.foOn i = (bit s.dio.foOn i && i / 8 != g.val) ∧
        (s.domOn pdCTL = true → t.fbit DIO.DIO_OUT_ACT'ACT i = (s.fbit DIO.DIO_OUT_ACT'ACT i && i / 8 != g.val))) ∧
      (s.domOn pdTIME = true → 0 < dtIncr s.time.rate → s.dio.uvFrom.get g + 1000000 ≤ t.ns) ∧
      (s.domOn pdCTL = true → t.b (DIO.DIO_GRP_STAT'UV_LATCH g) = true ∧ t.evtPending 216 = true) ∧
      SameRegsBut [DIO.DIO_OUT_ACT, DIO.DIO_GRP_STAT g, EVT.EVT_PEND 6, TIME.SLEW_LEFT] s t ∧ SameMem s t)) ∧
  (∀ (s : State) (i : Fin 32) (on : Bool) (held : Nat), s.domOn pdCTL = true → s.fbit DIO.DIO_IN'IN i = !on →
    have want := 10 * (s.f DIO.DIO_FILT'FILT / 256 ^ (i.val / 8) % 256)
    (held < want → exec (.fieldInputChange i ⟨on, held⟩) s = .next s) ∧
    (want ≤ held → Gives (exec (.fieldInputChange i ⟨on, held⟩) s) fun t =>
      t.fbit DIO.DIO_IN'IN i = on ∧ t.fbit (if on then DIO.DIO_IN_RISE'RISE else DIO.DIO_IN_FALL'FALL) i = true ∧
      (s.fbit DIO.DIO_IN_EVT_EN'EN i = true → t.evtPending 216 = true) ∧
      (∀ j, j < 32 → j ≠ i.val → t.fbit DIO.DIO_IN'IN j = s.fbit DIO.DIO_IN'IN j) ∧
      SameRegsBut ([DIO.DIO_IN, if on then DIO.DIO_IN_RISE else DIO.DIO_IN_FALL] ++
        (if s.fbit DIO.DIO_IN_EVT_EN'EN i then [EVT.EVT_PEND 6] else [])) s t ∧ SameMem s t)) ∧
  (∀ (s : State) (i : Fin 16) (ns : Nat) (thermal : Bool),
    (thermal = false → ns ≤ 5000000 → exec (.outputOverload ⟨i, ns, thermal⟩) s = .next s) ∧
    (thermal = true ∨ 5000000 < ns → Gives (exec (.outputOverload ⟨i, ns, thermal⟩) s) fun t =>
      (∀ k, k < 16 →
        have hit := k = i.val ∨ (s.fbit DIO.DIO_PAR'PAR (i.val / 2) = true ∧ k / 2 = i.val / 2)
        (hit → bit t.dio.foOn k = false ∧
          (s.domOn pdCTL = true → t.fbit DIO.DIO_OUT_ACT'ACT k = false ∧ t.fbit DIO.DIO_OVLD'OVLD k = true)) ∧
        (¬hit → bit t.dio.foOn k = bit s.dio.foOn k ∧ t.fbit DIO.DIO_OVLD'OVLD k = s.fbit DIO.DIO_OVLD'OVLD k ∧ t.fbit DIO.DIO_OUT_ACT'ACT k = s.fbit DIO.DIO_OUT_ACT'ACT k)) ∧
      SameRegsBut [DIO.DIO_OVLD, DIO.DIO_OUT_ACT] s t ∧ SameMem s t)) ∧
  (∀ (s : State) (w : Req) (v : Word), s.takesWrite w DIO.DIO_OVLD_CLR = true →
    Gives (exec (.ovldClr w v) s) fun t =>
      (∀ i, i < 16 → t.fbit DIO.DIO_OVLD'OVLD i = (s.fbit DIO.DIO_OVLD'OVLD i && !bit v.toNat i)) ∧
      SameRegsBut [DIO.DIO_OVLD] s t ∧ SameMem s t) ∧
  (∀ (s : State) (i : Fin 16), bit s.dio.cmpOn i = true →
    Gives (exec (.compareOutputEnd i) s) fun t =>
      bit t.dio.cmpOn i = false ∧
      (s.domOn pdTIME = true → 0 < dtIncr s.time.rate → s.dio.cmpNs.get i + 50000 ≤ t.ns) ∧
      (s.foSrc i = 1 → s.foJoined i = false → bit t.dio.foOn i = false ∧
        (s.domOn pdCTL = true → t.fbit DIO.DIO_OUT_ACT'ACT i = false)) ∧
      (s.foSrc i ≠ 1 → t.rd DIO.DIO_OUT_ACT = s.rd DIO.DIO_OUT_ACT) ∧
      SameRegsBut [DIO.DIO_OUT_ACT, TIME.SLEW_LEFT] s t ∧ SameMem s t) ∧
  (∀ (s : State) (g : Fin 2), s.domOn pdCTL = true → s.b (DIO.DIO_GRP_STAT'RESTORE_READY g) = false → s.dio.okFrom.get g ≠ 0 →
    (bit s.dio.uv g = true ∨ (bit s.dio.silent g = true ∧ s.fbit DIO.DIO_LINK'RUN g = true)) →
    Gives (exec (.restoreReady g) s) fun t =>
      t.evtPending 216 = true ∧ (s.domOn pdTIME = true → 0 < dtIncr s.time.rate → s.dio.okFrom.get g + 100000000 ≤ t.ns) ∧
      (if s.b (DIO.DIO_GRP_CTRL'AUTO_RESTORE g) = true ∧ bit s.dio.uv g = true ∧ bit s.dio.silent g = false then
        bit t.dio.uv g = false ∧ t.b (DIO.DIO_GRP_STAT'UV_LATCH g) = false ∧ t.b (DIO.DIO_GRP_STAT'RESTORE_READY g) = false
      else t.b (DIO.DIO_GRP_STAT'RESTORE_READY g) = true ∧ t.dio = s.dio) ∧
      SameRegsBut [DIO.DIO_GRP_STAT g, EVT.EVT_PEND 6, TIME.SLEW_LEFT] s t ∧ SameMem s t) ∧
  (∀ (s : State) (w : Req) (g : Fin 2), s.takesWrite w (DIO.DIO_GRP_CTRL g) = true →
    Gives (exec (.groupAck w g) s) fun t =>
      (if s.b (DIO.DIO_GRP_STAT'RESTORE_READY g) = true then
        bit t.dio.uv g = false ∧ bit t.dio.silent g = false ∧ t.b (DIO.DIO_GRP_STAT'UV_LATCH g) = false ∧
        t.b (DIO.DIO_GRP_STAT'SILENT g) = false ∧ t.b (DIO.DIO_GRP_STAT'RESTORE_READY g) = false
      else t.b (DIO.DIO_GRP_STAT'ACK_REFUSED g) = true ∧ t.dio = s.dio) ∧
      SameRegsBut [DIO.DIO_GRP_STAT g] s t ∧ SameMem s t)

namespace Sys2Proof.Machine

/-- What a NAND operation leaves as it was: every register outside the blocks NAND, PWR (ledger), EVT and PERF, but for the
slew register of device time, and every byte of memory. -/
def NandFrame (s t : State) : Prop :=
  (∀ a, a / 0x10000 ∉ [0x130, 0x03, 0x140, 0x150] → a ≠ TIME.SLEW_LEFT → t.rd a = s.rd a) ∧ SameMem s t

/-- A programme of ring `p` into block `b` can begin at once: nothing else waits or runs, the block needs no erase, and a
token is free (R483, R487, R565). -/
def FlushReady (s : State) (p b : Nat) : Prop :=
  s.domOn pdFLASH = true ∧ s.b NAND.NAND_STAT'MOUNTED = true ∧ s.standby = false ∧ s.nand.cur = none ∧ s.nand.ops = [] ∧
    (s.ring p).buf ≠ [] ∧ s.nextBlock p = some b ∧ ((s.nblk b).next = 0 ∨ s.nand.open_.get p = b + 1) ∧
    s.ledgerUsed + 1 ≤ s.budget ∧ s.pwr.waiting = []

/-- The buffer of ring `p` has become the page being programmed into block `b`. -/
def Flushing (s t : State) (p b : Nat) : Prop :=
  t.nand.cur = some (.ring p) ∧ t.nand.run = true ∧ t.nand.blk = b ∧ (t.ring p).fly = (s.ring p).buf.take (ringCap p) ∧
    (t.ring p).buf = (s.ring p).buf.drop (ringCap p) ∧ t.b NAND.NAND_STAT'BUSY = true ∧ t.ledgerHolds (if p = 5 then 0 else 4) 0 = true

end Sys2Proof.Machine

/-- CR_APPEND answers TYPE, STANDBY or FAILED, or appends CR_DATA with its CRC under the next RSEQ. A flush makes the
buffer the page being programmed, with a token. A good programme stores the page and advances DURABLE_RSEQ, a failed
one marks the block grown-bad; so for an erase, which counts. RD_CMD checks busy, owner and range; its end counts
corrections, fills the buffer and returns it. IMG_WR answers the failing check or queues; its end goes on in the next
good block, updates the boot record, or leaves the slot empty and names the other. The scan counts reads and queues a
scrub. Rules: R479, R482, R483, R485, R486, R487, R489, R492, R494. -/
def Obligations.FlashAppendsProgrammesAndReads : Prop :=
  (∀ (s : State) (w : Req) (v : Word), s.takesWrite w NAND.CR_CMD = true → bit v.toNat 30 = false →
    have data := (upto 15).flatMap (fun i => toLE 4 (s.rdN (NAND.CR_DATA i)))
    have r := s.ring 6
    Gives (exec (.crAppend w v) s) fun t =>
      ((s.standby = true ∧ s.paired = true) → t.f NAND.CR_CMD'RESULT = 2 ∧ t.nand = s.nand) ∧
      (¬(s.standby = true ∧ s.paired = true) →
        (leAt data 0 1 < 0x80 → t.f NAND.CR_CMD'RESULT = 1 ∧ t.nand = s.nand ∧ SameRegsBut [NAND.CR_CMD] s t) ∧
        (0x80 ≤ leAt data 0 1 → s.fbit NAND.NAND_STAT'FAILED 6 = true →
          t.f NAND.CR_CMD'RESULT = 3 ∧ (t.ring 6).dropCnt = r.dropCnt + 1 ∧ (t.ring 6).buf = r.buf ∧
          t.f NAND.DROP_CNT'CYCLE = min 65535 (s.f NAND.DROP_CNT'CYCLE + 1)) ∧
        (0x80 ≤ leAt data 0 1 → s.fbit NAND.NAND_STAT'FAILED 6 = false → t.f NAND.CR_CMD'RESULT = 0) ∧
        (0x80 ≤ leAt data 0 1 → s.fbit NAND.NAND_STAT'FAILED 6 = false → s.b NAND.NAND_STAT'MOUNTED = true → r.dropCnt = 0 →
          r.buf.length < 255 →
          (t.ring 6).buf = r.buf ++ [⟨r.last + 1, data ++ toLE 4 (crc32c data), s.ns⟩] ∧ (t.ring 6).last = r.last + 1 ∧
          SameRegsBut [NAND.CR_CMD] s t)) ∧
      (∀ a, a / 0x10000 ∉ [0x130, 0x03, 0x140] → a ≠ FYV.PAIR_ERR → t.rd a = s.rd a) ∧ SameMem s t) ∧
  (∀ (s : State) (w : Req) (v : Word) (b : Nat), s.takesWrite w NAND.CR_CMD = true → FlushReady s 6 b →
    Gives (exec (.crFlush w v) s) fun t => Flushing s t 6 b ∧ NandFrame s t) ∧
  (∀ (s : State) (cycle : Bool) (b : Nat), FlushReady s (if cycle then 6 else 5) b →
    Gives (exec (.flushTimeout cycle) s) fun t => Flushing s t (if cycle then 6 else 5) b ∧ NandFrame s t) ∧
  (∀ (s : State) (p : Nat) (e : RingEnt) (q : List RingEnt), s.domOn pdFLASH = true → s.nand.run = true →
    s.nand.cur = some (.ring p) → (p = 5 ∨ p = 6) → s.nand.ops = [] → (s.ring p).fly = e :: q →
    (e.rseq + q.length < 2 ^ 64 → Gives (exec (.nandProgrammeDone true) s) fun t =>
      t.durable p = e.rseq + q.length ∧ (t.ring p).fly = [] ∧ t.nand.cur = none ∧ t.nand.run = false ∧
      (t.nblk s.nand.blk).next = (s.nblk s.nand.blk).next + 1 ∧
      (t.nand.pages.get (256 * s.nand.blk + (s.nblk s.nand.blk).next)).data = (e :: q).flatMap (·.bytes) ∧
      (t.nand.pages.get (256 * s.nand.blk + (s.nblk s.nand.blk).next)).first = e.rseq ∧
      (t.nand.pages.get (256 * s.nand.blk + (s.nblk s.nand.blk).next)).partialPage = decide (q.length + 1 < ringCap p) ∧
      t.ledgerHolds (if p = 5 then 0 else 4) 0 = false ∧ NandFrame s t) ∧
    Gives (exec (.nandProgrammeDone false) s) fun t =>
      t.b NAND.NAND_ERR'PROG_FAIL = true ∧ (t.nblk s.nand.blk).bad = true ∧
      ((s.nblk s.nand.blk).bad = false → t.f NAND.BAD_CNT'GROWN = min 65535 (s.f NAND.BAD_CNT'GROWN + 1)) ∧
      t.durable p = s.durable p ∧ NandFrame s t) ∧
  (∀ (s : State) (b : Nat), s.domOn pdFLASH = true → s.nand.run = true → s.nand.cur = some (.erase b) →
    Gives (exec (.nandEraseDone true) s) (fun t =>
      (t.nblk b).erase = (s.nblk b).erase + 1 ∧ (t.nblk b).next = 0 ∧ (t.nblk b).reads = 0 ∧ t.blockPages b = [] ∧
      (blockPart b = 5 → t.oldest 5 ≠ s.oldest 5 → t.evtPending 220 = true) ∧ NandFrame s t) ∧
    Gives (exec (.nandEraseDone false) s) fun t =>
      t.b NAND.NAND_ERR'ERASE_FAIL = true ∧ (t.nblk b).bad = true ∧ NandFrame s t) ∧
  (∀ (s : State) (w : Req) (v : Word), s.takesWrite w NAND.RD_CMD = true →
    ¬(s.standby = true ∧ s.paired = true ∧ s.actsAsHost w = true) →
    have p := if bit v.toNat 30 then 5 else 6
    have r := s.rdN NAND.RD_RSEQ_LO + 2 ^ 32 * s.rdN NAND.RD_RSEQ_HI
    have res := if s.nand.rdBusy = true then 1 else if s.owner (bitsOf v 10 0) ≠ ownDEVICE then 3
      else if r < s.oldest p ∨ s.durable p < r ∨ r = 0 then 2 else 0
    Gives (exec (.rdGo w v) s) fun t =>
      t.f NAND.RD_STAT'RESULT = (if res = 0 then 1 else res) ∧
      (if res = 0 then t.nand.rdBusy = true ∧ t.nand.rdBuf = bitsOf v 10 0 ∧ t.nand.rdPart = p ∧ t.nand.rdFrom = r ∧
          t.b NAND.NAND_STAT'BUSY = true
        else t.nand = s.nand) ∧
      SameRegsBut [NAND.RD_CMD, NAND.RD_STAT, NAND.NAND_STAT] s t ∧ SameMem s t) ∧
  (∀ (s : State) (unc corr bits : Nat) (raw : List (Nat × List (BitVec 8))), s.domOn pdFLASH = true → s.nand.rdBusy = true →
    (s.nand.rdPart = 5 ∨ s.nand.rdPart = 6) → s.nand.rdBuf < 2048 → s.owner s.nand.rdBuf = ownDEVICE →
    have es := (s.ringEntries s.nand.rdPart s.nand.rdFrom).take (4096 / entryLen s.nand.rdPart)
    have img := (es.map (·.2.2)).flatten
    Gives (exec (.nandReadDone unc ⟨corr, bits⟩ raw) s) fun t =>
      t.nand.rdBusy = false ∧ t.f NAND.RD_STAT'RESULT = 0 ∧ t.f NAND.RD_STAT'COUNT = es.length ∧
      t.owner s.nand.rdBuf = s.f (CHUCK.SMW_FLAG'PREV s.nand.rdBuf) ∧
      t.f NAND.ECC_CNT'UNCORR_CW = min 65535 (s.f NAND.ECC_CNT'UNCORR_CW + unc) ∧
      t.f NAND.ECC_CNT'CORR40 = min 65535 (s.f NAND.ECC_CNT'CORR40 + corr) ∧
      (0 < unc → t.b NAND.NAND_ERR'UNCORR = true) ∧
      (raw = [] → t.bytes (smwAt s.nand.rdBuf) img.length = img) ∧ SameMemBut (smwAt s.nand.rdBuf) 4096 s t ∧
      (∀ a, a / 0x10000 ∉ [0x130, 0x03, 0x140] → a ≠ CHUCK.SMW_FLAG s.nand.rdBuf → t.rd a = s.rd a)) ∧
  (∀ (s : State) (w : Req) (v : Word), s.takesWrite w NAND.IMG_WR = true →
    have busy := s.nand.ops.any (fun o => match o with | .image _ _ => true | _ => false) ||
      match s.nand.cur with | some (.image _ _) => true | _ => false
    have slot := bitsOf v 29 29
    Gives (exec (.imgWrGo w v) s) fun t =>
      ((s.standby = true ∧ s.paired = true) → t.f NAND.IMG_WR'RESULT = 0x23 ∧ t.nand = s.nand) ∧
      (¬(s.standby = true ∧ s.paired = true) →
        (busy = true → t.f NAND.IMG_WR'RESULT = 1 ∧ t.nand = s.nand) ∧
        (busy = false → s.fbit NAND.NAND_STAT'FAILED (1 + slot) = true → t.f NAND.IMG_WR'RESULT = 0x22 ∧ t.nand = s.nand) ∧
        (busy = false → s.fbit NAND.NAND_STAT'FAILED (1 + slot) = false →
          (s.sourceBytes 3 = none → t.f NAND.IMG_WR'RESULT = 0x10 ∧ t.nand = s.nand) ∧
          (∀ l f, s.sourceBytes 3 = some l → s.checkFormat l = some f → t.f NAND.IMG_WR'RESULT = f.1 % 256 ∧ t.nand = s.nand) ∧
          (∀ l, s.sourceBytes 3 = some l → s.checkFormat l = none → t.f NAND.IMG_WR'RESULT = 1 ∧
            (NOp.image slot (bit v.toNat 30) ∈ t.nand.ops ∨ t.nand.cur = some (.image slot (bit v.toNat 30)))))) ∧
      (∀ a, a / 0x10000 ∉ [0x130, 0x03, 0x140] → a ≠ FYV.PAIR_ERR → t.rd a = s.rd a) ∧ SameMem s t) ∧
  (∀ (s : State) (prog verify : Bool) (slot : Nat) (pref : Bool), s.domOn pdFLASH = true → s.nand.run = true →
    s.nand.cur = some (.image slot pref) → slot < 2 →
    Gives (exec (.imgWrDone prog verify) s) fun t =>
      (prog = false → t.b NAND.NAND_ERR'PROG_FAIL = true ∧ (t.nblk s.nand.blk).bad = true) ∧
      (if prog = false ∧ t.goodAfter (1 + slot) ((partRange (1 + slot)).1 - 1) ≠ [] then
        t.nand.cur = s.nand.cur ∧ t.nand.run = true ∧ t.nand.blk ∈ t.goodAfter (1 + slot) ((partRange (1 + slot)).1 - 1)
      else if prog = true ∧ verify = true ∧ (s.sourceBytes 3).any (fun l => (s.checkFormat l).isNone) = true then
        t.f NAND.IMG_WR'RESULT = 2 ∧
        (pref = true → t.bootRec.pref = slot ∧ t.bootRec.cnt = s.bootRec.cnt + 1 ∧ t.f NAND.NAND_STAT'PREF_SLOT = slot) ∧
        (pref = false → t.nand.boot0 = s.nand.boot0 ∧ t.nand.boot1 = s.nand.boot1)
      else t.f NAND.IMG_WR'RESULT = (if prog then 0x21 else 0x20) ∧ t.slotBytes slot = [] ∧
        t.bootRec.pref = 1 - slot ∧ t.bootRec.cnt = s.bootRec.cnt + 1 ∧ t.f NAND.NAND_STAT'PREF_SLOT = 1 - slot) ∧
      NandFrame s t) ∧
  (∀ (s : State) (b : Fin 4096) (bits unc corr : Nat), s.domOn pdFLASH = true → s.nand.cur = none → s.nand.rdBusy = false →
    s.nand.ops = [] → (s.nblk b).bad = false →
    have reads := (s.nblk b).reads + (s.blockPages b).length
    Gives (exec (.scrubScan b bits unc corr) s) fun t =>
      (t.nblk b).reads = reads ∧ t.f NAND.ECC_CNT'UNCORR_CW = min 65535 (s.f NAND.ECC_CNT'UNCORR_CW + unc) ∧
      t.f NAND.ECC_CNT'CORR40 = min 65535 (s.f NAND.ECC_CNT'CORR40 + corr) ∧
      ((s.rdN NAND.RD_LIMIT ≤ reads ∨ s.f NAND.NAND_CFG'SCRUB_BITS ≤ bits) → s.blockPages b ≠ [] →
        NOp.scrub b ∈ t.nand.ops ∨ t.nand.cur = some (.scrub b)) ∧
      (reads < s.rdN NAND.RD_LIMIT → bits < s.f NAND.NAND_CFG'SCRUB_BITS → t.nand.ops = [] ∧ t.nand.cur = none) ∧ NandFrame s t)

/-- EVT_PEND is W1C; EVT_SET raises doorbells 232-255; a route is written only by the host or supervisor with KIND below 3
and while unlocked. A ready, open vector sends one message after its holdoff and disarms until EVT_VEC_ACK; else
nothing happens. The PCIe link shows width and speed, and configuration writes set Bus Master Enable and D3hot. PERF
clears wait for the L3 boundary. A snapshot set is written with its header and bins, passes to SNAP_TO and raises
EVT[224]. A read of TAG_PC latches the times and frees the record. Rules: R495, R496, R504, R506, R507, R508, R512,
R513, R514, R516. -/
def Obligations.EventsMessagesCountersAndTags : Prop :=
  (∀ (s : State) (w : Req) (i : Fin 8) (v : Word), s.takesWrite w (EVT.EVT_PEND i) = true →
    Gives (exec (.evtPendClear w i v) s) fun t =>
      t.rd (EVT.EVT_PEND i) = s.rd (EVT.EVT_PEND i) &&& ~~~v ∧ SameRegsBut [EVT.EVT_PEND i] s t ∧ SameMem s t) ∧
  (∀ (s : State) (w : Req) (v : Word), s.takesWrite w EVT.EVT_VEC_ACK = true →
    Gives (exec (.evtVecAck w v) s) fun t =>
      (∀ k, k < 32 → bit t.evt.disarmed k = (bit s.evt.disarmed k && !(bit v.toNat 31 && bitsOf v 4 0 == k))) ∧
      SameRegsBut [] s t ∧ SameMem s t) ∧
  (∀ (s : State) (w : Req) (v : Word), s.takesWrite w EVT.EVT_SET = true →
    Gives (exec (.evtSet w v) s) fun t =>
      (if bit v.toNat 31 = true ∧ bitsOf v 4 0 < 24 then t.evtPending (232 + bitsOf v 4 0) = true ∧ SameRegsBut [EVT.EVT_PEND 7] s t
        else SameRegsBut [] s t) ∧ SameMem s t) ∧
  (∀ (s : State) (w : Req) (e : Fin 256) (v : Word), s.takesWrite w (EVT.EVT_ROUTE e) = true →
    Gives (exec (.evtRouteWrite w e v) s) fun t =>
      (if s.hostOrSupv w = false ∨ bitsOf v 17 16 = 3 then t.b EVT.EVT_ERR'ROUTE_REFUSED = true ∧ SameRegsBut [EVT.EVT_ERR] s t
      else if s.b EVT.EVT_LOCK'LOCK = true then SameRegsBut [] s t
      else t.rd (EVT.EVT_ROUTE e) = v &&& 0x0003FF1F ∧ SameRegsBut [EVT.EVT_ROUTE e] s t) ∧ SameMem s t) ∧
  (∀ (s : State) (k : Fin 32),
    (s.vecReady k = true → s.vecOpen k = true → Gives (exec (.msixMessage k) s) fun t =>
      bit t.evt.disarmed k = true ∧ t.evt.sent.get k = s.evt.sent.get k + 1 ∧ t.evt.lastMsg.get k = t.ns + 1 ∧
      (s.domOn pdTIME = true → 0 < dtIncr s.time.rate → s.vecDue k ≤ t.ns) ∧
      (∀ a, a / 0x10000 ≠ 0x150 → a ≠ TIME.SLEW_LEFT → t.rd a = s.rd a) ∧ SameMem s t) ∧
    ((s.vecReady k = false ∨ s.vecOpen k = false) → exec (.msixMessage k) s = .next s)) ∧
  (∀ (s : State) (width speed : Fin 3),
    (s.domOn pdHOST = true → Gives (exec (.pcieLinkChange true width speed) s) fun t =>
      t.b SYS.HOST_CFG'PCIE_UP = true ∧ t.f SYS.HOST_CFG'WIDTH = 2 ^ width.val ∧ t.f SYS.HOST_CFG'SPEED = speed.val + 1 ∧
      SameRegsBut [SYS.HOST_CFG] s t ∧ SameMem s t) ∧
    Gives (exec (.pcieLinkChange false width speed) s) fun t =>
      t.b SYS.HOST_CFG'PCIE_UP = false ∧ t.f SYS.HOST_CFG'WIDTH = 0 ∧ t.f SYS.HOST_CFG'SPEED = 0 ∧
      SameRegsBut [SYS.HOST_CFG] s t ∧ SameMem s t) ∧
  (∀ (s : State) (bme d3 : Bool), s.domOn pdHOST = true → s.b SYS.HOST_CFG'PCIE_UP = true →
    Gives (exec (.pcieConfigWrite bme d3) s) fun t =>
      t.evt.bme = bme ∧ t.evt.d3 = d3 ∧ SameRegsBut [] s t ∧ SameMem s t) ∧
  (∀ (s : State) (w : Req) (v : Word), s.takesWrite w PERF.PERF_CTRL = true →
    have fields := fun t : State => t.f PERF.PERF_CTRL'SNAP_TO = (if bitsOf v 20 16 ≤ 18 then bitsOf v 20 16 else s.f PERF.PERF_CTRL'SNAP_TO) ∧
       t.b PERF.PERF_CTRL'SNAP_EN = bit v.toNat 3 ∧
      t.f PERF.PERF_CTRL'SNAP_N_M1 = bitsOf v 2 0 ∧ t.perf.pc.get 0 = s.perf.pc.get 0 ∧ SameRegsBut [PERF.PERF_CTRL] s t ∧ SameMem s t
    Gives (exec (.perfClr w v) s) (fun t => t.perf.clrPend = true ∧
      t.perf.histClrPend = (s.perf.histClrPend || bit v.toNat 30) ∧ fields t) ∧
    Gives (exec (.perfHistClr w v) s) fun t => t.perf.histClrPend = true ∧
      t.perf.clrPend = (s.perf.clrPend || bit v.toNat 31) ∧ fields t) ∧
  (∀ s : State, s.perf.snapBusy = true → s.perf.snapAt < 2047 →
    s.owner s.perf.snapAt = ownDEVICE → s.owner (s.perf.snapAt + 1) = ownDEVICE →
    Gives (exec .snapshotWriteDone s) fun t =>
      t.bytes (smwAt s.perf.snapAt) 1664 = s.perf.snapHead ∧ t.bytes (smwAt (s.perf.snapAt + 1)) 4096 = s.perf.snapBins ∧
      t.owner s.perf.snapAt = s.f PERF.PERF_CTRL'SNAP_TO ∧ t.owner (s.perf.snapAt + 1) = s.f PERF.PERF_CTRL'SNAP_TO ∧
      t.f PERF.PERF_STAT'L3_SEQ = s.perf.latchSeq % 65536 ∧ t.evtPending 224 = true ∧ t.perf.snapBusy = false ∧
      t.perf.snapIdx = (if s.perf.snapIdx < s.f PERF.PERF_CTRL'SNAP_N_M1 then s.perf.snapIdx + 1 else 0) ∧
      SameRegsBut [PERF.PERF_STAT, CHUCK.SMW_FLAG s.perf.snapAt, CHUCK.SMW_FLAG (s.perf.snapAt + 1), EVT.EVT_PEND 7] s t ∧
      SameMemBut (smwAt s.perf.snapAt) 8192 s t) ∧
  (∀ (s : State) (w : Req) (n : Fin 16), s.takesRead w (PERF.TAG_PC n) = true →
    have lost := s.f (PERF.TAG_PC'TAG_LOST n) * 65536
    Gives (exec (.tagPcRead w n) s) fun t =>
      ((s.core n).tag = none → t.resp = .data lost ∧ t.latched w (PERF.TAG_T n) = 0) ∧
      (∀ r, (s.core n).tag = some r →
        t.resp = .data (2 ^ 31 + 2 ^ 30 * r.aborted.toNat + 2 ^ 29 * r.supp.toNat + lost + r.pc % 2 ^ 15) ∧
        t.latched w (PERF.TAG_T n) = r.t ∧ t.latched w (PERF.TAG_D n) = r.d ∧ t.latched w (PERF.TAG_D2 n) = r.d2 ∧
        (t.core n).tag = none) ∧ SameRegsBut [] s t ∧ SameMem s t)

/-- MODE_REQ is refused to others with RESULT 8, answers the first failing check of R528, enters M9 at once, or waits as
pending or for a reset pulse; ABORT and the timeout end it with 9 and 7; MODE_CHANGE repeats the checks at its L3
boundary, after the evaluation's results, and changes the mode, M4 standing in for a standby. LAT_TOL selects the
deepest permitted state; in P1 requests restart clocks; a wake ends in P0 with the domains on. The first waiting
ledger request is granted if it fits, else none. T_DIE sets WARN and THROTTLE, which clears after 1 s at 5 degrees
below. Rules: R519, R520, R521, R525, R527, R528, R559, R560, R561, R562, R565, R567. -/
def Obligations.ModesPowerStatesAndLedgerAct : Prop :=
  (∀ (s : State) (w : Req) (v : Word), s.takesWrite w SYS.MODE_REQ = true →
    have g := bitsOf v 3 0
    (bit v.toNat 30 = false →
      (s.hostOrSupv w = false → Gives (exec (.modeReqGo w v) s) fun t =>
        t.f SYS.MODE_STAT'RESULT = 8 ∧ SameRegsBut [SYS.MODE_STAT] s t ∧ SameMem s t) ∧
      (s.hostOrSupv w = true → s.modeCheck g ≠ 0 → Gives (exec (.modeReqGo w v) s) fun t =>
        t.f SYS.MODE_STAT'RESULT = s.modeCheck g ∧ t.mode = s.mode ∧ SameRegsBut [SYS.MODE_STAT] s t ∧ SameMem s t) ∧
      (s.hostOrSupv w = true → s.modeCheck g = 0 → Gives (exec (.modeReqGo w v) s) fun t =>
        t.f SYS.MODE_STAT'RESULT = 0 ∧
        (g = s.mode → t.f SYS.MODE_STAT'REQ_STATE = 0 ∧ SameRegsBut [SYS.MODE_STAT] s t) ∧
        (g ≠ s.mode → g = 9 → s.mode ≠ 11 → t.mode = 9 ∧ t.f SYS.MODE_STAT'CAUSE = 1 ∧ t.f SYS.MODE_STAT'PREV = s.mode) ∧
        (g ≠ s.mode → g = 11 → s.cycRun = false → t.mode = 11 ∧ t.f PWR.PWR_STAT'STATE = 3 ∧ t.imgValid = false) ∧
        (g ≠ s.mode → g = 9 → s.mode = 11 → t.mode = 11 ∧ t.b PWR.PWR_STAT'WAKING = true ∧ t.f SYS.MODE_STAT'REQ_STATE = 1) ∧
        (g ≠ s.mode → g ≠ 9 → (g = 11 → s.cycRun = true) →
          t.mode = s.mode ∧ t.f SYS.MODE_STAT'REQ_TARGET = g ∧ t.sys.reqNs = s.ns ∧
          t.f SYS.MODE_STAT'REQ_STATE = (if s.mode = 9 ∧ (g = 3 ∨ (5 ≤ g ∧ g ≤ 7)) then 2 else 1)))) ∧
    (bit v.toNat 31 = false → Gives (exec (.modeReqAbort w v) s) fun t =>
      (if s.hostOrSupv w = false then t.f SYS.MODE_STAT'RESULT = 8
      else if s.f SYS.MODE_STAT'REQ_STATE = 0 then SameRegsBut [] s t
      else t.f SYS.MODE_STAT'RESULT = 9 ∧ t.f SYS.MODE_STAT'REQ_STATE = 0) ∧
      t.mode = s.mode ∧ SameRegsBut [SYS.MODE_STAT] s t ∧ SameMem s t)) ∧
  (∀ s : State, s.mode ≠ 11 →
    (s.changeWaits = true → s.f SYS.MODE_STAT'REQ_TARGET ≠ 11 →
      have u := (s.advanceTo (nextL3Ns s.sys.reqNs)).iff (s.domOn pdCTL) (·.trjTakeHold)
      have g := s.f SYS.MODE_STAT'REQ_TARGET
      have m := if u.standby && runMode g then 4 else g
      Gives (exec .modeChange s) fun t =>
        if u.modeCheck g = 0 then
          t.mode = m ∧ t.f SYS.MODE_STAT'RESULT = 0 ∧ t.f SYS.MODE_STAT'REQ_STATE = 0 ∧
          (m ≠ u.mode → t.f SYS.MODE_STAT'CAUSE = 1 ∧ t.f SYS.MODE_STAT'PREV = u.mode ∧ t.evtPending 4 = true ∧
            t.f SYS.MODE_TIMEOUT'CHG_CNT = min 65535 (u.f SYS.MODE_TIMEOUT'CHG_CNT + 1))
        else t.mode = u.mode ∧ t.f SYS.MODE_STAT'RESULT = u.modeCheck g ∧ t.f SYS.MODE_STAT'REQ_STATE = 0 ∧
          SameRegsBut [SYS.MODE_STAT] u t ∧ SameMem u t) ∧
    (s.f SYS.MODE_STAT'REQ_STATE ≠ 0 → s.f SYS.MODE_STAT'REQ_TARGET = 11 → s.cycRun = false →
      Gives (exec .modeChange s) fun t =>
        t.mode = 11 ∧ t.f PWR.PWR_STAT'STATE = 3 ∧ t.imgValid = false ∧ t.f SYS.MODE_STAT'REQ_STATE = 0)) ∧
  (∀ s : State, s.f SYS.MODE_STAT'REQ_STATE = 2 → s.sys.reqPulse = false →
    Gives (exec .modeRequestTimeout s) fun t =>
      (s.domOn pdTIME = true → 0 < dtIncr s.time.rate → s.sys.reqNs + 1000000000 * s.f SYS.MODE_TIMEOUT'SECONDS ≤ t.ns) ∧
      t.f SYS.MODE_STAT'RESULT = 7 ∧ t.f SYS.MODE_STAT'REQ_STATE = 0 ∧ t.mode = s.mode ∧
      SameRegsBut [SYS.MODE_STAT, TIME.SLEW_LEFT] s t ∧ SameMem s t) ∧
  (∀ (s : State) (w : Req) (v : Word), s.takesWrite w PWR.LAT_TOL = true → s.mode ≠ 11 → s.f PWR.PWR_STAT'STATE ≠ 3 →
    have n := v.toNat % 2 ^ 20
    have c := s.f PWR.PWR_STAT'STATE
    have p := if (s.mode = 1 ∨ s.mode = 9) ∧ s.awayReq = false then (if n < 2 then 0 else if n < 150 then 1 else 2) else 0
    Gives (exec (.latTolWrite w v) s) fun t =>
      if s.hostOrSupv w = false then t.b PWR.LEDGER_ERR'WR_REFUSED = true ∧ SameRegsBut [PWR.LEDGER_ERR] s t ∧ SameMem s t
      else t.f PWR.LAT_TOL'US = n ∧ t.f PWR.PWR_STAT'TARGET = p ∧
        (c < p → t.f PWR.PWR_STAT'STATE = p ∧ t.evtPending 10 = true ∧ t.b PWR.PWR_STAT'WAKING = false) ∧
        (c < p → p = 2 → ∀ d, d < 16 → p2Off d = true → t.domOn d = false) ∧
        (p ≤ c → t.f PWR.PWR_STAT'STATE = c ∧ t.b PWR.PWR_STAT'WAKING = decide (p < c) ∧
          SameRegsBut [PWR.LAT_TOL, PWR.PWR_STAT] s t ∧ SameMem s t)) ∧
  (∀ (s : State) (d : Fin 16),
    Gives (exec (.clockRestart d) s) (fun t =>
      t.clockRuns d = true ∧ SameRegsBut [] s t ∧ SameMem s t) ∧
    Gives (exec (.clockIdleStop d) s) fun t =>
      t.clockRuns d = !(s.f PWR.PWR_STAT'STATE == 1 && p1Stopped d) ∧
      (bit s.pwr.restarted d = true → s.domOn pdTIME = true → 0 < dtIncr s.time.rate → s.pwr.reqAt.get d - 1 + 100000 ≤ t.ns) ∧
      SameRegsBut [TIME.SLEW_LEFT] s t ∧ SameMem s t) ∧
  (∀ s : State, s.b PWR.PWR_STAT'WAKING = true →
    ((s.f PWR.PWR_STAT'STATE = 1 ∨ s.f PWR.PWR_STAT'STATE = 2) → s.powWant = 0 → Gives (exec .wakeDone s) fun t =>
      t.f PWR.PWR_STAT'STATE = 0 ∧ t.b PWR.PWR_STAT'WAKING = false ∧ t.evtPending 10 = true ∧
      (s.f PWR.PWR_STAT'STATE = 2 → ∀ d, d < 16 → p2Off d = true → s.released d = true → t.domOn d = true) ∧
      SameRegsBut [PWR.PWR_STAT, CLK.CLK_STAT, EVT.EVT_PEND 0] s t ∧ SameMem s t) ∧
    (s.f PWR.PWR_STAT'STATE = 3 → s.rst.seq = [] → s.f SYS.MODE_STAT'REQ_STATE ≠ 0 → s.mode = 11 → Gives (exec .wakeDone s) fun t =>
      t.f PWR.PWR_STAT'STATE = 0 ∧ t.mode = 2 ∧ t.sys.loading = true ∧ t.f SYS.IMG_STAT'LOAD_STAT = 1)) ∧
  (∀ (s : State) (r : LedReq), firstWaiting s.pwr.waiting = some r →
    (s.budget < s.ledgerUsed + r.tok → Gives (exec .ledgerGrant s) fun t =>
      t.pwr = s.pwr ∧ (s.budget < r.tok → t.b PWR.LEDGER_ERR'OVERSIZE = true) ∧ SameRegsBut [PWR.LEDGER_ERR] s t ∧ SameMem s t) ∧
    (s.ledgerUsed + r.tok ≤ s.budget → Gives (exec .ledgerGrant s) fun t =>
      have u := s.ledgerGrant.2
      u.pwr.waiting = s.pwr.waiting.erase r ∧ u.ledgerHolds r.cls r.id = true ∧ u.ledgerUsed = s.ledgerUsed + r.tok ∧
        u.f PWR.LEDGER_CNT'GRANT_CNT = (s.f PWR.LEDGER_CNT'GRANT_CNT + 1) % 65536 ∧
        u.f PWR.LEDGER_STAT'USED = (s.ledgerUsed + r.tok) % 1024 ∧
        SameRegsBut ([PWR.LEDGER_STAT, PWR.LEDGER_CNT] ++ (upto 7).map PWR.LEDGER_CLASS ++ (upto 64).map (PERF.HIST_BIN 14)) s u ∧
        SameMem s u ∧ t = u.grantUse r)) ∧
  (∀ (s : State) (t : Int), t < 125 ∨ s.rst.coolHold = true →
    Gives (exec (.thermalSample t) s) fun u =>
      u.f PWR.THERM_STAT'T_DIE = uN 9 (satI 9 t) ∧
      (s.pwr.thermNs ≠ 0 → s.domOn pdTIME = true → 0 < dtIncr s.time.rate → s.pwr.thermNs - 1 + 100000 ≤ u.ns) ∧
      u.b PWR.THERM_STAT'WARN = decide ((s.f PWR.THERM_CFG'T_WARN : Int) ≤ t) ∧
      u.b PWR.THERM_STAT'THROTTLE = (s.b PWR.THERM_STAT'THROTTLE || decide ((s.f PWR.THERM_CFG'T_THROT : Int) ≤ t)) ∧
      (u.pwr.coolFrom = 0 ↔ (s.f PWR.THERM_CFG'T_THROT : Int) - 5 < t) ∧
      ((s.f PWR.THERM_CFG'T_WARN : Int) ≤ t → s.b PWR.THERM_STAT'WARN = false → u.evtPending 12 = true) ∧
      SameRegsBut ([PWR.THERM_STAT, PWR.LEDGER_STAT, EVT.EVT_PEND 0, TIME.SLEW_LEFT] ++ (upto 7).map PWR.LEDGER_CLASS) s u ∧ SameMem s u) ∧
  (∀ s : State,
    (s.pwr.coolFrom ≠ 0 → Gives (exec .throttleClear s) fun t =>
      t.b PWR.THERM_STAT'THROTTLE = false ∧ (s.domOn pdTIME = true → 0 < dtIncr s.time.rate → s.pwr.coolFrom - 1 + 1000000000 ≤ t.ns) ∧
      SameRegsBut ([PWR.THERM_STAT, PWR.LEDGER_STAT, TIME.SLEW_LEFT] ++ (upto 7).map PWR.LEDGER_CLASS) s t ∧ SameMem s t) ∧
    (s.pwr.coolFrom = 0 → exec .throttleClear s = .next s))

namespace Sys2Proof.Machine

/-- A reset of the domains `l` runs from a module at rest (R543, R546, R548): they are out of release, waiting in the order of
R548 with the cause that will be recorded; a reach with TIME or CTL leads to M0 without an image; the backup registers stay. -/
def ResetRuns (s t : State) (l : List Nat) (cause inst : Nat) : Prop :=
  t.rst.seq = releaseOrder.filter l.contains ∧ t.rst.reach = listMask l ∧ t.rst.cause = cause ∧ t.rst.inst = inst ∧
    t.b RST.RST_STAT'SEQ_BUSY = true ∧ (∀ d, d < 16 → t.released d = (s.released d && !l.contains d)) ∧
    ((l.contains pdTIME || l.contains pdCTL) = true → t.mode = 0 ∧ t.imgValid = false) ∧ (∀ i, i < 16 → t.rd (RST.BKP i) = s.rd (RST.BKP i))

/-- No release sequence runs, and the module is not in P3. -/
def AtRest (s : State) : Prop := s.rst.seq = [] ∧ s.rst.wakeSeq = false ∧ s.f PWR.PWR_STAT'STATE ≠ 3

/-- A full reset has taken effect (R536, R543, R552): only AON is released, the mode is M0, no image is in force, no event
pends, the options are to be loaded, the straps are sampled. -/
def FullyReset (t : State) (cause straps : Nat) : Prop :=
  t.f RST.RST_STAT'RELEASED = 1 ∧ t.mode = 0 ∧ t.imgValid = false ∧ (∀ e, e < 256 → t.evtPending e = false) ∧
    t.b RST.RST_STAT'OPTIONS_VALID = false ∧ t.rst.seq = releaseOrder ∧ t.rst.reach = 0xFFFF ∧ t.rst.cause = cause ∧
    t.f RST.RST_STRAP'PAIR_ROLE = straps / 256 % 2 ∧ t.f RST.RST_STRAP'SLOT_ID = straps / 16 % 8 ∧
    t.f RST.RST_STRAP'CLK_MODE = straps / 4 % 4 ∧ t.f RST.RST_STRAP'BOOT_SRC = straps % 4

end Sys2Proof.Machine

/-- POR, SUPPLY and RESET_N reset all domains, sample the straps and keep BKP and the lower retained SRAM, which POR
clears. Each other source of R544 resets its reach, with M0 and no image where TIME or CTL is in it. A first core
watchdog restarts the core alone and is recorded as 0x05; a second within 1 s takes its cluster. RST_BLK holds
domains, not the writer's own. The option load ends valid or in OPT_FAIL. A domain due is released after its 256
cycles and RST_GAP when clock-good, else pends; the last one records the reset with EVT[8]. REF qualifies, is lost and
restored; PLL_NET unlocks and relocks. Rules: R307, R330, R538, R539, R540, R541, R542, R543, R544, R545, R547, R548,
R549, R551, R552, R556, R568. -/
def Obligations.ResetsReachTheirDomains : Prop :=
  (∀ (s : State) (straps : BitVec 9),
    Gives (exec (.powerOnReset straps) s) (fun t =>
      FullyReset t 0x01 straps.toNat ∧ (∀ i, i < 16 → t.rdN (RST.BKP i) = 0) ∧ (∀ i, i < 8192 → t.rdN (RST.RSRAM i) = 0) ∧
      t.f RST.RST_CNT'FULL_CNT = 0 ∧ t.f PWR.THERM_STAT'TRIP_CNT = 0) ∧
    (∀ low, low < 1000 → exec (.resetNAssert ⟨straps, low⟩) s = .next s) ∧
    ∀ low, 1000 ≤ low → ∀ c, c ∈ [(Instr.supplyReset straps, 0x02), (Instr.resetNAssert ⟨straps, low⟩, 0x03)] → Gives (exec c.1 s) fun t =>
      FullyReset t c.2 straps.toNat ∧ (∀ i, i < 16 → t.rd (RST.BKP i) = s.rd (RST.BKP i)) ∧
      (∀ i, i < 8192 → t.rd (RST.RSRAM i) = s.rd (RST.RSRAM i)) ∧ t.rd RST.RST_CNT = s.rd RST.RST_CNT ∧
      t.f PWR.THERM_STAT'TRIP_CNT = s.f PWR.THERM_STAT'TRIP_CNT) ∧
  (∀ s : State, AtRest s →
    Gives (exec .pcieHotReset s) (fun t => ResetRuns s t [pdHOST] 0x04 0 ∧ t.mode = s.mode ∧ t.b SYS.HOST_CFG'PCIE_UP = false) ∧
    (s.released pdLIVE = true → Gives (exec .liveWatchdogExpiry s) fun t => ResetRuns s t [pdLIVE] 0x08 0 ∧ t.chOk true = false) ∧
    (s.released pdDEAD = true → ∀ unlock, Gives (exec (.deadCentreDemand unlock) s) fun t =>
      ResetRuns s t reachDemand 0x09 0 ∧ (unlock = true → t.b CLK.CLK_ERR'MAIN_UNLOCK = true)) ∧
    (∀ live, s.released (if live then pdLIVE else pdDEAD) = true → Gives (exec (.safetyRamError live) s) fun t =>
      ResetRuns s t [if live then pdLIVE else pdDEAD] (if live then 0x0B else 0x0A) 0 ∧ t.chOk live = false) ∧
    Gives (exec .imageShadowError s) (fun t => ResetRuns s t reachSystem 0x0C 0) ∧
    (s.domOn pdCTL = true → Gives (exec .engineParityError s) fun t => ResetRuns s t reachSystem 0x0D 0) ∧
    (s.domOn pdTIME = true → Gives (exec .dtParityError s) fun t => ResetRuns s t reachSystem 0x0E 0) ∧
    (∀ t, 125 ≤ t → s.rst.coolHold = false → Gives (exec (.thermalSample t) s) fun u =>
      ResetRuns s u reachSystem 0x0F 0 ∧ u.rst.coolHold = true ∧
      u.f PWR.THERM_STAT'TRIP_CNT = min 255 (s.f PWR.THERM_STAT'TRIP_CNT + 1)) ∧
    (∀ w v, s.takesWrite w RST.RST_CTRL = true → Gives (exec (.sysRst w v) s) fun t =>
      if s.hostOrSupv w = true then ResetRuns s t reachSystem 0x10 0
      else t.b RST.RST_ERR'REFUSED = true ∧ SameRegsBut [RST.RST_ERR] s t ∧ SameMem s t) ∧
    (∀ c j, s.domOn pdMEM = true → s.b CHUCK.CHUCK_WDOG_CFG'EN = true → c < 16 → s.coreIdle c = true → j ∈ s.chuck.pool →
      s.takes c j = true → Gives (exec .chuckWatchdogExpiry s) fun t =>
        ResetRuns s t [pdMEM] 0x07 0 ∧ t.evtPending 112 = true ∧
        (s.domOn pdTIME = true → 0 < dtIncr s.time.rate → s.chuckStall.chuck.stallFrom - 1 + 1000 * s.f CHUCK.CHUCK_WDOG_CFG'TIMEOUT ≤ t.ns)) ∧
    (∀ n : Fin 16, s.domOn (pdGC (n.val / 4)) = true → s.b (GC.GC_WDOG_CFG'EN n) = true → s.coreSt n ≠ gsHALTED → s.coreSt n ≠ gsRESET →
      have u := s.advanceTo (s.ns + (us (s.f (GC.GC_WDOG_CFG'TIMEOUT n)) - s.wdCount n))
      Gives (exec (.coreWatchdogExpiry n) s) fun t =>
        t.evtPending (96 + n.val) = true ∧
        (if (s.rst.coreWdNs.any fun p => p.1 == n.val && decide (u.ns + 1 ≤ p.2 + 1000000000)) = true then
          ResetRuns s t [pdGC (n.val / 4)] 0x06 n
        else t.f RST.RST_CAUSE'CAUSE = 0x05 ∧ t.f RST.RST_CAUSE'INST = n.val ∧ t.evtPending 8 = true ∧
          t.f RST.RST_CNT'TOTAL_CNT = min 65535 (s.f RST.RST_CNT'TOTAL_CNT + 1) ∧
          t.coreSt n = (if bitsOf (s.rd GC.GC_BOOT_CFG) (2 * n.val + 1) (2 * n.val) = 1 then gsRUNNING else gsHALTED)))) ∧
  (∀ (s : State) (w : Req) (v : Word), s.takesWrite w RST.RST_BLK = true →
    have own := match w with | .core n => pdGC (n / 4) | _ => pdHOST
    Gives (exec (.rstBlkWrite w v) s) fun t =>
      if s.hostOrSupv w = false then t.b RST.RST_ERR'REFUSED = true ∧ SameRegsBut [RST.RST_ERR] s t ∧ SameMem s t
      else (∀ d, d ∈ releaseOrder → d ≠ pdDEAD → d ≠ pdLIVE → (bit v.toNat d = false ∨ d ≠ own) →
          t.fbit RST.RST_BLK'HOLD d = bit v.toNat d ∧
          (bit v.toNat d = true → s.fbit RST.RST_BLK'HOLD d = false → t.released d = false)) ∧
        (bit v.toNat own = true → s.fbit RST.RST_BLK'HOLD own = false →
          t.fbit RST.RST_BLK'HOLD own = false ∧ t.b RST.RST_ERR'SELF = true)) ∧
  (∀ s : State, s.b RST.RST_STAT'OPTIONS_VALID = false → s.b RST.RST_STAT'OPT_FAIL = false →
    Gives (exec .optionLoadDone s) fun t =>
      (if s.optA.good = false ∧ s.optB.good = false then t.b RST.RST_STAT'OPT_FAIL = true ∧ SameRegsBut [RST.RST_STAT] s t
      else t.b RST.RST_STAT'OPTIONS_VALID = true ∧ t.f RST.RST_STAT'OPT_COPY = (if s.optA.good then 1 else 2) ∧
        t.b RST.RST_STAT'SEQ_BUSY = true ∧
        (s.rst.cause = 1 → t.f RST.RST_GAP'RST_GAP = (if s.optA.good then s.optA.gap else s.optB.gap) % 8192) ∧
        (s.rst.cause ≠ 1 → t.rd RST.RST_GAP = s.rd RST.RST_GAP) ∧ SameRegsBut [RST.RST_STAT, RST.RST_GAP] s t) ∧ SameMem s t) ∧
  (∀ (s : State) (d : Fin 16) (q : List Nat), s.b RST.RST_STAT'OPTIONS_VALID = true →
    (s.rst.coolHold = false ∨ d.val ∉ reachSystem) → s.rst.seq = d.val :: q → s.fbit RST.RST_BLK'HOLD d = false →
    Gives (exec (.domainRelease d true) s) (fun t =>
      s.heldUntil d ≤ t.time.ticks ∧ (s.rst.gapTick ≠ 0 → s.rst.gapTick - 1 + 16 * s.f RST.RST_GAP'RST_GAP ≤ t.time.ticks) ∧
      t.released d = true ∧ t.domOn d = true ∧ t.fbit CLK.CLK_STAT'CLK_GOOD d = true ∧ t.rst.seq = q ∧
      (q = [] → t.b RST.RST_STAT'SEQ_BUSY = false) ∧
      (q = [] → s.rst.wakeSeq = false → t.f RST.RST_CAUSE'CAUSE = s.rst.cause % 256 ∧ t.f RST.RST_CAUSE'DOMAINS = s.rst.reach % 65536 ∧
        t.f RST.RST_CNT'TOTAL_CNT = min 65535 (s.f RST.RST_CNT'TOTAL_CNT + 1) ∧ t.evtPending 8 = true)) ∧
    Gives (exec (.domainRelease d false) s) fun t =>
      t.fbit RST.RST_PEND'PEND d = true ∧ t.released d = s.released d ∧ t.rst = s.rst ∧ SameRegsBut [RST.RST_PEND, TIME.SLEW_LEFT] s t ∧ SameMem s t) ∧
  (∀ s : State, s.rst.coolHold = true → s.tDie ≤ 100 →
    Gives (exec .thermalRelease s) fun t => t.rst.coolHold = false ∧ SameRegsBut [] s t ∧ SameMem s t) ∧
  (∀ (s : State) (x : Int) (n : Nat), s.clkMode ≠ 0 →
    (n < 1000000 → exec (.refQualified ⟨x, n⟩) s = .next s) ∧ (-200 ≤ x → x ≤ 200 → n < 10 → exec (.refLost ⟨x, n⟩) s = .next s) ∧
    (-50 ≤ x → x ≤ 50 → 1000000 ≤ n → (s.clkMode = 3 → s.upstream = true) → Gives (exec (.refQualified ⟨x, n⟩) s) fun t =>
      t.b CLK.CLK_STAT'EXT_OK = true ∧ t.f CLK.CLK_MEAS'PPM = uN 16 x ∧
      (s.f CLK.CLK_STAT'REF_SRC = 0 → (s.clk.switchedOnce = false ∨ s.clk.restoreArmed = true) →
        t.f CLK.CLK_STAT'REF_SRC = s.clkMode ∧ t.b CLK.CLK_STAT'REF_FALLBACK = false) ∧
      (s.f CLK.CLK_STAT'REF_SRC = 0 → s.clk.switchedOnce = true → s.clk.restoreArmed = false → t.f CLK.CLK_STAT'REF_SRC = 0) ∧
      SameRegsBut [CLK.CLK_STAT, CLK.CLK_MEAS] s t ∧ SameMem s t) ∧
    (s.f CLK.CLK_STAT'REF_SRC ≠ 0 → (x < -200 ∨ 200 < x ∨ 10 ≤ n) → Gives (exec (.refLost ⟨x, n⟩) s) fun t =>
      t.f CLK.CLK_STAT'REF_SRC = 0 ∧ t.b CLK.CLK_STAT'REF_FALLBACK = true ∧ t.b CLK.CLK_STAT'EXT_OK = false ∧
      t.b CLK.CLK_ERR'REF_LOST = true ∧ t.evtPending 9 = true ∧
      SameRegsBut [CLK.CLK_STAT, CLK.CLK_MEAS, CLK.CLK_ERR, EVT.EVT_PEND 0] s t ∧ SameMem s t) ∧
    (∀ w v, s.takesWrite w CLK.CLK_CMD = true → s.f CLK.CLK_STAT'REF_SRC = 0 → Gives (exec (.refRestore w v) s) fun t =>
      (if s.b CLK.CLK_STAT'EXT_OK = true then t.f CLK.CLK_STAT'REF_SRC = s.clkMode ∧ t.b CLK.CLK_STAT'REF_FALLBACK = false
        else t.clk.restoreArmed = true ∧ t.rd CLK.CLK_STAT = s.rd CLK.CLK_STAT) ∧ SameRegsBut [CLK.CLK_STAT] s t ∧ SameMem s t)) ∧
  (∀ s : State,
    (s.b CLK.CLK_STAT'NET_LOCK = true → Gives (exec .netPllUnlock s) fun t =>
      t.b CLK.CLK_STAT'NET_LOCK = false ∧ t.b CLK.CLK_ERR'NET_UNLOCK = true ∧ t.evtPending 9 = true ∧
      (∀ p, p < 2 → t.b (NET.NET_STAT'LINK p) = false) ∧
      (∀ a, a / 0x10000 ∉ [0x02, 0x03, 0x140] → a ∉ [NET.NET_STAT 0, NET.NET_STAT 1] → t.rd a = s.rd a) ∧ SameMem s t) ∧
    (s.b CLK.CLK_CFG'NET_EN = true → Gives (exec .netPllRelock s) fun t =>
      t.b CLK.CLK_STAT'NET_LOCK = true ∧ SameRegsBut [CLK.CLK_STAT] s t ∧ SameMem s t)) ∧
  (∀ (s : State) (d : Fin 16), d.val ≠ 0 → s.fbit CLK.CLK_STAT'CLK_GOOD d = true →
    Gives (exec (.clockGoodLoss d) s) fun t =>
      t.fbit CLK.CLK_STAT'CLK_GOOD d = false ∧
      (s.released d = true → t.b CLK.CLK_ERR'DOM_CLK = true ∧ t.evtPending 9 = true) ∧
      SameRegsBut [CLK.CLK_STAT, CLK.CLK_ERR, EVT.EVT_PEND 0] s t ∧ SameMem s t)

/-- In the state right after reset RST_STAT.RELEASED shows AON alone, the other domains wait in the order of R548, the
mode is M0 with no image in force and its boot load to come, no event pends, device time stands at 0 without
boundaries, every register reads the value of its Reset column (PART of CHIP_ID: 0x6408), no command waits, and
registers and memory are in canonical form. That every byte of memory reads 0 is the model's choice (log entry 5).
Rules: R518, R523, R546, R548. -/
def Obligations.ResetStateHoldsTheSpecValues : Prop :=
  have s := State.reset
  s.f RST.RST_STAT'RELEASED = 1 ∧ s.rst.seq = releaseOrder ∧ s.rst.cause = 1 ∧ s.mode = 0 ∧ s.imgValid = false ∧
  s.sys.bootPend = true ∧ s.sys.loading = false ∧ (∀ e, e < 256 → s.evtPending e = false) ∧ s.ns = 0 ∧ s.cycRun = false ∧
  s.f SYS.CHIP_ID'PART = 0x6408 ∧ s.b RST.RST_STAT'OPTIONS_VALID = false ∧ s.pending = [] ∧ s.canonical ∧
  (∀ a, s.rd a = regReset a) ∧ (∀ a, s.ldb a = 0)

/-- From every state whose registers and memory are in canonical form (keys rising, no cell equal to its default),
whatever command stands at the front of its queue, a step that answers a next state leaves them in canonical form, so
that equal contents stay equal data; the queue has lost its front command and nothing else; and neither copy of the
option and trim area has changed, which no reset and no command writes. Rules: R551. -/
def Obligations.EveryStepKeepsCanonicalForm : Prop :=
  ∀ s t : State, s.canonical → step s = .next t →
    t.canonical ∧ t.pending = s.pending.tail ∧ t.optA = s.optA ∧ t.optB = s.optB
end

