-- ==== Sys2Proof/Laws/Sparse.lean ====
section
/-!
SUPPORT. What reading, writing and clearing a sparse map do: a read after a write, every other key, and the canonical
form.
-/
namespace Sys2Proof.Machine

theorem lookupCell_dropCell_self {α : Type} (k : Nat) (l : List (Nat × α)) : lookupCell k (dropCell k l) = none := by
  induction l with
  | nil => rfl
  | cons c t ih => obtain ⟨j, v⟩ := c; by_cases h : j = k <;> simp [dropCell, lookupCell, h, ih]

theorem lookupCell_dropCell_ne {α : Type} {k j : Nat} (h : j ≠ k) (l : List (Nat × α)) :
    lookupCell j (dropCell k l) = lookupCell j l := by
  induction l with
  | nil => rfl
  | cons c t ih =>
    obtain ⟨i, v⟩ := c
    by_cases hi : i = k
    · have : i ≠ j := by omega
      simp [dropCell, lookupCell, hi, ih]; omega
    · simp [dropCell, lookupCell, hi, ih]

theorem lookupCell_insertCell_self {α : Type} (k : Nat) (v : α) (l : List (Nat × α)) (h : lookupCell k l = none) :
    lookupCell k (insertCell k v l) = some v := by
  induction l with
  | nil => simp [insertCell, lookupCell]
  | cons c t ih =>
    obtain ⟨i, w⟩ := c
    by_cases hi : i = k
    · simp [lookupCell, hi] at h
    · simp only [lookupCell, hi, if_false] at h
      by_cases hk : k < i <;> simp [insertCell, hk, lookupCell, hi, ih h]

theorem lookupCell_insertCell_ne {α : Type} {k j : Nat} (h : j ≠ k) (v : α) (l : List (Nat × α)) :
    lookupCell j (insertCell k v l) = lookupCell j l := by
  induction l with
  | nil => simp [insertCell, lookupCell]; omega
  | cons c t ih =>
    obtain ⟨i, w⟩ := c
    by_cases hk : k < i
    · have : k ≠ j := by omega
      simp [insertCell, hk, lookupCell, this]
    · simp [insertCell, hk, lookupCell, ih]

/-- A key reads the value written to it. -/
@[simp] theorem Sparse.getD_put_self {α : Type} [DecidableEq α] (m : Sparse α) (k : Nat) (v d : α) :
    (m.put k v d).getD k d = v := by
  unfold Sparse.put Sparse.getD
  split
  · rename_i h; simp [lookupCell_dropCell_self, h]
  · simp [lookupCell_insertCell_self k v _ (lookupCell_dropCell_self k m.cells)]

/-- Every other key reads as before. -/
theorem Sparse.getD_put_ne {α : Type} [DecidableEq α] (m : Sparse α) {k j : Nat} (h : j ≠ k) (v d e : α) :
    (m.put k v d).getD j e = m.getD j e := by
  unfold Sparse.put Sparse.getD
  split
  · simp [lookupCell_dropCell_ne h]
  · simp [lookupCell_insertCell_ne h, lookupCell_dropCell_ne h]

@[simp] theorem Sparse.get_set_self {α : Type} [DecidableEq α] [Inhabited α] (m : Sparse α) (k : Nat) (v : α) :
    (m.set k v).get k = v := Sparse.getD_put_self m k v default

theorem Sparse.get_set_ne {α : Type} [DecidableEq α] [Inhabited α] (m : Sparse α) {k j : Nat} (h : j ≠ k) (v : α) :
    (m.set k v).get j = m.get j := Sparse.getD_put_ne m h v default default

theorem mem_dropCell {α : Type} {k : Nat} {l : List (Nat × α)} {c : Nat × α} (h : c ∈ dropCell k l) : c ∈ l ∧ c.1 ≠ k := by
  induction l with
  | nil => simp [dropCell] at h
  | cons a t ih =>
    obtain ⟨i, v⟩ := a
    by_cases hi : i = k
    · simp only [dropCell, hi, if_true] at h
      exact ⟨List.mem_cons_of_mem _ (ih h).1, (ih h).2⟩
    · simp only [dropCell, hi, if_false, List.mem_cons] at h
      rcases h with rfl | h
      · exact ⟨List.mem_cons_self .., hi⟩
      · exact ⟨List.mem_cons_of_mem _ (ih h).1, (ih h).2⟩

theorem mem_insertCell {α : Type} {k : Nat} {v : α} {l : List (Nat × α)} {c : Nat × α} (h : c ∈ insertCell k v l) :
    c = (k, v) ∨ c ∈ l := by
  induction l with
  | nil => simpa [insertCell] using h
  | cons a t ih =>
    obtain ⟨i, w⟩ := a
    by_cases hk : k < i
    · simpa [insertCell, hk] using h
    · simp only [insertCell, hk, if_false, List.mem_cons] at h
      rcases h with rfl | h
      · simp
      · rcases ih h with h | h <;> simp [h]

theorem pairwise_dropCell {α : Type} (k : Nat) {l : List (Nat × α)} (h : l.Pairwise (fun a b => a.1 < b.1)) :
    (dropCell k l).Pairwise (fun a b => a.1 < b.1) := by
  induction l with
  | nil => simpa [dropCell] using h
  | cons a t ih =>
    obtain ⟨i, v⟩ := a
    rw [List.pairwise_cons] at h
    by_cases hi : i = k
    · simpa [dropCell, hi] using ih h.2
    · simp only [dropCell, hi, if_false, List.pairwise_cons]
      exact ⟨fun c hc => h.1 c (mem_dropCell hc).1, ih h.2⟩

theorem pairwise_insertCell {α : Type} {k : Nat} (v : α) {l : List (Nat × α)} (h : l.Pairwise (fun a b => a.1 < b.1))
    (hk : ∀ c ∈ l, c.1 ≠ k) : (insertCell k v l).Pairwise (fun a b => a.1 < b.1) := by
  induction l with
  | nil => simp [insertCell]
  | cons a t ih =>
    obtain ⟨i, w⟩ := a
    rw [List.pairwise_cons] at h
    have hik : i ≠ k := hk (i, w) (List.mem_cons_self ..)
    by_cases hlt : k < i
    · simp only [insertCell, hlt, if_true, List.pairwise_cons, List.mem_cons]
      refine ⟨?_, h.1, h.2⟩
      rintro c (rfl | hc)
      · exact hlt
      · exact Nat.lt_trans hlt (h.1 c hc)
    · simp only [insertCell, hlt, if_false, List.pairwise_cons]
      refine ⟨?_, ih h.2 (fun c hc => hk c (List.mem_cons_of_mem _ hc))⟩
      intro c hc
      rcases mem_insertCell hc with rfl | hc
      · show i < k; omega
      · exact h.1 c hc

theorem Sparse.wf_iff {α : Type} [DecidableEq α] (m : Sparse α) (d : Nat → α) :
    m.wf d = true ↔ m.cells.Pairwise (fun a b => a.1 < b.1) ∧ ∀ c ∈ m.cells, c.2 ≠ d c.1 := by
  simp [Sparse.wf]

/-- Writing keeps the canonical form. -/
theorem Sparse.put_wf {α : Type} [DecidableEq α] {m : Sparse α} {d : Nat → α} (h : m.wf d = true) (k : Nat) (v : α) :
    (m.put k v (d k)).wf d = true := by
  rw [Sparse.wf_iff] at h ⊢
  unfold Sparse.put
  split
  · exact ⟨pairwise_dropCell k h.1, fun c hc => h.2 c (mem_dropCell hc).1⟩
  · rename_i hv
    refine ⟨pairwise_insertCell v (pairwise_dropCell k h.1) (fun c hc => (mem_dropCell hc).2), fun c hc => ?_⟩
    rcases mem_insertCell hc with rfl | hc
    · exact hv
    · exact h.2 c (mem_dropCell hc).1

/-- Clearing keeps the canonical form. -/
theorem Sparse.clearIf_wf {α : Type} [DecidableEq α] {m : Sparse α} {d : Nat → α} (h : m.wf d = true) (p : Nat → Bool) :
    (m.clearIf p).wf d = true := by
  rw [Sparse.wf_iff] at h ⊢
  exact ⟨h.1.filter _, fun c hc => h.2 c (List.mem_filter.mp hc).1⟩

theorem lookupCell_filter {α : Type} (p : Nat → Bool) (k : Nat) (l : List (Nat × α)) :
    lookupCell k (l.filter (fun c => !p c.1)) = if p k then none else lookupCell k l := by
  induction l with
  | nil => simp [lookupCell]
  | cons c t ih =>
    obtain ⟨i, v⟩ := c
    by_cases hi : i = k
    · subst hi; cases hp : p i <;> simp [hp, lookupCell, ih]
    · cases hp : p i <;> simp [hp, lookupCell, ih, hi]

/-- A cleared key reads its default, every other key as before. -/
theorem Sparse.getD_clearIf {α : Type} (m : Sparse α) (p : Nat → Bool) (k : Nat) (d : α) :
    (m.clearIf p).getD k d = if p k then d else m.getD k d := by
  unfold Sparse.clearIf Sparse.getD
  rw [lookupCell_filter]
  cases p k <;> simp

theorem mem_update {α : Type} [DecidableEq α] {f : Nat → α → α} {d : Nat → α} {m : Sparse α} {c : Nat × α}
    (h : c ∈ (m.update f d).cells) : (∃ b ∈ m.cells, b.1 = c.1) ∧ c.2 ≠ d c.1 := by
  simp only [Sparse.update, List.mem_filterMap] at h
  obtain ⟨b, hb, h⟩ := h
  split at h
  · cases h
  · rename_i hn; cases h; exact ⟨⟨b, hb, rfl⟩, hn⟩

/-- Changing every cell keeps the canonical form. -/
theorem Sparse.update_wf {α : Type} [DecidableEq α] {m : Sparse α} {d : Nat → α} (f : Nat → α → α) (h : m.wf d = true) :
    (m.update f d).wf d = true := by
  rw [Sparse.wf_iff] at h ⊢
  refine ⟨?_, fun c hc => (mem_update hc).2⟩
  refine List.Pairwise.filterMap _ ?_ h.1
  intro a a' hlt b hb b' hb'
  split at hb
  · simp at hb
  · split at hb'
    · simp at hb'
    · simp at hb hb'; subst hb; subst hb'; exact hlt

theorem lookupCell_none {α : Type} {k : Nat} {l : List (Nat × α)} (h : ∀ c ∈ l, c.1 ≠ k) : lookupCell k l = none := by
  induction l with
  | nil => rfl
  | cons c t ih =>
    obtain ⟨i, v⟩ := c
    have hi : i ≠ k := h (i, v) (List.mem_cons_self ..)
    simp only [lookupCell, hi, if_false]
    exact ih (fun c hc => h c (List.mem_cons_of_mem _ hc))

theorem lookupCell_filterMap {α : Type} [DecidableEq α] (f : Nat → α → α) (d : Nat → α) (k : Nat) (l : List (Nat × α))
    (h : l.Pairwise (fun a b => a.1 < b.1)) :
    (lookupCell k (l.filterMap (fun c => if f c.1 c.2 = d c.1 then none else some (c.1, f c.1 c.2)))).getD (d k) =
      match lookupCell k l with | some v => f k v | none => d k := by
  induction l with
  | nil => rfl
  | cons c t ih =>
    obtain ⟨i, v⟩ := c
    rw [List.pairwise_cons] at h
    have ih := ih h.2
    by_cases hi : i = k
    · subst hi
      have gone : lookupCell i t = none := lookupCell_none (fun c hc => by have := h.1 c hc; omega)
      rw [gone] at ih
      by_cases hf : f i v = d i
      · simp [hf, lookupCell, ih]
      · simp [hf, lookupCell]
    · by_cases hf : f i v = d i
      · simp [hf, lookupCell, hi, ih]
      · simp [hf, lookupCell, hi, ih]

/-- A listed key of a canonical map reads `f` of what it read; an unlisted one, of which `f` keeps the default, too. -/
theorem Sparse.getD_update {α : Type} [DecidableEq α] {m : Sparse α} {d : Nat → α} (f : Nat → α → α) (h : m.wf d = true)
    (k : Nat) (hk : f k (d k) = d k) : (m.update f d).getD k (d k) = f k (m.getD k (d k)) := by
  rw [Sparse.wf_iff] at h
  unfold Sparse.update Sparse.getD
  rw [lookupCell_filterMap f d k m.cells h.1]
  cases lookupCell k m.cells <;> simp [hk]

/-- The empty map is canonical. -/
theorem Sparse.wf_nil {α : Type} [DecidableEq α] (d : Nat → α) : (⟨[]⟩ : Sparse α).wf d = true := by simp [Sparse.wf]

end Sys2Proof.Machine
end

