-- ==== Sys2Proof/Laws/State.lean ====
section
/-!
SUPPORT. The small lemmas of the state: what each named update leaves in each field, register fields read after a write,
and what an access to a register does before its block acts.
-/
namespace Sys2Proof.Machine
open Sys2Proof

/-! ### One lemma per field per update -/

@[simp] theorem State.wr_mem (s : State) (a : Nat) (v : Word) : (s.wr a v).mem = s.mem := rfl
@[simp] theorem State.wr_latches (s : State) (a : Nat) (v : Word) : (s.wr a v).latches = s.latches := rfl
@[simp] theorem State.wr_perReq (s : State) (a : Nat) (v : Word) : (s.wr a v).perReq = s.perReq := rfl
@[simp] theorem State.wr_optA (s : State) (a : Nat) (v : Word) : (s.wr a v).optA = s.optA := rfl
@[simp] theorem State.wr_optB (s : State) (a : Nat) (v : Word) : (s.wr a v).optB = s.optB := rfl
@[simp] theorem State.wr_sys (s : State) (a : Nat) (v : Word) : (s.wr a v).sys = s.sys := rfl
@[simp] theorem State.wr_rst (s : State) (a : Nat) (v : Word) : (s.wr a v).rst = s.rst := rfl
@[simp] theorem State.wr_clk (s : State) (a : Nat) (v : Word) : (s.wr a v).clk = s.clk := rfl
@[simp] theorem State.wr_pwr (s : State) (a : Nat) (v : Word) : (s.wr a v).pwr = s.pwr := rfl
@[simp] theorem State.wr_adc (s : State) (a : Nat) (v : Word) : (s.wr a v).adc = s.adc := rfl
@[simp] theorem State.wr_pwm (s : State) (a : Nat) (v : Word) : (s.wr a v).pwm = s.pwm := rfl
@[simp] theorem State.wr_blk (s : State) (a : Nat) (v : Word) : (s.wr a v).blk = s.blk := rfl
@[simp] theorem State.wr_fb (s : State) (a : Nat) (v : Word) : (s.wr a v).fb = s.fb := rfl
@[simp] theorem State.wr_ctl (s : State) (a : Nat) (v : Word) : (s.wr a v).ctl = s.ctl := rfl
@[simp] theorem State.wr_prf (s : State) (a : Nat) (v : Word) : (s.wr a v).prf = s.prf := rfl
@[simp] theorem State.wr_trj (s : State) (a : Nat) (v : Word) : (s.wr a v).trj = s.trj := rfl
@[simp] theorem State.wr_face (s : State) (a : Nat) (v : Word) : (s.wr a v).face = s.face := rfl
@[simp] theorem State.wr_rough (s : State) (a : Nat) (v : Word) : (s.wr a v).rough = s.rough := rfl
@[simp] theorem State.wr_gc (s : State) (a : Nat) (v : Word) : (s.wr a v).gc = s.gc := rfl
@[simp] theorem State.wr_chuck (s : State) (a : Nat) (v : Word) : (s.wr a v).chuck = s.chuck := rfl
@[simp] theorem State.wr_safe (s : State) (a : Nat) (v : Word) : (s.wr a v).safe = s.safe := rfl
@[simp] theorem State.wr_port (s : State) (a : Nat) (v : Word) : (s.wr a v).port = s.port := rfl
@[simp] theorem State.wr_srt (s : State) (a : Nat) (v : Word) : (s.wr a v).srt = s.srt := rfl
@[simp] theorem State.wr_time (s : State) (a : Nat) (v : Word) : (s.wr a v).time = s.time := rfl
@[simp] theorem State.wr_net (s : State) (a : Nat) (v : Word) : (s.wr a v).net = s.net := rfl
@[simp] theorem State.wr_fyv (s : State) (a : Nat) (v : Word) : (s.wr a v).fyv = s.fyv := rfl
@[simp] theorem State.wr_dio (s : State) (a : Nat) (v : Word) : (s.wr a v).dio = s.dio := rfl
@[simp] theorem State.wr_nand (s : State) (a : Nat) (v : Word) : (s.wr a v).nand = s.nand := rfl
@[simp] theorem State.wr_evt (s : State) (a : Nat) (v : Word) : (s.wr a v).evt = s.evt := rfl
@[simp] theorem State.wr_perf (s : State) (a : Nat) (v : Word) : (s.wr a v).perf = s.perf := rfl
@[simp] theorem State.wr_cfg (s : State) (a : Nat) (v : Word) : (s.wr a v).cfg = s.cfg := rfl
@[simp] theorem State.wr_resp (s : State) (a : Nat) (v : Word) : (s.wr a v).resp = s.resp := rfl
@[simp] theorem State.wr_freeN (s : State) (a : Nat) (v : Word) : (s.wr a v).freeN = s.freeN := rfl
@[simp] theorem State.wr_pending (s : State) (a : Nat) (v : Word) : (s.wr a v).pending = s.pending := rfl

@[simp] theorem State.stb_regs (s : State) (a v : Nat) : (s.stb a v).regs = s.regs := rfl
@[simp] theorem State.stb_latches (s : State) (a v : Nat) : (s.stb a v).latches = s.latches := rfl
@[simp] theorem State.stb_perReq (s : State) (a v : Nat) : (s.stb a v).perReq = s.perReq := rfl
@[simp] theorem State.stb_optA (s : State) (a v : Nat) : (s.stb a v).optA = s.optA := rfl
@[simp] theorem State.stb_optB (s : State) (a v : Nat) : (s.stb a v).optB = s.optB := rfl
@[simp] theorem State.stb_sys (s : State) (a v : Nat) : (s.stb a v).sys = s.sys := rfl
@[simp] theorem State.stb_rst (s : State) (a v : Nat) : (s.stb a v).rst = s.rst := rfl
@[simp] theorem State.stb_clk (s : State) (a v : Nat) : (s.stb a v).clk = s.clk := rfl
@[simp] theorem State.stb_pwr (s : State) (a v : Nat) : (s.stb a v).pwr = s.pwr := rfl
@[simp] theorem State.stb_adc (s : State) (a v : Nat) : (s.stb a v).adc = s.adc := rfl
@[simp] theorem State.stb_pwm (s : State) (a v : Nat) : (s.stb a v).pwm = s.pwm := rfl
@[simp] theorem State.stb_blk (s : State) (a v : Nat) : (s.stb a v).blk = s.blk := rfl
@[simp] theorem State.stb_fb (s : State) (a v : Nat) : (s.stb a v).fb = s.fb := rfl
@[simp] theorem State.stb_ctl (s : State) (a v : Nat) : (s.stb a v).ctl = s.ctl := rfl
@[simp] theorem State.stb_prf (s : State) (a v : Nat) : (s.stb a v).prf = s.prf := rfl
@[simp] theorem State.stb_trj (s : State) (a v : Nat) : (s.stb a v).trj = s.trj := rfl
@[simp] theorem State.stb_face (s : State) (a v : Nat) : (s.stb a v).face = s.face := rfl
@[simp] theorem State.stb_rough (s : State) (a v : Nat) : (s.stb a v).rough = s.rough := rfl
@[simp] theorem State.stb_gc (s : State) (a v : Nat) : (s.stb a v).gc = s.gc := rfl
@[simp] theorem State.stb_chuck (s : State) (a v : Nat) : (s.stb a v).chuck = s.chuck := rfl
@[simp] theorem State.stb_safe (s : State) (a v : Nat) : (s.stb a v).safe = s.safe := rfl
@[simp] theorem State.stb_port (s : State) (a v : Nat) : (s.stb a v).port = s.port := rfl
@[simp] theorem State.stb_srt (s : State) (a v : Nat) : (s.stb a v).srt = s.srt := rfl
@[simp] theorem State.stb_time (s : State) (a v : Nat) : (s.stb a v).time = s.time := rfl
@[simp] theorem State.stb_net (s : State) (a v : Nat) : (s.stb a v).net = s.net := rfl
@[simp] theorem State.stb_fyv (s : State) (a v : Nat) : (s.stb a v).fyv = s.fyv := rfl
@[simp] theorem State.stb_dio (s : State) (a v : Nat) : (s.stb a v).dio = s.dio := rfl
@[simp] theorem State.stb_nand (s : State) (a v : Nat) : (s.stb a v).nand = s.nand := rfl
@[simp] theorem State.stb_evt (s : State) (a v : Nat) : (s.stb a v).evt = s.evt := rfl
@[simp] theorem State.stb_perf (s : State) (a v : Nat) : (s.stb a v).perf = s.perf := rfl
@[simp] theorem State.stb_cfg (s : State) (a v : Nat) : (s.stb a v).cfg = s.cfg := rfl
@[simp] theorem State.stb_resp (s : State) (a v : Nat) : (s.stb a v).resp = s.resp := rfl
@[simp] theorem State.stb_freeN (s : State) (a v : Nat) : (s.stb a v).freeN = s.freeN := rfl
@[simp] theorem State.stb_pending (s : State) (a v : Nat) : (s.stb a v).pending = s.pending := rfl

@[simp] theorem State.count_regs (s : State) (b c k : Nat) : (s.count b c k).regs = s.regs := rfl
@[simp] theorem State.count_mem (s : State) (b c k : Nat) : (s.count b c k).mem = s.mem := rfl
@[simp] theorem State.count_latches (s : State) (b c k : Nat) : (s.count b c k).latches = s.latches := rfl
@[simp] theorem State.count_perReq (s : State) (b c k : Nat) : (s.count b c k).perReq = s.perReq := rfl
@[simp] theorem State.count_optA (s : State) (b c k : Nat) : (s.count b c k).optA = s.optA := rfl
@[simp] theorem State.count_optB (s : State) (b c k : Nat) : (s.count b c k).optB = s.optB := rfl
@[simp] theorem State.count_sys (s : State) (b c k : Nat) : (s.count b c k).sys = s.sys := rfl
@[simp] theorem State.count_rst (s : State) (b c k : Nat) : (s.count b c k).rst = s.rst := rfl
@[simp] theorem State.count_clk (s : State) (b c k : Nat) : (s.count b c k).clk = s.clk := rfl
@[simp] theorem State.count_pwr (s : State) (b c k : Nat) : (s.count b c k).pwr = s.pwr := rfl
@[simp] theorem State.count_adc (s : State) (b c k : Nat) : (s.count b c k).adc = s.adc := rfl
@[simp] theorem State.count_pwm (s : State) (b c k : Nat) : (s.count b c k).pwm = s.pwm := rfl
@[simp] theorem State.count_blk (s : State) (b c k : Nat) : (s.count b c k).blk = s.blk := rfl
@[simp] theorem State.count_fb (s : State) (b c k : Nat) : (s.count b c k).fb = s.fb := rfl
@[simp] theorem State.count_ctl (s : State) (b c k : Nat) : (s.count b c k).ctl = s.ctl := rfl
@[simp] theorem State.count_prf (s : State) (b c k : Nat) : (s.count b c k).prf = s.prf := rfl
@[simp] theorem State.count_trj (s : State) (b c k : Nat) : (s.count b c k).trj = s.trj := rfl
@[simp] theorem State.count_face (s : State) (b c k : Nat) : (s.count b c k).face = s.face := rfl
@[simp] theorem State.count_rough (s : State) (b c k : Nat) : (s.count b c k).rough = s.rough := rfl
@[simp] theorem State.count_gc (s : State) (b c k : Nat) : (s.count b c k).gc = s.gc := rfl
@[simp] theorem State.count_chuck (s : State) (b c k : Nat) : (s.count b c k).chuck = s.chuck := rfl
@[simp] theorem State.count_safe (s : State) (b c k : Nat) : (s.count b c k).safe = s.safe := rfl
@[simp] theorem State.count_port (s : State) (b c k : Nat) : (s.count b c k).port = s.port := rfl
@[simp] theorem State.count_srt (s : State) (b c k : Nat) : (s.count b c k).srt = s.srt := rfl
@[simp] theorem State.count_time (s : State) (b c k : Nat) : (s.count b c k).time = s.time := rfl
@[simp] theorem State.count_net (s : State) (b c k : Nat) : (s.count b c k).net = s.net := rfl
@[simp] theorem State.count_fyv (s : State) (b c k : Nat) : (s.count b c k).fyv = s.fyv := rfl
@[simp] theorem State.count_dio (s : State) (b c k : Nat) : (s.count b c k).dio = s.dio := rfl
@[simp] theorem State.count_nand (s : State) (b c k : Nat) : (s.count b c k).nand = s.nand := rfl
@[simp] theorem State.count_evt (s : State) (b c k : Nat) : (s.count b c k).evt = s.evt := rfl
@[simp] theorem State.count_cfg (s : State) (b c k : Nat) : (s.count b c k).cfg = s.cfg := rfl
@[simp] theorem State.count_resp (s : State) (b c k : Nat) : (s.count b c k).resp = s.resp := rfl
@[simp] theorem State.count_freeN (s : State) (b c k : Nat) : (s.count b c k).freeN = s.freeN := rfl
@[simp] theorem State.count_pending (s : State) (b c k : Nat) : (s.count b c k).pending = s.pending := rfl

@[simp] theorem State.answer_regs (s : State) (r : Answer) : (s.answer r).regs = s.regs := rfl
@[simp] theorem State.answer_mem (s : State) (r : Answer) : (s.answer r).mem = s.mem := rfl
@[simp] theorem State.answer_latches (s : State) (r : Answer) : (s.answer r).latches = s.latches := rfl
@[simp] theorem State.answer_perReq (s : State) (r : Answer) : (s.answer r).perReq = s.perReq := rfl
@[simp] theorem State.answer_optA (s : State) (r : Answer) : (s.answer r).optA = s.optA := rfl
@[simp] theorem State.answer_optB (s : State) (r : Answer) : (s.answer r).optB = s.optB := rfl
@[simp] theorem State.answer_sys (s : State) (r : Answer) : (s.answer r).sys = s.sys := rfl
@[simp] theorem State.answer_rst (s : State) (r : Answer) : (s.answer r).rst = s.rst := rfl
@[simp] theorem State.answer_clk (s : State) (r : Answer) : (s.answer r).clk = s.clk := rfl
@[simp] theorem State.answer_pwr (s : State) (r : Answer) : (s.answer r).pwr = s.pwr := rfl
@[simp] theorem State.answer_adc (s : State) (r : Answer) : (s.answer r).adc = s.adc := rfl
@[simp] theorem State.answer_pwm (s : State) (r : Answer) : (s.answer r).pwm = s.pwm := rfl
@[simp] theorem State.answer_blk (s : State) (r : Answer) : (s.answer r).blk = s.blk := rfl
@[simp] theorem State.answer_fb (s : State) (r : Answer) : (s.answer r).fb = s.fb := rfl
@[simp] theorem State.answer_ctl (s : State) (r : Answer) : (s.answer r).ctl = s.ctl := rfl
@[simp] theorem State.answer_prf (s : State) (r : Answer) : (s.answer r).prf = s.prf := rfl
@[simp] theorem State.answer_trj (s : State) (r : Answer) : (s.answer r).trj = s.trj := rfl
@[simp] theorem State.answer_face (s : State) (r : Answer) : (s.answer r).face = s.face := rfl
@[simp] theorem State.answer_rough (s : State) (r : Answer) : (s.answer r).rough = s.rough := rfl
@[simp] theorem State.answer_gc (s : State) (r : Answer) : (s.answer r).gc = s.gc := rfl
@[simp] theorem State.answer_chuck (s : State) (r : Answer) : (s.answer r).chuck = s.chuck := rfl
@[simp] theorem State.answer_safe (s : State) (r : Answer) : (s.answer r).safe = s.safe := rfl
@[simp] theorem State.answer_port (s : State) (r : Answer) : (s.answer r).port = s.port := rfl
@[simp] theorem State.answer_srt (s : State) (r : Answer) : (s.answer r).srt = s.srt := rfl
@[simp] theorem State.answer_time (s : State) (r : Answer) : (s.answer r).time = s.time := rfl
@[simp] theorem State.answer_net (s : State) (r : Answer) : (s.answer r).net = s.net := rfl
@[simp] theorem State.answer_fyv (s : State) (r : Answer) : (s.answer r).fyv = s.fyv := rfl
@[simp] theorem State.answer_dio (s : State) (r : Answer) : (s.answer r).dio = s.dio := rfl
@[simp] theorem State.answer_nand (s : State) (r : Answer) : (s.answer r).nand = s.nand := rfl
@[simp] theorem State.answer_evt (s : State) (r : Answer) : (s.answer r).evt = s.evt := rfl
@[simp] theorem State.answer_perf (s : State) (r : Answer) : (s.answer r).perf = s.perf := rfl
@[simp] theorem State.answer_cfg (s : State) (r : Answer) : (s.answer r).cfg = s.cfg := rfl
@[simp] theorem State.answer_freeN (s : State) (r : Answer) : (s.answer r).freeN = s.freeN := rfl
@[simp] theorem State.answer_pending (s : State) (r : Answer) : (s.answer r).pending = s.pending := rfl

@[simp] theorem State.latch_regs (s : State) (w : Req) (a v : Nat) : (s.latch w a v).regs = s.regs := rfl
@[simp] theorem State.latch_mem (s : State) (w : Req) (a v : Nat) : (s.latch w a v).mem = s.mem := rfl
@[simp] theorem State.latch_perReq (s : State) (w : Req) (a v : Nat) : (s.latch w a v).perReq = s.perReq := rfl
@[simp] theorem State.latch_optA (s : State) (w : Req) (a v : Nat) : (s.latch w a v).optA = s.optA := rfl
@[simp] theorem State.latch_optB (s : State) (w : Req) (a v : Nat) : (s.latch w a v).optB = s.optB := rfl
@[simp] theorem State.latch_sys (s : State) (w : Req) (a v : Nat) : (s.latch w a v).sys = s.sys := rfl
@[simp] theorem State.latch_rst (s : State) (w : Req) (a v : Nat) : (s.latch w a v).rst = s.rst := rfl
@[simp] theorem State.latch_clk (s : State) (w : Req) (a v : Nat) : (s.latch w a v).clk = s.clk := rfl
@[simp] theorem State.latch_pwr (s : State) (w : Req) (a v : Nat) : (s.latch w a v).pwr = s.pwr := rfl
@[simp] theorem State.latch_adc (s : State) (w : Req) (a v : Nat) : (s.latch w a v).adc = s.adc := rfl
@[simp] theorem State.latch_pwm (s : State) (w : Req) (a v : Nat) : (s.latch w a v).pwm = s.pwm := rfl
@[simp] theorem State.latch_blk (s : State) (w : Req) (a v : Nat) : (s.latch w a v).blk = s.blk := rfl
@[simp] theorem State.latch_fb (s : State) (w : Req) (a v : Nat) : (s.latch w a v).fb = s.fb := rfl
@[simp] theorem State.latch_ctl (s : State) (w : Req) (a v : Nat) : (s.latch w a v).ctl = s.ctl := rfl
@[simp] theorem State.latch_prf (s : State) (w : Req) (a v : Nat) : (s.latch w a v).prf = s.prf := rfl
@[simp] theorem State.latch_trj (s : State) (w : Req) (a v : Nat) : (s.latch w a v).trj = s.trj := rfl
@[simp] theorem State.latch_face (s : State) (w : Req) (a v : Nat) : (s.latch w a v).face = s.face := rfl
@[simp] theorem State.latch_rough (s : State) (w : Req) (a v : Nat) : (s.latch w a v).rough = s.rough := rfl
@[simp] theorem State.latch_gc (s : State) (w : Req) (a v : Nat) : (s.latch w a v).gc = s.gc := rfl
@[simp] theorem State.latch_chuck (s : State) (w : Req) (a v : Nat) : (s.latch w a v).chuck = s.chuck := rfl
@[simp] theorem State.latch_safe (s : State) (w : Req) (a v : Nat) : (s.latch w a v).safe = s.safe := rfl
@[simp] theorem State.latch_port (s : State) (w : Req) (a v : Nat) : (s.latch w a v).port = s.port := rfl
@[simp] theorem State.latch_srt (s : State) (w : Req) (a v : Nat) : (s.latch w a v).srt = s.srt := rfl
@[simp] theorem State.latch_time (s : State) (w : Req) (a v : Nat) : (s.latch w a v).time = s.time := rfl
@[simp] theorem State.latch_net (s : State) (w : Req) (a v : Nat) : (s.latch w a v).net = s.net := rfl
@[simp] theorem State.latch_fyv (s : State) (w : Req) (a v : Nat) : (s.latch w a v).fyv = s.fyv := rfl
@[simp] theorem State.latch_dio (s : State) (w : Req) (a v : Nat) : (s.latch w a v).dio = s.dio := rfl
@[simp] theorem State.latch_nand (s : State) (w : Req) (a v : Nat) : (s.latch w a v).nand = s.nand := rfl
@[simp] theorem State.latch_evt (s : State) (w : Req) (a v : Nat) : (s.latch w a v).evt = s.evt := rfl
@[simp] theorem State.latch_perf (s : State) (w : Req) (a v : Nat) : (s.latch w a v).perf = s.perf := rfl
@[simp] theorem State.latch_cfg (s : State) (w : Req) (a v : Nat) : (s.latch w a v).cfg = s.cfg := rfl
@[simp] theorem State.latch_resp (s : State) (w : Req) (a v : Nat) : (s.latch w a v).resp = s.resp := rfl
@[simp] theorem State.latch_freeN (s : State) (w : Req) (a v : Nat) : (s.latch w a v).freeN = s.freeN := rfl
@[simp] theorem State.latch_pending (s : State) (w : Req) (a v : Nat) : (s.latch w a v).pending = s.pending := rfl

@[simp] theorem State.wakeClock_regs (s : State) (d : Nat) : (s.wakeClock d).regs = s.regs := by
  unfold State.wakeClock; split <;> rfl
@[simp] theorem State.wakeClock_mem (s : State) (d : Nat) : (s.wakeClock d).mem = s.mem := by
  unfold State.wakeClock; split <;> rfl
@[simp] theorem State.wakeClock_latches (s : State) (d : Nat) : (s.wakeClock d).latches = s.latches := by
  unfold State.wakeClock; split <;> rfl
@[simp] theorem State.wakeClock_perReq (s : State) (d : Nat) : (s.wakeClock d).perReq = s.perReq := by
  unfold State.wakeClock; split <;> rfl
@[simp] theorem State.wakeClock_optA (s : State) (d : Nat) : (s.wakeClock d).optA = s.optA := by
  unfold State.wakeClock; split <;> rfl
@[simp] theorem State.wakeClock_optB (s : State) (d : Nat) : (s.wakeClock d).optB = s.optB := by
  unfold State.wakeClock; split <;> rfl
@[simp] theorem State.wakeClock_sys (s : State) (d : Nat) : (s.wakeClock d).sys = s.sys := by
  unfold State.wakeClock; split <;> rfl
@[simp] theorem State.wakeClock_rst (s : State) (d : Nat) : (s.wakeClock d).rst = s.rst := by
  unfold State.wakeClock; split <;> rfl
@[simp] theorem State.wakeClock_clk (s : State) (d : Nat) : (s.wakeClock d).clk = s.clk := by
  unfold State.wakeClock; split <;> rfl
@[simp] theorem State.wakeClock_adc (s : State) (d : Nat) : (s.wakeClock d).adc = s.adc := by
  unfold State.wakeClock; split <;> rfl
@[simp] theorem State.wakeClock_pwm (s : State) (d : Nat) : (s.wakeClock d).pwm = s.pwm := by
  unfold State.wakeClock; split <;> rfl
@[simp] theorem State.wakeClock_blk (s : State) (d : Nat) : (s.wakeClock d).blk = s.blk := by
  unfold State.wakeClock; split <;> rfl
@[simp] theorem State.wakeClock_fb (s : State) (d : Nat) : (s.wakeClock d).fb = s.fb := by
  unfold State.wakeClock; split <;> rfl
@[simp] theorem State.wakeClock_ctl (s : State) (d : Nat) : (s.wakeClock d).ctl = s.ctl := by
  unfold State.wakeClock; split <;> rfl
@[simp] theorem State.wakeClock_prf (s : State) (d : Nat) : (s.wakeClock d).prf = s.prf := by
  unfold State.wakeClock; split <;> rfl
@[simp] theorem State.wakeClock_trj (s : State) (d : Nat) : (s.wakeClock d).trj = s.trj := by
  unfold State.wakeClock; split <;> rfl
@[simp] theorem State.wakeClock_face (s : State) (d : Nat) : (s.wakeClock d).face = s.face := by
  unfold State.wakeClock; split <;> rfl
@[simp] theorem State.wakeClock_rough (s : State) (d : Nat) : (s.wakeClock d).rough = s.rough := by
  unfold State.wakeClock; split <;> rfl
@[simp] theorem State.wakeClock_gc (s : State) (d : Nat) : (s.wakeClock d).gc = s.gc := by
  unfold State.wakeClock; split <;> rfl
@[simp] theorem State.wakeClock_chuck (s : State) (d : Nat) : (s.wakeClock d).chuck = s.chuck := by
  unfold State.wakeClock; split <;> rfl
@[simp] theorem State.wakeClock_safe (s : State) (d : Nat) : (s.wakeClock d).safe = s.safe := by
  unfold State.wakeClock; split <;> rfl
@[simp] theorem State.wakeClock_port (s : State) (d : Nat) : (s.wakeClock d).port = s.port := by
  unfold State.wakeClock; split <;> rfl
@[simp] theorem State.wakeClock_srt (s : State) (d : Nat) : (s.wakeClock d).srt = s.srt := by
  unfold State.wakeClock; split <;> rfl
@[simp] theorem State.wakeClock_time (s : State) (d : Nat) : (s.wakeClock d).time = s.time := by
  unfold State.wakeClock; split <;> rfl
@[simp] theorem State.wakeClock_net (s : State) (d : Nat) : (s.wakeClock d).net = s.net := by
  unfold State.wakeClock; split <;> rfl
@[simp] theorem State.wakeClock_fyv (s : State) (d : Nat) : (s.wakeClock d).fyv = s.fyv := by
  unfold State.wakeClock; split <;> rfl
@[simp] theorem State.wakeClock_dio (s : State) (d : Nat) : (s.wakeClock d).dio = s.dio := by
  unfold State.wakeClock; split <;> rfl
@[simp] theorem State.wakeClock_nand (s : State) (d : Nat) : (s.wakeClock d).nand = s.nand := by
  unfold State.wakeClock; split <;> rfl
@[simp] theorem State.wakeClock_evt (s : State) (d : Nat) : (s.wakeClock d).evt = s.evt := by
  unfold State.wakeClock; split <;> rfl
@[simp] theorem State.wakeClock_perf (s : State) (d : Nat) : (s.wakeClock d).perf = s.perf := by
  unfold State.wakeClock; split <;> rfl
@[simp] theorem State.wakeClock_cfg (s : State) (d : Nat) : (s.wakeClock d).cfg = s.cfg := by
  unfold State.wakeClock; split <;> rfl
@[simp] theorem State.wakeClock_resp (s : State) (d : Nat) : (s.wakeClock d).resp = s.resp := by
  unfold State.wakeClock; split <;> rfl
@[simp] theorem State.wakeClock_freeN (s : State) (d : Nat) : (s.wakeClock d).freeN = s.freeN := by
  unfold State.wakeClock; split <;> rfl
@[simp] theorem State.wakeClock_pending (s : State) (d : Nat) : (s.wakeClock d).pending = s.pending := by
  unfold State.wakeClock; split <;> rfl

/-! ### Registers -/

/-- A register reads what was written to it. -/
@[simp] theorem State.rd_wr_self (s : State) (a : Nat) (v : Word) : (s.wr a v).rd a = v := by
  simp [State.rd, State.wr]

/-- Every other register reads as before. -/
theorem State.rd_wr_ne (s : State) {a b : Nat} (h : b ≠ a) (v : Word) : (s.wr a v).rd b = s.rd b := by
  simp [State.rd, State.wr, Sparse.getD_put_ne _ h]

theorem State.rd_wr (s : State) (a b : Nat) (v : Word) : (s.wr a v).rd b = if b = a then v else s.rd b := by
  by_cases h : b = a
  · subst h; simp
  · simp [h, State.rd_wr_ne s h]

/-- Registers are read from one map. -/
theorem State.rd_congr {s t : State} (h : t.regs = s.regs) (a : Nat) : t.rd a = s.rd a := by simp [State.rd, h]

@[simp] theorem State.rd_stb (s : State) (a v b : Nat) : (s.stb a v).rd b = s.rd b := rfl
@[simp] theorem State.rd_count (s : State) (b c k a : Nat) : (s.count b c k).rd a = s.rd a := rfl
@[simp] theorem State.rd_answer (s : State) (r : Answer) (a : Nat) : (s.answer r).rd a = s.rd a := rfl
@[simp] theorem State.rd_latch (s : State) (w : Req) (x v a : Nat) : (s.latch w x v).rd a = s.rd a := rfl
@[simp] theorem State.rd_wakeClock (s : State) (d a : Nat) : (s.wakeClock d).rd a = s.rd a :=
  State.rd_congr (State.wakeClock_regs s d) a

@[simp] theorem State.f_stb (s : State) (a v : Nat) (l : Loc) : (s.stb a v).f l = s.f l := rfl
@[simp] theorem State.f_count (s : State) (b c k : Nat) (l : Loc) : (s.count b c k).f l = s.f l := rfl
@[simp] theorem State.f_answer (s : State) (r : Answer) (l : Loc) : (s.answer r).f l = s.f l := rfl
@[simp] theorem State.f_latch (s : State) (w : Req) (x v : Nat) (l : Loc) : (s.latch w x v).f l = s.f l := rfl
@[simp] theorem State.f_wakeClock (s : State) (d : Nat) (l : Loc) : (s.wakeClock d).f l = s.f l := by simp [State.f]

/-- Writing a register keeps the canonical form. -/
theorem State.wr_canonical {s : State} (h : s.canonical) (a : Nat) (v : Word) : (s.wr a v).canonical :=
  ⟨Sparse.put_wf h.1 a v, h.2⟩

/-- Storing a byte keeps the canonical form. -/
theorem State.stb_canonical {s : State} (h : s.canonical) (a v : Nat) : (s.stb a v).canonical :=
  ⟨h.1, Sparse.put_wf h.2 a (b8 v)⟩

/-! ### Memory -/

theorem State.ldb_congr {s t : State} (h : t.mem = s.mem) (a : Nat) : t.ldb a = s.ldb a := by simp [State.ldb, h]

/-- A byte reads what was stored to it. -/
@[simp] theorem State.ldb_stb_self (s : State) (a v : Nat) : (s.stb a v).ldb a = v % 256 := by
  simp [State.ldb, State.stb, b8]

/-- Every other byte reads as before. -/
theorem State.ldb_stb_ne (s : State) {a b : Nat} (h : b ≠ a) (v : Nat) : (s.stb a v).ldb b = s.ldb b := by
  simp [State.ldb, State.stb, Sparse.getD_put_ne _ h]

@[simp] theorem State.ldb_wr (s : State) (a b : Nat) (v : Word) : (s.wr a v).ldb b = s.ldb b := rfl
@[simp] theorem State.ldb_count (s : State) (b c k a : Nat) : (s.count b c k).ldb a = s.ldb a := rfl
@[simp] theorem State.ldb_answer (s : State) (r : Answer) (a : Nat) : (s.answer r).ldb a = s.ldb a := rfl
@[simp] theorem State.ldb_wakeClock (s : State) (d a : Nat) : (s.wakeClock d).ldb a = s.ldb a :=
  State.ldb_congr (State.wakeClock_mem s d) a

/-- Bytes outside those stored read as before. -/
theorem State.ldb_stn (s : State) (a n v b : Nat) (h : b < a ∨ a + n ≤ b) : (s.stn a n v).ldb b = s.ldb b := by
  induction n generalizing s a v with
  | zero => rfl
  | succ n ih => rw [State.stn, ih _ _ _ (by omega), State.ldb_stb_ne _ (by omega)]

@[simp] theorem State.stn_regs (s : State) (a n v : Nat) : (s.stn a n v).regs = s.regs := by
  induction n generalizing s a v with
  | zero => rfl
  | succ n ih => rw [State.stn, ih, State.stb_regs]

theorem State.stn_canonical {s : State} (h : s.canonical) (a n v : Nat) : (s.stn a n v).canonical := by
  induction n generalizing s a v with
  | zero => exact h
  | succ n ih => exact ih (State.stb_canonical h ..) ..

theorem State.putBytes_canonical {s : State} (h : s.canonical) (a : Nat) (l : List Byte) : (s.putBytes a l).canonical := by
  induction l generalizing s a with
  | nil => exact h
  | cons x t ih => exact ih (State.stb_canonical h ..) ..

/-- A number read back from the bytes it was stored in. -/
theorem State.ldn_stn (s : State) (a n v : Nat) : (s.stn a n v).ldn a n = v % 256 ^ n := by
  induction n generalizing s a v with
  | zero => simp [State.ldn, Nat.mod_one]
  | succ n ih =>
    rw [State.stn, State.ldn, ih, State.ldb_stn _ _ _ _ _ (by omega), State.ldb_stb_self, Nat.pow_succ, Nat.mul_comm (256 ^ n),
      Nat.mod_mul]
    omega

/-! ### Fields of a register -/

/-- A word taken apart at a field: what lies above it, the field, what lies below it. -/
theorem word_split (V hi lo : Nat) (h : lo ≤ hi) :
    V = V / 2 ^ (hi + 1) * 2 ^ (hi + 1) + V / 2 ^ lo % 2 ^ (hi + 1 - lo) * 2 ^ lo + V % 2 ^ lo := by
  have e : 2 ^ (hi + 1) = 2 ^ lo * 2 ^ (hi + 1 - lo) := by rw [← Nat.pow_add]; congr 1; omega
  have h1 := Nat.div_add_mod V (2 ^ lo)
  have h2 := Nat.div_add_mod (V / 2 ^ lo) (2 ^ (hi + 1 - lo))
  rw [Nat.div_div_eq_div_mul, ← e] at h2
  calc V = 2 ^ lo * (V / 2 ^ lo) + V % 2 ^ lo := h1.symm
    _ = 2 ^ lo * (2 ^ (hi + 1 - lo) * (V / 2 ^ (hi + 1)) + V / 2 ^ lo % 2 ^ (hi + 1 - lo)) + V % 2 ^ lo := by rw [h2]
    _ = _ := by rw [e, Nat.mul_add, ← Nat.mul_assoc, Nat.mul_comm (2 ^ lo * 2 ^ (hi + 1 - lo)), Nat.mul_comm (2 ^ lo) (V / 2 ^ lo % _)]

/-- What a field replacement leaves, as a number. -/
theorem putBits_toNat (v : Word) (hi lo n : Nat) (h : lo ≤ hi) (h32 : hi < 32) :
    (putBits v hi lo n).toNat =
      v.toNat / 2 ^ (hi + 1) * 2 ^ (hi + 1) + n % 2 ^ (hi + 1 - lo) * 2 ^ lo + v.toNat % 2 ^ lo := by
  have hs := word_split v.toNat hi lo h
  unfold putBits bitsOf w32
  have e : 2 ^ (hi + 1) = 2 ^ lo * 2 ^ (hi + 1 - lo) := by rw [← Nat.pow_add]; congr 1; omega
  have hV := v.isLt
  have hn : n % 2 ^ (hi + 1 - lo) < 2 ^ (hi + 1 - lo) := Nat.mod_lt _ (Nat.two_pow_pos _)
  have hl : v.toNat % 2 ^ lo < 2 ^ lo := Nat.mod_lt _ (Nat.two_pow_pos _)
  have hq : v.toNat / 2 ^ (hi + 1) < 2 ^ (32 - (hi + 1)) := by
    apply Nat.div_lt_of_lt_mul
    rw [← Nat.pow_add]; rwa [show hi + 1 + (32 - (hi + 1)) = 32 by omega]
  have e32 : 2 ^ 32 = 2 ^ (32 - (hi + 1)) * 2 ^ (hi + 1) := by rw [← Nat.pow_add]; congr 1; omega
  have hn2 : n % 2 ^ (hi + 1 - lo) * 2 ^ lo + v.toNat % 2 ^ lo < 2 ^ (hi + 1) := by
    rw [e, Nat.mul_comm (2 ^ lo)]
    calc _ < n % 2 ^ (hi + 1 - lo) * 2 ^ lo + 2 ^ lo := by omega
      _ = (n % 2 ^ (hi + 1 - lo) + 1) * 2 ^ lo := by rw [Nat.add_mul, Nat.one_mul]
      _ ≤ _ := Nat.mul_le_mul_right _ hn
  have hb : v.toNat / 2 ^ (hi + 1) * 2 ^ (hi + 1) + n % 2 ^ (hi + 1 - lo) * 2 ^ lo + v.toNat % 2 ^ lo < 2 ^ 32 := by
    rw [e32]
    calc _ < v.toNat / 2 ^ (hi + 1) * 2 ^ (hi + 1) + 2 ^ (hi + 1) := by omega
      _ = (v.toNat / 2 ^ (hi + 1) + 1) * 2 ^ (hi + 1) := by rw [Nat.add_mul, Nat.one_mul]
      _ ≤ _ := Nat.mul_le_mul_right _ hq
  rw [BitVec.toNat_ofNat, Nat.mod_eq_of_lt] <;> omega

/-- A field that has been replaced. -/
theorem bitsOf_putBits_self (v : Word) (hi lo n : Nat) (h : lo ≤ hi) (h32 : hi < 32) :
    bitsOf (putBits v hi lo n) hi lo = n % 2 ^ (hi + 1 - lo) := by
  unfold bitsOf
  rw [putBits_toNat v hi lo n h h32]
  have e : 2 ^ (hi + 1) = 2 ^ (hi + 1 - lo) * 2 ^ lo := by rw [← Nat.pow_add]; congr 1; omega
  rw [e, ← Nat.mul_assoc, ← Nat.add_mul, Nat.add_comm, Nat.add_mul_div_right _ _ (Nat.two_pow_pos _),
    Nat.div_eq_of_lt (Nat.mod_lt _ (Nat.two_pow_pos _)), Nat.zero_add, Nat.add_comm, Nat.add_mul_mod_self_right, Nat.mod_mod]

/-- A field above the one replaced. -/
theorem bitsOf_putBits_above (v : Word) (hi lo n hi' lo' : Nat) (h : lo ≤ hi) (h32 : hi < 32) (hl : hi < lo') :
    bitsOf (putBits v hi lo n) hi' lo' = bitsOf v hi' lo' := by
  unfold bitsOf
  rw [putBits_toNat v hi lo n h h32]
  have e : 2 ^ (hi + 1) = 2 ^ (hi + 1 - lo) * 2 ^ lo := by rw [← Nat.pow_add]; congr 1; omega
  have hn : n % 2 ^ (hi + 1 - lo) < 2 ^ (hi + 1 - lo) := Nat.mod_lt _ (Nat.two_pow_pos _)
  have hll : v.toNat % 2 ^ lo < 2 ^ lo := Nat.mod_lt _ (Nat.two_pow_pos _)
  have hn2 : n % 2 ^ (hi + 1 - lo) * 2 ^ lo + v.toNat % 2 ^ lo < 2 ^ (hi + 1) := by
    rw [e]
    calc _ < n % 2 ^ (hi + 1 - lo) * 2 ^ lo + 2 ^ lo := by omega
      _ = (n % 2 ^ (hi + 1 - lo) + 1) * 2 ^ lo := by rw [Nat.add_mul, Nat.one_mul]
      _ ≤ _ := Nat.mul_le_mul_right _ hn
  have e2 : 2 ^ lo' = 2 ^ (hi + 1) * 2 ^ (lo' - (hi + 1)) := by rw [← Nat.pow_add]; congr 1; omega
  rw [e2, ← Nat.div_div_eq_div_mul, ← Nat.div_div_eq_div_mul, Nat.add_assoc, Nat.add_comm,
    Nat.add_mul_div_right _ _ (Nat.two_pow_pos _), Nat.div_eq_of_lt hn2, Nat.zero_add]

/-- A field below the one replaced. -/
theorem bitsOf_putBits_below (v : Word) (hi lo n hi' lo' : Nat) (h : lo ≤ hi) (h32 : hi < 32) (hl : hi' < lo) :
    bitsOf (putBits v hi lo n) hi' lo' = bitsOf v hi' lo' := by
  unfold bitsOf
  by_cases hc : hi' < lo'
  · rw [show hi' + 1 - lo' = 0 by omega]; simp [Nat.mod_one]
  have key : ∀ X Y : Nat, X % 2 ^ lo = Y % 2 ^ lo → X / 2 ^ lo' % 2 ^ (hi' + 1 - lo') = Y / 2 ^ lo' % 2 ^ (hi' + 1 - lo') := by
    intro X Y hXY
    have e : 2 ^ lo = 2 ^ lo' * 2 ^ (hi' + 1 - lo') * 2 ^ (lo - (hi' + 1)) := by
      rw [← Nat.pow_add, ← Nat.pow_add]; congr 1; omega
    rw [← Nat.mod_mul_right_div_self, ← Nat.mod_mul_right_div_self]
    congr 1
    have hd : (2 ^ lo' * 2 ^ (hi' + 1 - lo')) ∣ 2 ^ lo := ⟨_, e⟩
    rw [← Nat.mod_mod_of_dvd X hd, hXY, Nat.mod_mod_of_dvd Y hd]
  apply key
  rw [putBits_toNat v hi lo n h h32]
  have e : 2 ^ (hi + 1) = 2 ^ (hi + 1 - lo) * 2 ^ lo := by rw [← Nat.pow_add]; congr 1; omega
  rw [e, ← Nat.mul_assoc, ← Nat.add_mul, Nat.add_comm, Nat.add_mul_mod_self_right, Nat.mod_mod]

/-- A field reads what was put into it, modulo its width. -/
theorem State.f_set_self (s : State) (l : Loc) (n : Nat) (h : l.lo ≤ l.hi ∧ l.hi < 32) :
    (s.set l n).f l = n % 2 ^ (l.hi + 1 - l.lo) := by
  simp [State.f, State.set, bitsOf_putBits_self _ _ _ _ h.1 h.2]

/-- A field of another register, or of other bits of the same one, reads as before. -/
theorem State.f_set_other (s : State) (l m : Loc) (n : Nat) (h : l.lo ≤ l.hi ∧ l.hi < 32)
    (hd : m.addr ≠ l.addr ∨ l.hi < m.lo ∨ m.hi < l.lo) : (s.set l n).f m = s.f m := by
  by_cases ha : m.addr = l.addr
  · rcases hd with hd | hd | hd
    · exact absurd ha hd
    · simp [State.f, State.set, ha, bitsOf_putBits_above _ _ _ _ _ _ h.1 h.2 hd]
    · simp [State.f, State.set, ha, bitsOf_putBits_below _ _ _ _ _ _ h.1 h.2 hd]
  · simp [State.f, State.set, State.rd_wr_ne _ ha]

/-- Replacing a field touches its own register only. -/
theorem State.rd_set_ne (s : State) (l : Loc) (n : Nat) {a : Nat} (h : a ≠ l.addr) : (s.set l n).rd a = s.rd a :=
  State.rd_wr_ne s h _

@[simp] theorem State.ldb_set (s : State) (l : Loc) (n a : Nat) : (s.set l n).ldb a = s.ldb a := rfl

/-! ### Accesses -/

/-- A write that reaches its block: the clock of the domain runs, the block counts an access, and the block acts. -/
theorem State.regCmd_takes {s : State} {w : Req} {a : Nat} (h : s.takesWrite w a = true) (k : State → State) :
    s.regCmd w a k = k (((s.wakeClock (domOfAddr a)).count (blkOfWin (a / 0x10000)) 3).answer .nothing) := by
  simp only [State.takesWrite, Bool.and_eq_true, Bool.not_eq_true', Bool.and_eq_false_iff, beq_eq_false_iff_ne] at h
  obtain ⟨⟨h1, h2⟩, h3⟩ := h
  unfold State.regCmd
  have c1 : ¬ (w = .host ∧ s.evt.d3 = true) := by rcases h1 with h1 | h1 <;> simp_all
  have c3 : s.hostMuted w = false := by rcases h3 with h3 | h3 <;> simp_all [State.hostMuted]
  simp [c1, h2, c3]

/-- A read that reaches its block. -/
theorem State.regRead_takes {s : State} {w : Req} {a : Nat} (h : s.takesRead w a = true) (k : State → State) :
    s.regRead w a k = k ((s.wakeClock (domOfAddr a)).count (blkOfWin (a / 0x10000)) 3) := by
  simp only [State.takesRead, Bool.and_eq_true, Bool.not_eq_true', Bool.and_eq_false_iff, beq_eq_false_iff_ne] at h
  obtain ⟨h1, h2⟩ := h
  unfold State.regRead
  have c1 : ¬ (w = .host ∧ s.evt.d3 = true) := by rcases h1 with h1 | h1 <;> simp_all
  simp [c1, h2]

end Sys2Proof.Machine
end

