-- ==== Sys2Proof/Tests/Slice0.lean ====
section
/-!
SUPPORT. Small tests: ill-formed commands that the check refuses, check values and words that the spec gives, and for every
statement a state and operands that meet the hypotheses of its clauses.
-/
namespace Sys2Proof.Machine.Tests
open Sys2Proof Sys2Proof.Machine

-- One theorem after the other: the thread stacks of many at once exceed the memory that the check allows.
set_option Elab.async false

/-! ### Ill-formed commands -/

theorem test_wf_counterLowRead : (Instr.counterLowRead .host ⟨0x1200000, .word, .good⟩).wf = false := by decide
theorem test_wf_l3Boundary : (Instr.l3Boundary 1000001).wf = false := by decide
theorem test_wf_l2Boundary : (Instr.l2Boundary 249999).wf = false := by decide
theorem test_wf_l1Boundary : (Instr.l1Boundary 1).wf = false := by decide
theorem test_wf_burstFreeze : (Instr.burstFreeze [0, 0, 0, 0, 0, 0, 0] []).wf = false := by decide
theorem test_wf_smwPayloadWrite : (Instr.smwPayloadWrite .host 0 4095 [0, 0]).wf = false := by decide
theorem test_wf_smwPayloadWrite_empty : (Instr.smwPayloadWrite .host 0 0 []).wf = false := by decide
theorem test_wf_steadyFrameReceive : (Instr.steadyFrameReceive 0 false (.vote 12 true true 0 0 0)).wf = false := by decide
theorem test_wf_steadyFrameReceive_ledger :
    (Instr.steadyFrameReceive 0 false (.ledger [⟨16, 0, 0, 1, false⟩])).wf = false := by decide
theorem test_wf_steadyFrameReceive_l3 : (Instr.steadyFrameReceive 0 false (.l3 0 [] [] [(0, [0])])).wf = false := by decide
theorem test_wf_thermalSample : (Instr.thermalSample 256).wf = false ∧ (Instr.thermalSample (-257)).wf = false := by decide
theorem test_wf_accepts : (Instr.thermalSample (-256)).wf = true ∧ (Instr.l3Boundary 3000000).wf = true ∧
    (Instr.smwPayloadWrite .host 0 4095 [0]).wf = true := by decide

/-! ### Check values and words written out from the spec -/

/-- The ASCII string "123456789". -/
def digits : List Byte := [0x31, 0x32, 0x33, 0x34, 0x35, 0x36, 0x37, 0x38, 0x39]

/-- R110. -/
theorem test_crc16_check : crc16 digits = 0x29B1 := by decide +kernel
/-- R34. -/
theorem test_crc32c_check : crc32c digits = 0xE3069283 := by decide +kernel
/-- R428. -/
theorem test_scrc_check : scrc digits = 0x1697D06A := by decide +kernel

/-- R302: MAC2 acc0 and acc1 with both moves, and the loop of three words, 259 times. -/
theorem test_decode_dot_product : decodeCore 0x69600103 = some (.loopi true 3 1 259) ∧
    decodeCore 0x051B0101 = some (.arith ⟨2, 0, 19, 27, some ⟨false, 16, 0, 1⟩, some ⟨false, 24, 4, 1⟩⟩) := by decide +kernel
/-- R298: ADD g5, g2, g5 without moves: class 001, code 0x10, 5, 2, 5, 0. -/
theorem test_decode_arith : decodeCore 0b00101000000101000100010100000000 =
    some (.arith { op := 0x10, d := 5, a := 2, b := 5, x := none, y := none }) := by decide +kernel
/-- R300: LDI of 0x1000 into register number 0x20. -/
theorem test_decode_load : decodeCore 0b01000010000000000001000000000000 = some (.ldi 0x20 0 0x1000) := by decide +kernel
/-- R301: BRA on condition 1 to 0x100. -/
theorem test_decode_control : decodeCore 0b01100000000100000000000100000000 = some (.bra 1 0x100) := by decide +kernel
/-- R302: HALT. -/
theorem test_decode_block : decodeCore 0b10000100000000000000000000000000 = some .halt := by decide +kernel
/-- R296: class 0b101 is reserved. -/
theorem test_decode_reserved : decodeCore 0b10100000000000000000000000000000 = none := by decide +kernel

/-- The inputs of an operation with one accumulator value. -/
def aluWith (v : Int) (a : Word) : AluIn := { a := a, b := 0, a' := 0, b' := 0, imm := 0, d := 0, sa := 0, acc := fun _ => v, sr := 0 }

/-- R293: the two examples of EXT with SB = 0. -/
theorem test_ext_rounds_to_even : (aluExt (aluWith 0x180000000 0)).g = some 2 ∧ (aluExt (aluWith 0x280000000 0)).g = some 2 := by
  decide +kernel
/-- R295: 31 for 0 and for −1. -/
theorem test_norm_of_zero_and_minus_one : (aluNorm (aluWith 0 0)).g = some 31 ∧ (aluNorm (aluWith 0 0xFFFFFFFF)).g = some 31 := by
  decide +kernel

/-! ### States for the witnesses -/

/-- Every domain released and powered. -/
def up : State := (State.reset.wr RST.RST_STAT 0x8000FFFF).wr PWR.PWR_STAT 0x0000FFFF

/-- As `up`, in mode M3 with an image in force that gives every configured part one member, boundaries running. -/
def live : State :=
  have s := ((((up.set SYS.MODE_STAT'MODE 3).setB SYS.CYCLE_CFG'CYC_RUN true).setB SYS.IMG_STAT'VALID true).setB FYV.PAIR_STAT'ACTIVE true).wr PWR.LEDGER_CFG 0xFFFFFFFF
  have s := (s.setB SAFE.SAFE_STAT'DEAD_OK true).setB SAFE.SAFE_STAT'LIVE_OK true
  have s := (s.setB SRT.SRT_CTRL'EN true).set SRT.SRT_STAT'STATE srtACTIVE
  have s := (s.set (PWM.GRP_CFG'MODE 0) 1).setB TRJ.TRJ_STAT'EVAL true
  have s := { s with pwm := { s.pwm with per := 5000 }, time := { s.time with dt := 70000 * 2 ^ 32, l0next := 100000, l1next := 250000, l2next := 250000, l3next := 1000000 } }
  { s with cfg := { s.cfg with axes := [{ (default : AxisTopo) with used := true, ainB := 1 }], bricks := [{ used := true, axes := [0], zone := 0 }], portals := [{ (default : PortTopo) with used := true }], srt := { s.cfg.srt with used := true, node := [1, 2], chA := [⟨1, 0, 8, 1⟩], chB := [⟨1, 0, 8, 1⟩] }, face := { s.cfg.face with n := 1, slots := [default] } } }
/-- A frame with the CRC-32C over what stands before it. -/
def withCrc (l : List Byte) : List Byte := l ++ toLE 4 (crc32c l)
/-! ### The queue, reset and the encodings -/

/-- A command waits in front. -/
theorem test_meets_StepRunsFrontCommand :
    { State.reset with pending := [.evtSet .host 0] }.pending = .evtSet .host 0 :: [] ∧ State.reset.pending = [] := by decide

/-- What a step changed. -/
def after (r : Host.Outcome State Fault Refusal) : Option State := match r with | .next t => some t | _ => none

/-- A canonical state with a command in front, whose step answers a next state (R504: the event pends). -/
theorem test_meets_EveryStepKeepsCanonicalForm :
    have s := { up with pending := [.evtSet .host 0] }
    Sparse.wf s.regs regReset = true ∧ Memory.wf s.mem = true ∧ (after (step s)).isSome = true := by decide +kernel

theorem test_meets_CoreDecodeOfEncode :
    CIns.wf (.trap 255) = true ∧ CIns.wf (.loopi true 7 128 16383) = true ∧ 0x84000000 < 2 ^ 32 ∧
    decodeCore 0x84000000 = some .halt := by decide +kernel

/-! ### Boundaries with the domains they act on held in reset -/

/-- Only TIME is released and powered; the generator of boundaries runs. -/
def onlyTime : State :=
  ((State.reset.wr RST.RST_STAT 0x1000).wr PWR.PWR_STAT 0x1000).setB SYS.CYCLE_CFG'CYC_RUN true

theorem bit_4096 (d : Nat) : bit 4096 d = decide (d = 12) := by
  by_cases h : d < 13
  · revert d; decide
  · have : 4096 / 2 ^ d = 0 := Nat.div_eq_of_lt (Nat.lt_of_lt_of_le (by decide : 4096 < 2 ^ 13) (Nat.pow_le_pow_right (by decide) (by omega)))
    simp only [bit, this]
    have : d ≠ 12 := by omega
    simp [this]

theorem onlyTime_released (d : Nat) : onlyTime.released d = decide (d = 12) :=
  (congrFun (congrArg bit (by decide +kernel : onlyTime.f RST.RST_STAT'RELEASED = 4096)) d).trans (bit_4096 d)

theorem test_meets_BoundariesAdvanceTheLevels :
    (∀ d, onlyTime.domOn d = decide (d = pdTIME)) ∧ (∀ d, d ≠ pdTIME → onlyTime.released d = false) ∧
    onlyTime.cycRun = true ∧ onlyTime.imgValid = false ∧ onlyTime.time.slewLeft = 0 ∧ 0 < dtIncr onlyTime.time.rate ∧
    1000000 % 1000000 = 0 ∧ 1000000 % onlyTime.t0 = 0 ∧ onlyTime.time.l3next ≤ 1000000 ∧ onlyTime.time.l2next ≤ 250000 ∧
    onlyTime.time.l1next ≤ 50000 ∧ onlyTime.time.l0next ≤ 1000000 ∧ 1 % onlyTime.t0 ≠ 0 := by
  refine ⟨fun d => ?_, fun d h => ?_, by decide +kernel⟩
  · have h := (congrFun (congrArg bit (by decide +kernel : onlyTime.f PWR.PWR_STAT'DOM_ON = 4096)) d).trans (bit_4096 d)
    exact (congr (congrArg and (onlyTime_released d)) h).trans (Bool.and_self _)
  · simpa [onlyTime_released, pdTIME] using h

/-! ### Gouge cores: core 0 runs the word that stands at its PC -/

/-- Core 0 runs, with an instruction at its PC. -/
def coreAt (i : CIns) : State :=
  ((up.stn (coreMem 0 0) 4 (encodeCore i)).set (GC.GC_PC'PC 0) 0).set (GC.GC_STAT'STATE 0) gsRUNNING

/-- The instruction at PC issues. -/
def issues (s : State) (i : CIns) : Bool :=
  s.canIssue 0 && s.insAt 0 == some i && !(s.core 0).stepping && !(s.core 0).suppressed (s.corePC 0) &&
    (s.core 0).loops == [] && (s.core 0).reserve == none

/-- An arithmetic operation on the registers with number 0, without moves. -/
def arithOf (op : Nat) : CIns := .arith { (default : CArith) with op := op }

theorem test_meets_CoreRegisterArithmetic :
    ((upto 40).filter (fun op => op == 0 || 16 ≤ op)).all (fun op => issues (coreAt (arithOf op)) (arithOf op)) = true ∧
    CArith.moves default = [] := by decide +kernel

theorem test_meets_CoreAccumulatorArithmetic :
    ([1, 2, 3, 4, 5, 6, 7, 8, 9, 10, 11, 12, 13, 14, 40, 41, 42, 43].all fun op =>
      issues (coreAt (arithOf op)) (arithOf op)) = true := by decide +kernel

theorem test_meets_CoreMovesAndLoads :
    ([.ldi 0 0 65535, .ldih 60 8 0, .movc 0 0 59 2, .ldx 31 false 7 false 0, .ldx 0 true 0 true (-1), .ldp 31 7 1].all
      fun i => issues (coreAt i) i) = true := by decide +kernel

/-- LDX from a buffer of the shared memory, from a register, and from past the memory of Y. -/
theorem test_meets_CoreMovesAndLoads_far :
    [0x100000, 0x2FFFFF, 0x400000].all (fun a =>
      have s := coreAt (.ldx 31 false 7 false 0)
      have s := s.setCore 0 { s.core 0 with i := (s.core 0).i.set 7 (w32 a) }
      issues s (.ldx 31 false 7 false 0) && ((s.core 0).i.get 7).toNat == a && s.domOn pdMEM &&
        s.face.hdrs == []) = true ∧
    0x8000 ≤ uN 32 (((((coreAt (.ldx 0 true 0 true (-1))).core 0).i.get 0).toNat : Int) + (-1)) := by decide +kernel

theorem test_meets_CoreControlFlow :
    ([.bra 0 16383, .call 0 0, .jmpr 31, .trap 255, .sync, .nopB, .halt, .wait, .loopi true 7 1 0, .loopi false 0 128 16383,
      .loopg false 0 128 31, .bxv 31 7 false 1 1024].all fun i => issues (coreAt i) i) = true := by decide +kernel

/-- RTS and RTI with an entry on the call stack; LEXIT and the end of a body inside one loop. -/
theorem test_meets_CoreControlFlow_stack :
    ([CIns.rts, .rti].all fun i =>
      have s := coreAt i
      have s := s.setCore 0 { s.core 0 with stack := [⟨true, 5, 0, [], []⟩] }
      issues s i && (s.core 0).stack == [⟨true, 5, 0, [], []⟩]) = true ∧
    ([CIns.lexit, .nopB].all fun i =>
      have s := coreAt i
      have s := s.setCore 0 { s.core 0 with loops := [{ (default : LoopLvl) with cnt := 2 }] }
      s.canIssue 0 && s.insAt 0 == some i && (s.core 0).loops == [{ (default : LoopLvl) with cnt := 2 }] &&
        !(s.core 0).suppressed (s.corePC 0) && s.corePC 0 == 0) = true := by decide +kernel

/-- A word that decodes to nothing; an interrupt line that is due; a breakpoint of either kind; a core in reset or halted. -/
theorem test_meets_CoreExceptionsAndDebug :
    have s := coreAt .nopB
    have bad := s.stn (coreMem 0 0) 4 0xFFFFFFFF
    have due := ((s.set (EVT.EVT_ROUTE'KIND 0) 2).setCore 0 { s.core 0 with imask := 0xFFFFFFFF, sr := 0x300 }).wr (EVT.EVT_PEND 0) 1
    have due := due.wr (EVT.EVT_EN 0) 1
    have bp := s.setB (GC.GC_BP'EN 0 0) true
    (bad.canIssue 0 = true ∧ bad.insAt 0 = none) ∧ s.fetchesP 0 = true ∧
    (due.nextInt 0 = some 0 ∧ srGet (due.core 0).sr srIE = true ∧ (due.core 0).stack = [] ∧ (due.core 0).reserve = none) ∧
    bp.bpMatch 0 = 1 ∧ (bp.setB (GC.GC_BP'DBG_EXC 0 0) true).bpMatch 0 = 2 ∧ up.coreSt 0 = gsRESET ∧
    ((s.set (GC.GC_STAT'STATE 0) gsHALTED).coreSt 0 = gsHALTED ∧ s.insAt 0 = some .nopB ∧ s.nextInt 0 = none ∧
      s.clockRuns (pdGC 0) = true ∧ s.b (PERF.TAG_CFG'EN 0) = false) ∧
    (up.takesWrite .host (GC.GC_CTRL 15) = true ∧ up.takesWrite .host (GC.GC_PC 15) = true ∧
      up.takesWrite .host (GC.GC_DBG_DATA 15) = true ∧ up.takesWrite (.core 0) (GC.GC_WDOG_KICK 0) = true ∧
      up.takesWrite .host (coreMem 15 0 + 4 * 16383) = true) := by decide +kernel

/-- The boot ROM finds an image without, and with, a user section of core 0 whose first record ends the copy. -/
theorem test_meets_CoreExceptionsAndDebug_boot :
    have s := (up.set (GC.GC_STAT'STATE 0) gsRUNNING).set (GC.GC_PC'PC 0) 0x4000
    have s := (s.setB SYS.IMG_STAT'VALID true).stn (shadowWindow + 0xC) 4 0x40
    have u := (((s.stn (shadowWindow + 0x14) 2 1).stn shadowWindow 2 0x8100).stn (shadowWindow + 8) 4 0x20).stn (shadowWindow + 4) 4 0
    (s.coreSt 0 = gsRUNNING ∧ (s.core 0).userCode = false ∧ 0x4000 ≤ s.corePC 0 ∧ s.imgValid = true) ∧
    sectBody s.shadow 0x8100 0 = none ∧ (sectBody u.shadow 0x8100 0).isSome = true := by decide +kernel

/-! ### A state and operands for the clauses of each statement

The hypotheses of a clause as its statement writes them, applied to a state and operands. -/

theorem test_meets_PlainWritesObeyAccessCodes :
    (fun (s : State) (w : Req) =>
      s.takesWrite w DIO.DIO_OUT = true) up .host ∧
    (fun (s : State) (w : Req) (k : Nat) =>
      k < 8 ∧ s.takesWrite w (EVT.EVT_EN k) = true) up .host 0 ∧
    (fun (s : State) (w : Req) =>
      s.takesWrite w SYS.CHIP_ID = true) up .host ∧
    (fun (s : State) (w : Req) =>
      s.takesWrite w DIO.DIO_IN_RISE = true) up .host ∧
    (fun (s : State) (w : Req) (p : Nat) =>
      p < 2 ∧ s.takesWrite w (TIME.PTP_CFG p) = true) up .host 0 ∧
    (fun (s : State) (w : Req) =>
      s.takesWrite w SYS.IMG_POLICY = true) up .host := by
  decide +kernel

theorem test_meets_HolesReadZeroAndIgnoreWrites :
    (fun (s : State) (w : Req) (a : BitVec 24) =>
      4 * a.toNat < 23068672 ∧ reservedAt (4 * a.toNat) = false ∧ rowAt (4 * a.toNat) = none ∧
        s.takesRead w (4 * a.toNat) = true) up .host 1 ∧
    (fun (s : State) (w : Req) (a : BitVec 24) =>
      4 * a.toNat < 23068672 ∧ reservedAt (4 * a.toNat) = false ∧ rowAt (4 * a.toNat) = none ∧
        s.takesWrite w (4 * a.toNat) = true) up .host 1 := by
  decide +kernel

theorem test_meets_RefusedAccessesAreRecorded_a :
    (fun (s : State) (w : Req) =>
      (¬(w = Req.host ∧ s.evt.d3 = true)) ∧ (¬(w = Req.host ∧ s.b SYS.HOST_CFG'HOST_PROXY = true)) ∧
        s.b SYS.ACC_ERR_INFO'VALID = false) up .host ∧
    (fun (s : State) (w : Req) =>
      (¬(w = Req.host ∧ s.evt.d3 = true)) ∧ (¬(w = Req.host ∧ s.b SYS.HOST_CFG'HOST_PROXY = true)) ∧
        s.b SYS.ACC_ERR_INFO'VALID = true) (up |>.setB SYS.ACC_ERR_INFO'VALID true) .host ∧
    (fun (s : State) (w : Req) (a : BitVec 24) (write : Bool) =>
      (¬(w = Req.host ∧ s.evt.d3 = true)) ∧ (¬(write = true ∧ w = Req.host ∧ s.b SYS.HOST_CFG'HOST_PROXY = true)) ∧
        (reservedAt (4 * a.toNat) || write && readOnlyWindow (4 * a.toNat)) = true ∧
        s.b SYS.ACC_ERR_INFO'VALID = false) up .host 0x580000 false ∧
    (fun (s : State) (w : Req) (a : BitVec 24) (write : Bool) =>
      (¬(w = Req.host ∧ s.evt.d3 = true)) ∧ (¬(write = true ∧ w = Req.host ∧ s.b SYS.HOST_CFG'HOST_PROXY = true)) ∧
        (reservedAt (4 * a.toNat) || write && readOnlyWindow (4 * a.toNat)) = true ∧
        s.b SYS.ACC_ERR_INFO'VALID = true) (up |>.setB SYS.ACC_ERR_INFO'VALID true) .host 0x580000 false ∧
    (fun (s : State) (w : Req) (a : BitVec 24) (write : Bool) =>
      (¬(w = Req.host ∧ s.evt.d3 = true)) ∧ (¬(write = true ∧ w = Req.host ∧ s.b SYS.HOST_CFG'HOST_PROXY = true)) ∧
        (reservedAt (4 * a.toNat) || write && readOnlyWindow (4 * a.toNat)) = true ∧
        write = false) up .host 0x580000 false := by
  decide +kernel

theorem test_meets_RefusedAccessesAreRecorded_b :
    (fun (s : State) (w : Req) (a : BitVec 24) (write : Bool) =>
      (¬(w = Req.host ∧ s.evt.d3 = true)) ∧ (¬(write = true ∧ w = Req.host ∧ s.b SYS.HOST_CFG'HOST_PROXY = true)) ∧
        (reservedAt (4 * a.toNat) || write && readOnlyWindow (4 * a.toNat)) = false ∧
        s.domOn (domOfAddr (4 * a.toNat)) = false ∧
        s.b SYS.ACC_ERR_INFO'VALID = false) State.reset .host (BitVec.ofNat 24 (ADC.CH_CFG 0 / 4)) false ∧
    (fun (s : State) (w : Req) (a : BitVec 24) (write : Bool) =>
      (¬(w = Req.host ∧ s.evt.d3 = true)) ∧ (¬(write = true ∧ w = Req.host ∧ s.b SYS.HOST_CFG'HOST_PROXY = true)) ∧
        (reservedAt (4 * a.toNat) || write && readOnlyWindow (4 * a.toNat)) = false ∧
        s.domOn (domOfAddr (4 * a.toNat)) = false ∧ s.b SYS.ACC_ERR_INFO'VALID = true) (State.reset
        |>.setB SYS.ACC_ERR_INFO'VALID true) .host (BitVec.ofNat 24 (ADC.CH_CFG 0 / 4)) false ∧
    (fun (s : State) (w : Req) =>
      (¬(w = Req.host ∧ s.evt.d3 = true)) ∧ w = Req.host ∧ s.b SYS.HOST_CFG'HOST_PROXY = true) (up
        |>.setB SYS.HOST_CFG'HOST_PROXY true) .host := by
  decide +kernel

theorem test_meets_LatchedRetainedAndWindowAccess :
    (fun (s : State) (w : Req) (a : Nat) =>
      ((∃ c, c < 72 ∧ a = FB.POS_BND_LO c) ∨ (∃ g, g < 72 ∧ a = PRF.P_OUT_LO g) ∨ ∃ p, p < 7 ∧ a = NAND.DURABLE_LO p) ∧
        s.takesRead w a = true) up .host (FB.POS_BND_LO 71) ∧
    (fun (s : State) (w : Req) (bad : Bool) =>
      s.takesRead w RST.RET_DATA = true ∧ bad = false ∧ s.nand.upper = false) up .host false ∧
    (fun (s : State) (w : Req) (bad : Bool) =>
      s.takesRead w RST.RET_DATA = true ∧ bad = true) up .host true ∧
    (fun (s : State) (w : Req) (a : BitVec 24) =>
      (33554432 ≤ 4 * a.toNat ∧ 4 * a.toNat < 37748736 ∨ 50331648 ≤ 4 * a.toNat ∧ 4 * a.toNat < 54525952 ∨
        41943040 ≤ 4 * a.toNat ∧ 4 * a.toNat < 50331648 ∧ 131072 ≤ 4 * a.toNat % 524288 ∧
        4 * a.toNat % 524288 < 393216) ∧ s.takesWrite w (4 * a.toNat) = true) up .host (0x900000 - 1) ∧
    (fun (s : State) (w : Req) (i : Nat) =>
      i < 8192 ∧ s.takesWrite w (RST.RSRAM i) = true) up .host 0 := by
  decide +kernel

theorem test_meets_ImageLoadTakesOrRefuses :
    (fun (s : State) (w : Req) (v : Word) =>
      s.takesWrite w SYS.IMG_CTRL = true ∧ s.standbyWrite w = false ∧ 1 ≤ bitsOf v 2 0 ∧ bitsOf v 2 0 ≤ 3 ∧
        (s.mode = 1 ∨ s.mode = 3)) live .host 1 ∧
    (fun (s : State) (w : Req) (v : Word) =>
      s.takesWrite w SYS.IMG_CTRL = true ∧ s.standbyWrite w = false ∧ 1 ≤ bitsOf v 2 0 ∧ bitsOf v 2 0 ≤ 3 ∧
        s.mode = 2) (up |>.set SYS.MODE_STAT'MODE 2) .host 1 ∧
    (fun (s : State) (w : Req) (v : Word) =>
      s.takesWrite w SYS.IMG_CTRL = true ∧ s.standbyWrite w = false ∧ 1 ≤ bitsOf v 2 0 ∧ bitsOf v 2 0 ≤ 3 ∧
        s.mode ≠ 1 ∧ s.mode ≠ 2 ∧ s.mode ≠ 3) up .host 1 := by
  decide +kernel

theorem test_meets_ImageLoadDoneAppliesWholeOrNothing :
    (fun (s : State) =>
      s.sys.loading = true ∧ s.sys.loadSrc = 3 ∧ s.f SYS.IMG_STAT'SRC_USED = 3 ∧ s.mode = 2) (up
        |> (fun (s : State) => { s with sys := { s.sys with loading := true } })
        |> (fun (s : State) => { s with sys := { s.sys with loadSrc := 3 } }) |>.set SYS.IMG_STAT'SRC_USED 3
        |>.set SYS.MODE_STAT'MODE 2) := by
  decide +kernel

theorem test_meets_PatchRunsThroughItsStates :
    (fun (s : State) (w : Req) =>
      s.takesWrite w SYS.PATCH_CTRL = true ∧ s.standbyWrite w = false ∧ s.hostOrSupv w = true ∧
        s.f SYS.PATCH_STAT'STATE ≠ 0) (up |>.set SYS.PATCH_STAT'STATE 1) .host ∧
    (fun (s : State) (w : Req) (v : Word) =>
      s.takesWrite w SYS.PATCH_CTRL = true ∧ s.standbyWrite w = false ∧ s.hostOrSupv w = true ∧
        (¬s.f SYS.PATCH_STAT'STATE ≠ 0) ∧ s.owner (bitsOf v 10 0) = ownDEVICE) (up
        |>.set (CHUCK.SMW_FLAG'OWNER (bitsOf 0 10 0)) ownDEVICE) .host 0 ∧
    (fun (s : State) (w : Req) (v : Word) =>
      s.takesWrite w SYS.PATCH_CTRL = true ∧ s.standbyWrite w = false ∧ s.hostOrSupv w = true ∧
        (¬s.f SYS.PATCH_STAT'STATE ≠ 0) ∧ (¬s.owner (bitsOf v 10 0) = ownDEVICE)) up .host 0 ∧
    (fun (s : State) =>
      s.f SYS.PATCH_STAT'STATE = 1) (up |>.set SYS.PATCH_STAT'STATE 1) ∧
    (fun (s : State) =>
      s.f SYS.PATCH_STAT'STATE = 2 ∧ (patchModes s.sys.patch.ty).contains s.mode = true ∧
        s.f SYS.MODE_STAT'REQ_STATE = 0 ∧ (s.sys.patch.ty = 14 ∨ s.sys.patch.ty = 15 ∨ s.sys.patch.ty = 16) ∧
        s.sys.patch.buf < 2048 ∧ s.sys.patch.prevOwner ≠ ownDEVICE ∧ s.sys.patch.prevOwner < 32) (up
        |> (fun (s : State) => { s with sys := { s.sys with patch := { s.sys.patch with ty := 14 } } })
        |>.set SYS.PATCH_STAT'STATE 2 |>.set SYS.MODE_STAT'MODE 3) := by
  decide +kernel

theorem test_meets_ChannelAndReferenceWrites :
    (fun (s : State) (w : Req) (c : Fin 144) (v : Word) =>
      s.takesWrite w (ADC.CH_CFG c.val) = true ∧ (¬(s.ainAssigned c.val = true ∧ (s.mode ≠ 3 ∨
        bitsOf v 10 8 ≠ 0)))) up .host 0 0 ∧
    (fun (s : State) (w : Req) (c : Fin 144) =>
      s.takesWrite w (ADC.CH_COEF c.val) = true ∧ s.mode = 3) live .host 0 ∧
    (fun (s : State) (w : Req) (c : Fin 144) =>
      s.takesWrite w (ADC.CH_COEF c.val) = true ∧ (¬s.mode = 3)) up .host 0 ∧
    (fun (s : State) (w : Req) =>
      s.takesWrite w ADC.ADC_CTRL = true ∧ s.b ADC.ADC_CTRL'REF_EN = false) up .host ∧
    (fun (s : State) (w : Req) =>
      s.takesWrite w ADC.ADC_CTRL = true ∧ s.b ADC.ADC_CTRL'REF_EN = true) (up |>.setB ADC.ADC_CTRL'REF_EN true) .host ∧
    (fun (s : State) (w : Req) =>
      s.takesWrite w ADC.ADC_CTRL = true ∧ s.adc.rotWant = false) up .host ∧
    (fun (s : State) =>
      s.domOn pdADC = true ∧ s.adc.refNs ≠ 0 ∧ s.domOn pdTIME = true ∧ 0 < dtIncr s.time.rate) (up
        |> (fun (s : State) => { s with adc := { s.adc with refNs := 1 } })) := by
  decide +kernel

theorem test_meets_RotationJudgesConverters :
    (fun (s : State) (w : Req) =>
      s.takesWrite w ADC.ADC_CTRL = true ∧ s.b ADC.ADC_CTRL'ROT_EN = false ∧ s.f ADC.ADC_STAT'CONV_FAILED = 0 ∧
        s.b ADC.ADC_STAT'ROT_ACTIVE = false ∧ s.adc.rotNext < 8 ∧ s.ledgerUsed + 1 ≤ s.budget ∧
        s.pwr.waiting = []) live .host ∧
    (fun (s : State) (ofs : Int) (gain : Int) =>
      s.domOn pdADC = true ∧ s.b ADC.ADC_STAT'ROT_ACTIVE = true ∧ s.b ADC.ADC_CTRL'ROT_EN = false ∧
        (¬convBad (s.convTrim (s.f ADC.ADC_STAT'OUT_CONV)) (ofs, gain) = true)) (up
        |>.setB ADC.ADC_STAT'ROT_ACTIVE true) 0 0 ∧
    (fun (s : State) (ofs : Int) (gain : Int) =>
      s.domOn pdADC = true ∧ s.f ADC.ADC_STAT'CONV_FAILED ≠ 0 ∧ s.adc.chkRun = true ∧ s.adc.chkConv < 8 ∧
        (¬convBad (s.convTrim s.adc.chkConv) (ofs, gain) = true)) (up |>.set ADC.ADC_STAT'CONV_FAILED 1
        |> (fun (s : State) => { s with adc := { s.adc with chkRun := true } })) 0 0 := by
  decide +kernel

theorem test_meets_BurstsFreezeAndReport :
    (fun (s : State) =>
      s.cycRun = true ∧ s.domOn pdADC = true ∧ s.adc.burst = [] ∧ (∀ (i : Nat), i < 8 → s.convCorr i = (0, 0)) ∧
        s.f ADC.CAP_STAT'STATE ≠ 2 ∧ s.f ADC.CAP_STAT'STATE ≠ 3 ∧ s.domOn pdTIME = true ∧ 0 < dtIncr s.time.rate) live ∧
    (fun (s : State) =>
      s.domOn pdADC = true ∧ s.adc.burst.length = s.burstN) (up
        |> (fun (s : State) => { s with adc := { s.adc with burst := [default] } })) ∧
    (fun (s : State) (c : Fin 144) (n : Nat) =>
      s.domOn pdADC = true ∧ n < bitsOf (s.effCfg c.val) 22 20) (up
        |> (fun (s : State) => s.setAch 0 { s.ach 0 with loaded := true, cfg := 0x100000 })) 0 0 ∧
    (fun (s : State) (c : Fin 144) (uv : Int) (n : Nat) =>
      s.domOn pdADC = true ∧ bitsOf (s.effCfg c.val) 22 20 ≤ n ∧ s.cmpRev c.val = false ∧
        ((decide ((if (s.ach c.val).above = true then (↑(s.f (ADC.CMP_TH'HI_TH c.val)) - 128) * 16000 - hysOf (s.effCfg c.val) else (↑(s.f (ADC.CMP_TH'HI_TH c.val)) - 128) * 16000) < s.cmpInput (c.val) uv) && bit (BitVec.toNat (s.effCfg c.val)) 16 || decide (s.cmpInput (c.val) uv < if (s.ach c.val).below = true then (↑(s.f (ADC.CMP_TH'LO_TH c.val)) - 128) * 16000 + hysOf (s.effCfg c.val) else (↑(s.f (ADC.CMP_TH'LO_TH c.val)) - 128) * 16000) && bit (BitVec.toNat (s.effCfg c.val)) 17) ≠ bit (s.rdN (ADC.CMP_LIVE (c.val / 32))) (c.val % 32)) ∧ bit (BitVec.toNat (s.effCfg c.val)) 24 = true) (up |> (fun (s : State) => s.setAch 0 { s.ach 0 with loaded := true, cfg := 0x01010000, above := true })) 0 5000000 0 := by
  decide +kernel

theorem test_meets_SystemCalibrationSteps :
    (fun (s : State) (w : Req) (v : Word) (c : Instr) =>
      s.takesWrite w ADC.SYSCAL_CTRL = true ∧ s.standbyWrite w = false ∧ s.mode ≠ 3 ∧ (c = Instr.syscalZero w v ∨
        c = Instr.syscalFs w v ∨ c = Instr.syscalSave w v ∨
        c = Instr.syscalAbort w v)) up .host 0 (.syscalAbort .host 0) ∧
    (fun (s : State) (w : Req) (v : Word) =>
      s.takesWrite w ADC.SYSCAL_CTRL = true ∧ s.mode = 3 ∧ s.adc.calStep = 0 ∧ 1 ≤ bitsOf v 15 8 ∧
        bitsOf v 7 0 + bitsOf v 15 8 ≤ 144 ∧ s.b ADC.ADC_STAT'REF_SETTLED = true ∧
        (∀ (i : Nat), i < bitsOf v 15 8 → bit (s.rdN (ADC.RES (bitsOf v 7 0 + i))) 30 = false) ∧
        s.adc.calZeroed = true ∧ s.adc.calFirst = bitsOf v 7 0 ∧ s.adc.calCount = bitsOf v 15 8) (live
        |> (fun (s : State) => { s with adc := { s.adc with calCount := 1 } }) |>.setB ADC.ADC_STAT'REF_SETTLED true
        |> (fun (s : State) => { s with adc := { s.adc with calZeroed := true } })) .host 0x100 ∧
    (fun (s : State) (w : Req) (v : Word) =>
      s.takesWrite w ADC.SYSCAL_CTRL = true ∧ s.standbyWrite w = false ∧ s.mode = 3 ∧ s.adc.calStep = 0 ∧
        1 ≤ bitsOf v 15 8 ∧ bitsOf v 7 0 + bitsOf v 15 8 ≤ 144 ∧ s.b ADC.ADC_STAT'REF_SETTLED = true ∧
        (∀ (i : Nat), i < bitsOf v 15 8 → bit (s.rdN (ADC.RES (bitsOf v 7 0 + i))) 30 = false)) (live
        |>.setB ADC.ADC_STAT'REF_SETTLED true) .host 0x100 ∧
    (fun (s : State) (w : Req) =>
      s.takesWrite w ADC.SYSCAL_CTRL = true ∧ s.mode = 3 ∧ s.adc.calBegun = true) (live
        |> (fun (s : State) => { s with adc := { s.adc with calBegun := true } })) .host ∧
    (fun (s : State) =>
      s.domOn pdADC = true ∧ s.adc.calN = 4096 ∧ (s.adc.calStep = 1 ∨ s.adc.calStep = 2) ∧
        s.adc.calFirst + s.adc.calCount ≤ 144) (up
        |> (fun (s : State) => { s with adc := { s.adc with calN := 4096 } })
        |> (fun (s : State) => { s with adc := { s.adc with calStep := 1 } })) ∧
    (fun (s : State) =>
      s.domOn pdADC = true ∧ s.adc.calStep = 3 ∧ s.nand.ops = [] ∧ s.nand.cur = none ∧
        (¬(List.find? (fun c => c.snd.part == 3 && leAt c.snd.data 0 1 == 1 && leAt c.snd.data 2 2 == s.adc.saveId) s.nand.pages.cells).isSome = true)) (up |> (fun (s : State) => { s with adc := { s.adc with calStep := 3 } })) := by
  decide +kernel

theorem test_meets_AdcCaptureRuns :
    (fun (s : State) (w : Req) (v : Word) =>
      s.takesWrite w ADC.CAP_CTRL = true ∧ bitsOf v 25 24 = 3 ∧ bitsOf v 30 30 = 0 ∧ s.capOverlap = false ∧
        s.ledgerHolds 6 0 = false ∧ s.pwr.waiting = [] ∧ s.ledgerUsed + 1 ≤ s.budget) (live
        |>.set CTL.CCAP_BASE'BASE 1000) .host 0x03000000 ∧
    (fun (s : State) (w : Req) =>
      s.takesWrite w ADC.CAP_CTRL = true ∧ s.f ADC.CAP_STAT'STATE = 2) (up |>.set ADC.CAP_STAT'STATE 2) .host ∧
    (fun (s : State) =>
      s.f ADC.CAP_STAT'STATE = 2 ∧ (s.f ADC.CAP_CTRL'TRIG_SRC = 3 ∨ s.evt.capTrig = true)) (up
        |>.set ADC.CAP_STAT'STATE 2 |>.set ADC.CAP_CTRL'TRIG_SRC 3) ∧
    (fun (s : State) =>
      s.f ADC.CAP_STAT'STATE = 3 ∧ s.adc.postLeft = 0) (up |>.set ADC.CAP_STAT'STATE 3) := by
  decide +kernel

theorem test_meets_ShadowSetWritesAndReadyMarks_a :
    (fun (s : State) (w : Req) (g : Fin 72) =>
      s.takesWrite w (PWM.GRP_CMD g.val) = true ∧ s.f (PWM.GRP_CFG'SRC g.val) ≠ 1) up .host 0 ∧
    (fun (s : State) (w : Req) (g : Fin 72) =>
      s.takesWrite w (PWM.GRP_CMD g.val) = true ∧ s.f (PWM.GRP_CFG'MODE g.val) = 1 ∧
        s.f (PWM.GRP_CFG'SPARE_SRC g.val) = 1) (live |>.set (PWM.GRP_CFG'SPARE_SRC 0) 1) .host 0 ∧
    (fun (s : State) (w : Req) (g : Fin 72) =>
      s.takesWrite w (PWM.GRP_CMD g.val) = true ∧ (¬(s.f (PWM.GRP_CFG'MODE g.val) = 1 ∧
        s.f (PWM.GRP_CFG'SPARE_SRC g.val) = 1))) up .host 0 ∧
    (fun (s : State) (w : Req) (g : Fin 72) (p : Fin 4) =>
      s.takesWrite w (PWM.DUTY_SH g.val p.val) = true ∧ g.val < 64 ∧ p.val = 3) up .host 0 3 ∧
    (fun (s : State) (w : Req) (g : Fin 72) (p : Fin 4) =>
      s.takesWrite w (PWM.DUTY_SH g.val p.val) = true ∧ (¬(g.val < 64 ∧ p.val = 3)) ∧
        (s.f (PWM.GRP_CFG'SRC g.val) = 1 ∨ p.val = 3 ∧ s.f (PWM.GRP_CFG'MODE g.val) = 1 ∧
        s.f (PWM.GRP_CFG'SPARE_SRC g.val) = 1) ∧ s.setReady g.val p.val = false) (up
        |>.set (PWM.GRP_CFG'SRC 0) 1) .host 0 0 ∧
    (fun (s : State) (w : Req) (g : Fin 72) (p : Fin 4) =>
      s.takesWrite w (PWM.DUTY_SH g.val p.val) = true ∧ (¬(g.val < 64 ∧ p.val = 3)) ∧
        (¬((s.f (PWM.GRP_CFG'SRC g.val) = 1 ∨ p.val = 3 ∧ s.f (PWM.GRP_CFG'MODE g.val) = 1 ∧
        s.f (PWM.GRP_CFG'SPARE_SRC g.val) = 1) ∧ s.setReady g.val p.val = false))) up .host 0 0 ∧
    (fun (s : State) (w : Req) (g : Fin 72) (p : Fin 4) =>
      s.takesWrite w (PWM.DT_CFG g.val p.val) = true ∧ g.val < 64 ∧ p.val = 3) up .host 0 3 ∧
    (fun (s : State) (w : Req) (g : Fin 72) (p : Fin 4) =>
      s.takesWrite w (PWM.DT_CFG g.val p.val) = true ∧ (¬(g.val < 64 ∧ p.val = 3)) ∧ s.mode = 3 ∧
        s.setReady g.val p.val = false) live .host 0 0 := by
  decide +kernel

theorem test_meets_ShadowSetWritesAndReadyMarks_b :
    (fun (s : State) (w : Req) (g : Fin 72) (p : Fin 4) =>
      s.takesWrite w (PWM.DT_CFG g.val p.val) = true ∧ (¬(g.val < 64 ∧ p.val = 3)) ∧ (¬(s.mode = 3 ∧
        s.setReady g.val p.val = false))) up .host 0 0 ∧
    (fun (s : State) (w : Req) (g : Fin 72) =>
      s.takesWrite w (PWM.GRP_CFG g.val) = true ∧ s.mode = 3) live .host 0 ∧
    (fun (s : State) (w : Req) (g : Fin 72) (v : Word) =>
      s.takesWrite w (PWM.GRP_CFG g.val) = true ∧ (¬s.mode = 3) ∧
        bitsOf v 5 4 ≠ s.f (PWM.GRP_CFG'SRC g.val)) up .host 0 0xFFFFFFFF := by
  decide +kernel

theorem test_meets_TripsLatchMaskAndClear :
    (fun (s : State) (w : Req) (g : Fin 72) =>
      s.takesWrite w (PWM.GRP_CMD g.val) = true ∧ s.b (PWM.GRP_STAT'TRIPPED g.val) = false ∧
        s.tripLow g.val = false) up .host 0 ∧
    (fun (s : State) (g : Fin 72) (c : Nat) =>
      s.domOn pdCTL = true ∧ s.b (PWM.GRP_STAT'TRIPPED g.val) = false ∧
        ((List.filter (fun x => s.srcActive x && !s.srcMasked x) (s.grpSources g.val)).min? = some c) ∧
        s.tripLow g.val = false) (up |>.set (PWM.TRIP_EN'EN 71) 1 |>.set PWM.TRIP_PIN_LIVE'LIVE 1) 71 0 ∧
    (fun (s : State) (w : Req) (g : Fin 72) =>
      s.takesWrite w (PWM.GRP_CMD g.val) = true ∧ (¬s.b (PWM.GRP_STAT'TRIPPED g.val) = false) ∧
        (s.grpSources g.val).any s.srcActive = true) (up |>.set (PWM.TRIP_EN'EN 71) 1 |>.set PWM.TRIP_PIN_LIVE'LIVE 1
        |>.setB (PWM.GRP_STAT'TRIPPED 71) true) .host 71 ∧
    (fun (s : State) (w : Req) (g : Fin 72) =>
      s.takesWrite w (PWM.GRP_CMD g.val) = true ∧ (¬s.b (PWM.GRP_STAT'TRIPPED g.val) = false) ∧
        (¬(s.grpSources g.val).any s.srcActive = true)) (up |>.setB (PWM.GRP_STAT'TRIPPED 0) true) .host 0 ∧
    (fun (s : State) (b : Fin 32) =>
      s.domOn pdCTL = true ∧ s.b (PWM.BLANK_STAT'OPEN b.val) = true ∧
        s.srcActive (s.f (PWM.BLANK_CFG'SRC b.val)) = false) (up |>.setB (PWM.BLANK_STAT'OPEN 0) true) 0 ∧
    (fun (s : State) (b : Fin 32) =>
      s.domOn pdCTL = true ∧ s.b (PWM.BLANK_STAT'OPEN b.val) = true ∧
        s.srcActive (s.f (PWM.BLANK_CFG'SRC b.val)) = true ∧
        (∀ (k : Nat), k < 32 → k ≠ b.val → s.b (PWM.BLANK_CFG'EN k) = true → s.f (PWM.BLANK_CFG'SRC k) = s.f (PWM.BLANK_CFG'SRC b.val) → s.b (PWM.BLANK_STAT'OPEN k) = false)) (up |>.set PWM.TRIP_PIN_LIVE'LIVE 1 |>.setB (PWM.BLANK_STAT'OPEN 0) true) 0 ∧
    (fun (s : State) (w : Req) =>
      s.takesWrite w PWM.TRIP_PIN_CFG = true) up .host ∧
    (fun (s : State) (n : Nat) =>
      n < s.f PWM.TRIP_PIN_CFG'QUAL) up 0 ∧
    (fun (s : State) (n : Nat) =>
      s.domOn pdCTL = true ∧ s.f PWM.TRIP_PIN_CFG'QUAL ≤ n) up 2 := by
  decide +kernel

theorem test_meets_EdgesAndReloadsDriveTheGates :
    (fun (s : State) (g : Fin 72) (p : Fin 4) (count : Nat) (high : Bool) (on : Bool) =>
      s.domOn pdCTL = true ∧ p.val ∈ s.grpPairs g.val ∧ (count, high, on) ∈ ((s.grp g.val).pair p.val).due ∧
        count < s.pwm.per ∧ (on = if high = true then ((s.grp g.val).pair p.val).hi else ((s.grp g.val).pair p.val).low)) (live |> (fun (s : State) => s.setGrp 0 { s.grp 0 with p0 := { (s.grp 0).p0 with due := [(0, false, false)] } })) 0 0 0 false false ∧
    (fun (s : State) (x : Nat) (g : Fin 72) (n : Nat) (p : Nat) =>
      s.domOn pdCTL = true ∧ s.pwm.relNs ≠ x + 1 ∧ n < 8 ∧ g.val = 64 + n ∧ s.grpMode g.val = modeSTEPPER ∧
        s.b (PRF.ST_CFG'EN n) = true ∧ (s.grp g.val).lateMain = false ∧ p < 4) (up |>.set (PWM.GRP_CFG'MODE 64) 2
        |>.setB (PRF.ST_CFG'EN 0) true) 0 64 0 0 ∧
    (fun (s : State) (x : Nat) (g : Fin 72) (p : Nat) =>
      s.domOn pdCTL = true ∧ s.pwm.relNs ≠ x + 1 ∧ s.b (PWM.GRP_STAT'SHADOW_READY g.val) = true ∧
        (s.grp g.val).lateMain = false ∧ p ∈ s.mainPairs g.val) (up |>.setB (PWM.GRP_STAT'SHADOW_READY 0) true) 0 0 0 ∧
    (fun (s : State) (x : Nat) (g : Fin 72) (p : Nat) =>
      s.domOn pdCTL = true ∧ s.pwm.relNs ≠ x + 1 ∧ s.b (PWM.GRP_STAT'SHADOW_READY g.val) = false ∧
        s.b (PWM.GRP_STAT'SPARE_READY g.val) = false ∧ s.grpMode g.val ≠ modeSTEPPER ∧ p < 4) up 0 0 0 ∧
    (fun (s : State) (c : Nat) =>
      s.domOn pdCTL = true ∧ s.b PWM.PWM_CTRL'SYNC_IN_EN = true ∧ s.pwm.reloadTick ≤ s.time.ticks ∧ s.count0 ≤ c) (up
        |>.setB PWM.PWM_CTRL'SYNC_IN_EN true) 0 := by
  decide +kernel

theorem test_meets_BrickPortsTrainAndDrop :
    (fun (s : State) (n : Fin 16) (w : Req) =>
      s.takesWrite w (BLK.PORT_CMD n.val) = true) up 0 .host ∧
    (fun (s : State) (n : Fin 16) =>
      s.domOn pdLINK = true ∧ s.b (BLK.PORT_CFG'EN n.val) = true ∧ s.f (BLK.PORT_STAT'STATE n.val) = 0) (up
        |>.setB (BLK.PORT_CFG'EN 0) true) 0 ∧
    (fun (s : State) (n : Fin 16) =>
      s.domOn pdLINK = true ∧ s.f (BLK.PORT_STAT'STATE n.val) = 1 ∧ s.domOn pdTIME = true ∧
        0 < dtIncr s.time.rate) (up |>.set (BLK.PORT_STAT'STATE 0) 1) 0 ∧
    (fun (l : List (Nat × Nat)) =>
      exchangesOk l = false) ([]) ∧
    (fun (s : State) (n : Fin 16) (l : List (Nat × Nat)) (trip : Nat) (turn : Nat) =>
      s.domOn pdLINK = true ∧ s.f (BLK.PORT_STAT'STATE n.val) = 2 ∧ (l ++ [(trip, turn)]).length = 8 ∧
        (∀ x ∈ l ++ [(trip, turn)], ∀ y ∈ l ++ [(trip, turn)], x.fst + y.snd ≤ y.fst + x.snd + 1)) (up
        |>.set (BLK.PORT_STAT'STATE 0) 2) 0 ((List.replicate 7 (10, 10))) 10 10 ∧
    (fun (s : State) (n : Fin 16) =>
      s.domOn pdLINK = true ∧ s.f (BLK.PORT_STAT'STATE n.val) = 3) (up |>.set (BLK.PORT_STAT'STATE 0) 3) 0 := by
  decide +kernel

theorem test_meets_StatusFramesUpdateAnUpPort :
    (fun (s : State) (n : Fin 16) =>
      (s.domOn pdLINK = false ∨ s.f (BLK.PORT_STAT'STATE n.val) ≠ 3)) up 0 ∧
    (fun (s : State) (n : Fin 16) (fr : List Byte) =>
      s.domOn pdLINK = true ∧ s.f (BLK.PORT_STAT'STATE n.val) = 3 ∧ (fr.length ≠ 28 ∨ leAt fr 0 1 ≠ 161 ∨
        leAt fr 26 2 ≠ crc16 (List.take 26 fr))) (up |>.set (BLK.PORT_STAT'STATE 0) 3) 0 ([]) ∧
    (fun (s : State) (n : Fin 16) (fr : List Byte) =>
      s.domOn pdLINK = true ∧ s.f (BLK.PORT_STAT'STATE n.val) = 3 ∧ fr.length = 28 ∧ leAt fr 0 1 = 161 ∧
        leAt fr 26 2 = crc16 (List.take 26 fr) ∧ bit (leAt fr 4 1) 0 = false) (up
        |>.set (BLK.PORT_STAT'STATE 0) 3) 0 ((have d := 0xA1 :: List.replicate 25 0; d ++ toLE 2 (crc16 d))) ∧
    (fun (s : State) (n : Fin 16) (q : List Nat) (td : Nat) (e : Nat) (k : Nat) (r : List (Nat × Nat)) =>
      s.domOn pdLINK = true ∧ s.f (BLK.PORT_STAT'STATE n.val) = 3 ∧ s.domOn pdTIME = true ∧ 0 < dtIncr s.time.rate ∧
        (s.bport n.val).tripQ = q ++ [td] ∧ (s.bport n.val).tx = (e, k) :: r) (up |>.set (BLK.PORT_STAT'STATE 0) 3
        |> (fun (s : State) => s.setBport 0 { s.bport 0 with tripQ := ([]) ++ [0] })
        |> (fun (s : State) => s.setBport 0 { s.bport 0 with tx := (0, 0) :: ([]) })) 0 ([]) 0 0 0 ([]) ∧
    (fun (s : State) (n : Fin 16) =>
      s.domOn pdLINK = true ∧ s.f (BLK.PORT_STAT'STATE n.val) = 3 ∧ (s.bport n.val).standbyFrame ≠ []) (up
        |> (fun (s : State) => s.setBport 0 { s.bport 0 with standbyFrame := [1] }) |>.set (BLK.PORT_STAT'STATE 0) 3) 0 := by
  decide +kernel

theorem test_meets_FeedbackCountsAndLatches :
    (fun (s : State) (c : Fin 72) (hold : Nat) =>
      s.domOn pdCTL = true ∧ s.fbCounts c.val = true ∧ (s.fbc c.val).skipTrack = false ∧
        hold < s.f (FB.FB_CFG'FILT c.val)) (up |>.setB (FB.FB_CFG'EN 0) true) 0 0 ∧
    (fun (s : State) (c : Fin 72) (hold : Nat) (track : Bool) (phase : Bool) =>
      s.domOn pdCTL = true ∧ s.fbCounts c.val = true ∧ (s.fbc c.val).skipTrack = false ∧
        s.f (FB.FB_CFG'FILT c.val) ≤ hold ∧ (track != (s.fbc c.val).track) = true ∧
        (phase != (s.fbc c.val).phase) = true ∧ s.f (FB.FB_CFG'REF_KIND c.val) = 2) (up |>.setB (FB.FB_CFG'EN 0) true
        |>.set (FB.FB_CFG'REF_KIND 0) 2) 0 2 true true ∧
    (fun (s : State) (c : Fin 72) (hold : Nat) (track : Bool) (phase : Bool) =>
      s.domOn pdCTL = true ∧ s.fbCounts c.val = true ∧ (s.fbc c.val).skipTrack = false ∧
        s.f (FB.FB_CFG'FILT c.val) ≤ hold ∧ (track != (s.fbc c.val).track) ≠ (phase != (s.fbc c.val).phase) ∧
        s.f (FB.FB_CFG'REF_KIND c.val) = 2 ∧ s.b (FB.FB_STAT'REF_SEEN c.val) = false ∧
        s.b (FB.CMP_CTRL'EN c.val) = false) (up |>.setB (FB.FB_CFG'EN 0) true
        |>.set (FB.FB_CFG'REF_KIND 0) 2) 0 2 false true ∧
    (fun (s : State) (c : Fin 72) =>
      s.domOn pdCTL = true ∧ s.b (FB.FB_STAT'STILL c.val) = false) (up |>.setB (FB.FB_STAT'STILL 0) false) 0 ∧
    (fun (s : State) (c : Fin 72) =>
      s.domOn pdCTL = true ∧ (s.fbc c.val).pulse = true) (up
        |> (fun (s : State) => s.setFbc 0 { s.fbc 0 with pulse := true })) 0 ∧
    (fun (s : State) =>
      s.domOn pdTIME = true ∧ s.domOn pdCTL = true ∧ s.cycRun = true ∧ s.time.startNs < s.time.l0next) live := by
  decide +kernel

theorem test_meets_WireFaultsAndClears :
    (fun (s : State) (c : Fin 72) (legs : Fin 16) (held : Nat) =>
      s.domOn pdCTL = true ∧ s.b (FB.WIRE_STAT'TRACK_BAD c.val) = false ∧ s.b (FB.WIRE_STAT'PHASE_BAD c.val) = false ∧
        (∀ (a : Nat), s.fbAxis c.val = some a → s.axGroup a < 72) ∧
        (∀ (q : PortTopo), q ∈ s.cfg.portals → q.used = true → q.fb ≠ c.val) ∧
        (decide (80 < held) && (bit (legs.val) 0 == bit (legs.val) 1 || bit (legs.val) 2 == bit (legs.val) 3)) = true ∧
        s.fbAxis c.val = none) up 0 0 255 ∧
    (fun (s : State) (c : Fin 72) (legs : Fin 16) (held : Nat) =>
      s.domOn pdCTL = true ∧ s.b (FB.WIRE_STAT'TRACK_BAD c.val) = false ∧ s.b (FB.WIRE_STAT'PHASE_BAD c.val) = false ∧
        (∀ (a : Nat), s.fbAxis c.val = some a → s.axGroup a < 72) ∧
        (∀ (q : PortTopo), q ∈ s.cfg.portals → q.used = true → q.fb ≠ c.val) ∧
        (decide (80 < held) && (bit (legs.val) 0 == bit (legs.val) 1 || bit (legs.val) 2 == bit (legs.val) 3)) = false) up 0 0 0 ∧
    (fun (s : State) (w : Req) (c : Fin 72) =>
      s.takesWrite w (FB.FB_CMD c.val) = true ∧ s.b (FB.FB_STAT'FB_FAULT c.val) = false) up .host 0 ∧
    (fun (s : State) (w : Req) (c : Fin 72) =>
      s.takesWrite w (FB.FB_CMD c.val) = true ∧ (¬s.b (FB.FB_STAT'FB_FAULT c.val) = false) ∧
        (¬s.fbCausePersists c.val = true)) (up |>.setB (FB.FB_STAT'FB_FAULT 0) true) .host 0 ∧
    (fun (s : State) (w : Req) (c : Fin 72) =>
      s.takesWrite w (FB.FB_CMD c.val) = true ∧ s.b (FB.FB_STAT'STILL c.val) = true) up .host 0 ∧
    (fun (s : State) (w : Req) (c : Fin 72) =>
      s.takesWrite w (FB.FB_CMD c.val) = true ∧ (¬s.b (FB.FB_STAT'STILL c.val) = true)) (up
        |>.setB (FB.FB_STAT'STILL 0) false) .host 0 := by
  decide +kernel

theorem test_meets_FeedbackConfigurationAndCompare :
    (fun (s : State) (w : Req) (c : Fin 72) (r : Fin 4) =>
      s.takesWrite w (fbCfgReg c.val r.val) = true ∧ (¬((s.fbAxis c.val).isSome = true ∧ s.mode ≠ 3)) ∧
        r.val = 0) up .host 0 0 ∧
    (fun (s : State) (w : Req) (c : Fin 72) (r : Fin 4) (v : Word) =>
      s.takesWrite w (fbCfgReg c.val r.val) = true ∧ (¬((s.fbAxis c.val).isSome = true ∧ s.mode ≠ 3)) ∧ r.val = 1 ∧
        bitsOf v 15 0 < bitsOf v 31 16) up .host 0 1 0x80000000 ∧
    (fun (s : State) (w : Req) (c : Fin 72) (r : Fin 4) (v : Word) =>
      s.takesWrite w (fbCfgReg c.val r.val) = true ∧ (¬((s.fbAxis c.val).isSome = true ∧ s.mode ≠ 3)) ∧ r.val = 1 ∧
        (¬bitsOf v 15 0 < bitsOf v 31 16)) up .host 0 1 0 ∧
    (fun (s : State) (w : Req) (c : Fin 72) (v : Word) =>
      s.takesWrite w (FB.CMP_VAL c.val) = true ∧
        0 ≤ wrap32 (BitVec.toInt v - (s.fbc c.val).pos) * s.cmpDir c.val) up .host 0 0 ∧
    (fun (s : State) (w : Req) (c : Fin 72) (v : Word) =>
      s.takesWrite w (FB.CMP_VAL c.val) = true ∧ wrap32 (BitVec.toInt v - (s.fbc c.val).pos) * s.cmpDir c.val < 0 ∧
        s.b (FB.CMP_CTRL'MODE c.val) = false ∧ s.rdN (FB.CMP_SPACING c.val) = 0) up .host 0 0xFFFFFFFF ∧
    (fun (s : State) (w : Req) (c : Fin 72) (v : Word) =>
      s.takesWrite w (FB.CMP_VAL c.val) = true ∧ wrap32 (BitVec.toInt v - (s.fbc c.val).pos) * s.cmpDir c.val < 0 ∧
        s.b (FB.CMP_CTRL'MODE c.val) = true ∧ s.rdN (FB.CMP_SPACING c.val) = 0) (up
        |>.setB (FB.CMP_CTRL'MODE 0) true) .host 0 0xFFFFFFFF := by
  decide +kernel

theorem test_meets_AxisEnableSourceAndFaultClear_a :
    (fun (s : State) (w : Req) (a : Fin 64) (v : Word) =>
      s.takesWrite w (CTL.AX_CTRL a.val) = true ∧ bit (BitVec.toNat v) 30 = false ∧ bitsOf v 26 24 ≤ 5 ∧
        s.b (CTL.AX_CTRL'EN a.val) = false ∧ s.enRefused a.val = true) up .host 0 0 ∧
    (fun (s : State) (w : Req) (a : Fin 64) =>
      s.takesWrite w (CTL.AX_CTRL a.val) = true ∧ s.f (CTL.AX_STAT'STATE a.val) = 3 ∧
        s.f (CTL.AX_CTRL'SRC_REQ a.val) ≤ 5 ∧ (s.b (FB.FB_STAT'FB_FAULT (s.axTopo a.val).fb) = true ∨
        s.f (CTL.AX_STAT'FAULT_CAUSE a.val) = 2 ∧ (s.ax a.val).lastBad = true)) (up |>.set (CTL.AX_STAT'STATE 0) 3
        |> (fun (s : State) => s.setB (FB.FB_STAT'FB_FAULT (s.axTopo 0).fb) true)) .host 0 ∧
    (fun (s : State) (w : Req) (a : Fin 64) =>
      s.takesWrite w (CTL.AX_CTRL a.val) = true ∧ s.f (CTL.AX_STAT'STATE a.val) = 3 ∧
        s.f (CTL.AX_CTRL'SRC_REQ a.val) ≤ 5 ∧ (¬(s.b (FB.FB_STAT'FB_FAULT (s.axTopo a.val).fb) = true ∨
        s.f (CTL.AX_STAT'FAULT_CAUSE a.val) = 2 ∧ (s.ax a.val).lastBad = true)) ∧
        (s.b (PWM.GRP_STAT'TRIPPED (s.axGroup a.val)) = true ∨ s.axOff a.val = true)) (live
        |>.set (CTL.AX_STAT'STATE 0) 3) .host 0 ∧
    (fun (s : State) (w : Req) (a : Fin 64) =>
      s.takesWrite w (CTL.AX_CTRL a.val) = true ∧ s.f (CTL.AX_STAT'STATE a.val) = 3 ∧
        s.f (CTL.AX_CTRL'SRC_REQ a.val) ≤ 5 ∧ (¬(s.b (FB.FB_STAT'FB_FAULT (s.axTopo a.val).fb) = true ∨
        s.f (CTL.AX_STAT'FAULT_CAUSE a.val) = 2 ∧ (s.ax a.val).lastBad = true)) ∧
        (¬(s.b (PWM.GRP_STAT'TRIPPED (s.axGroup a.val)) = true ∨ s.axOff a.val = true))) (up
        |>.set (CTL.AX_STAT'STATE 0) 3) .host 0 ∧
    (fun (s : State) (w : Req) (a : Fin 64) (src : Fin 8) =>
      s.takesWrite w (CTL.AX_CTRL a.val) = true ∧ s.b (CTL.AX_CTRL'FAULT_CLR a.val) = false ∧ src.val ≤ 5) up .host 0 0 ∧
    (fun (s : State) (a : Fin 64) =>
      srcPermitted (s.f (CTL.AX_STAT'SRC_ACT a.val)) s.mode = true ∧ (s.ax a.val).srcPend = true ∧
        s.f (CTL.AX_CTRL'SRC_REQ a.val) ≠ s.f (CTL.AX_STAT'SRC_ACT a.val) ∧
        srcPermitted (s.f (CTL.AX_CTRL'SRC_REQ a.val)) s.mode = false) (live |>.set (CTL.AX_CTRL'SRC_REQ 0) 1
        |> (fun (s : State) => s.setAx 0 { s.ax 0 with srcPend := true })) 0 ∧
    (fun (s : State) (a : Fin 64) =>
      srcPermitted (s.f (CTL.AX_STAT'SRC_ACT a.val)) s.mode = true ∧ (s.ax a.val).srcPend = true ∧
        s.f (CTL.AX_CTRL'SRC_REQ a.val) ≠ s.f (CTL.AX_STAT'SRC_ACT a.val) ∧
        srcPermitted (s.f (CTL.AX_CTRL'SRC_REQ a.val)) s.mode = true ∧ (s.f (CTL.AX_CTRL'SRC_REQ a.val) = 0 ∨
        s.f (CTL.AX_CTRL'SRC_REQ a.val) = 4 ∨ s.f (CTL.AX_CTRL'SRC_REQ a.val) = 5)) (live
        |>.set (CTL.AX_STAT'SRC_ACT 0) 2 |> (fun (s : State) => s.setAx 0 { s.ax 0 with srcPend := true })) 0 := by
  decide +kernel

theorem test_meets_AxisEnableSourceAndFaultClear_b :
    (fun (s : State) (w : Req) (a : Fin 64) (r : Fin 256) =>
      isEngineCfg r.val = true ∧ s.takesWrite w (CTL.AX_CTRL a.val + 4 * r.val) = true ∧ s.mode = 3 ∧
        r.val = 128 / 4) live .host 0 32 ∧
    (fun (s : State) (w : Req) (a : Fin 64) (r : Fin 256) =>
      isEngineCfg r.val = true ∧ s.takesWrite w (CTL.AX_CTRL a.val + 4 * r.val) = true ∧ s.mode = 3 ∧
        r.val = 176 / 4) live .host 0 44 ∧
    (fun (s : State) (w : Req) (a : Fin 64) (r : Fin 256) =>
      isEngineCfg r.val = true ∧ s.takesWrite w (CTL.AX_CTRL a.val + 4 * r.val) = true ∧ s.mode = 3 ∧
        r.val = 164 / 4) live .host 0 41 ∧
    (fun (s : State) (w : Req) (a : Fin 64) (r : Fin 256) =>
      isEngineCfg r.val = true ∧ s.takesWrite w (CTL.AX_CTRL a.val + 4 * r.val) = true ∧ (¬s.mode = 3)) up .host 0 48 := by
  decide +kernel

theorem test_meets_CurrentLoopUpdates_a :
    (fun (s : State) (a : Fin 64) =>
      s.domOn pdCTL = true ∧ s.cycRun = true ∧ s.axGroup a.val < 72 ∧ (s.axUsed a.val = false ∧
        s.f (CTL.AX_STAT'STATE a.val) = 0 ∨ s.axUsed a.val = true ∧ bit s.ctl.l0done a.val = true)) (up
        |>.setB SYS.CYCLE_CFG'CYC_RUN true) 0 ∧
    (fun (s : State) (a : Fin 64) =>
      s.domOn pdCTL = true ∧ s.cycRun = true ∧ s.axGroup a.val < 72 ∧ s.axUsed a.val = false) (up
        |>.setB SYS.CYCLE_CFG'CYC_RUN true) 0 ∧
    (fun (s : State) (a : Fin 64) =>
      s.domOn pdCTL = true ∧ s.cycRun = true ∧ s.axGroup a.val < 72 ∧ s.domOn pdTIME = true ∧
        0 < dtIncr s.time.rate) live 0 ∧
    (fun (s : State) (a : Fin 64) =>
      s.domOn pdCTL = true ∧ s.cycRun = true ∧ s.axGroup a.val < 72 ∧ s.axUsed a.val = true ∧
        bit s.ctl.l0done a.val = false ∧ s.axHost a.val = false ∧ s.b (CTL.AX_CTRL'EN a.val) = false) live 0 := by
  decide +kernel

theorem test_meets_CurrentLoopUpdates_b :
    (fun (s : State) (a : Fin 64) =>
      s.domOn pdCTL = true ∧ s.cycRun = true ∧ s.axGroup a.val < 72 ∧ s.axUsed a.val = true ∧
        bit s.ctl.l0done a.val = false ∧ s.axHost a.val = false ∧ s.b (CTL.AX_CTRL'EN a.val) = true ∧
        s.f (CTL.AX_STAT'STATE a.val) = 1 ∧ s.b (PWM.GRP_STAT'TRIPPED (s.axGroup a.val)) = false ∧
        s.axOff a.val = false ∧ (s.ax a.val).hosted = false ∧
        (usable (s.slotWord (s.axTopo a.val).ainA) && usable (s.slotWord (s.axTopo a.val).ainB)) = false ∧
        (¬s.f (CTL.FAULT_CFG'BAD_MAX a.val) ≤ min (s.f (CTL.AX_STAT'BAD_RUN a.val) + 1) 255)) (live
        |> (fun (s : State) => s.setBport 0 { s.bport 0 with okStat := true }) |>.setB (CTL.AX_CTRL'EN 0) true
        |>.set (CTL.AX_STAT'STATE 0) 1) 0 := by
  decide +kernel

theorem test_meets_InjectionAndEngineCapture_a :
    (fun (s : State) (w : Req) (a : Fin 64) (v : Word) =>
      s.takesWrite w (CTL.INJ_CTRL a.val) = true ∧ bit (BitVec.toNat v) 30 = false ∧ (s.mode ≠ 3 ∨
        s.f (CTL.AX_STAT'STATE a.val) ≠ 1)) up .host 0 0 ∧
    (fun (s : State) (w : Req) (a : Fin 64) (v : Word) =>
      s.takesWrite w (CTL.INJ_CTRL a.val) = true ∧ bit (BitVec.toNat v) 30 = false ∧ (¬(s.mode ≠ 3 ∨
        s.f (CTL.AX_STAT'STATE a.val) ≠ 1)) ∧ (s.f (CTL.INJ_STAT'STATE a.val) = 1 ∨
        s.f (CTL.INJ_STAT'STATE a.val) = 2)) (up |>.set SYS.MODE_STAT'MODE 3 |>.set (CTL.AX_STAT'STATE 0) 1
        |>.set (CTL.INJ_STAT'STATE 0) 1) .host 0 0 ∧
    (fun (s : State) (w : Req) (a : Fin 64) (v : Word) =>
      s.takesWrite w (CTL.INJ_CTRL a.val) = true ∧ bit (BitVec.toNat v) 30 = false ∧ (¬(s.mode ≠ 3 ∨
        s.f (CTL.AX_STAT'STATE a.val) ≠ 1)) ∧ (¬(s.f (CTL.INJ_STAT'STATE a.val) = 1 ∨
        s.f (CTL.INJ_STAT'STATE a.val) = 2)) ∧ bitsOf v 27 26 = 0 ∧ (¬(prbsTap (bitsOf v 20 16)).isSome = true)) (up
        |>.set SYS.MODE_STAT'MODE 3 |>.set (CTL.AX_STAT'STATE 0) 1) .host 0 0 ∧
    (fun (s : State) (w : Req) (a : Fin 64) =>
      s.takesWrite w (CTL.INJ_CTRL a.val) = true ∧ s.b (CTL.INJ_CTRL'GO a.val) = false ∧
        (s.f (CTL.INJ_STAT'STATE a.val) = 1 ∨ s.f (CTL.INJ_STAT'STATE a.val) = 2)) (up
        |>.set (CTL.INJ_STAT'STATE 0) 1) .host 0 ∧
    (fun (s : State) (a : Fin 64) =>
      s.domOn pdCTL = true ∧ s.f (CTL.INJ_STAT'STATE a.val) = 2 ∧ s.rdN (CTL.INJ_LEN a.val) ≠ 0 ∧
        s.rdN (CTL.INJ_LEN a.val) ≤ (s.ax a.val).injN) (up |>.wr (CTL.INJ_LEN 0) 1
        |> (fun (s : State) => s.setAx 0 { s.ax 0 with injN := 1 }) |>.set (CTL.INJ_STAT'STATE 0) 2) 0 ∧
    (fun (s : State) (w : Req) (v : Word) =>
      s.takesWrite w CTL.CCAP_CTRL = true ∧ bit (BitVec.toNat v) 30 = false ∧ bit (BitVec.toNat v) 29 = false ∧
        bitsOf v 26 24 = 4 ∧ s.capOverlap = false ∧ s.ccapBase + ccapLen ≤ 4194304 ∧ s.ledgerHolds 6 1 = false ∧
        s.pwr.waiting = [] ∧ s.ledgerUsed + 1 ≤ s.budget) (live |>.set CTL.CCAP_BASE'BASE 900) .host 0x04000000 ∧
    (fun (s : State) (w : Req) (v : Word) =>
      s.takesWrite w CTL.CCAP_CTRL = true ∧ 1 ≤ s.f CTL.CCAP_STAT'STATE ∧ s.f CTL.CCAP_STAT'STATE ≤ 3 ∧
        bit (BitVec.toNat v) 29 = false) (up |>.set CTL.CCAP_STAT'STATE 1) .host 0 := by
  decide +kernel

theorem test_meets_InjectionAndEngineCapture_b :
    (fun (s : State) (w : Req) (v : Word) =>
      s.takesWrite w CTL.CCAP_CTRL = true ∧ s.f CTL.CCAP_STAT'STATE = 2 ∧ bitsOf v 26 24 = 4 ∧ s.ctl.ccW < 16384) (up
        |>.set CTL.CCAP_STAT'STATE 2) .host 0x04000000 ∧
    (fun (s : State) =>
      s.domOn pdCTL = true ∧ s.f CTL.CCAP_STAT'STATE = 2 ∧ s.evt.ccTrig = true ∧ s.ctl.ccW < 16384) (up
        |>.set CTL.CCAP_STAT'STATE 2 |> (fun (s : State) => { s with evt := { s.evt with ccTrig := true } })) ∧
    (fun (s : State) =>
      s.domOn pdCTL = true ∧ s.f CTL.CCAP_STAT'STATE = 3 ∧ s.ctl.ccLeft = 0) (up |>.set CTL.CCAP_STAT'STATE 3) := by
  decide +kernel

theorem test_meets_ProfileGeneratorCommands :
    (fun (s : State) (w : Req) (g : Fin 72) =>
      s.takesWrite w (PRF.PG_CMD g.val) = true ∧ s.b (PRF.PG_CMD'START g.val) = false ∧
        s.b (PRF.PG_CMD'STOP g.val) = false ∧ (¬(s.pgState g.val = 1 ∧
        s.pgOutward (g.val) (sgn (diff40 (s.pgTarget g.val) (s.pg g.val).pos)) = false))) up .host 0 ∧
    (fun (s : State) (w : Req) (g : Fin 72) =>
      s.takesWrite w (PRF.PG_CMD g.val) = true ∧ s.b (PRF.PG_CMD'START g.val) = false ∧
        s.b (PRF.PG_CMD'STOP g.val) = false ∧ s.b (PRF.PG_CMD'JOG_POS g.val) = false ∧
        s.b (PRF.PG_CMD'JOG_NEG g.val) = false ∧ (¬(s.pgState g.val = 1 ∧ s.pgOutward (g.val) 1 = false))) up .host 0 ∧
    (fun (s : State) (w : Req) (g : Fin 72) =>
      s.takesWrite w (PRF.PG_CMD g.val) = true ∧ s.b (PRF.PG_CMD'START g.val) = false ∧
        s.b (PRF.PG_CMD'STOP g.val) = false ∧ s.b (PRF.PG_CMD'JOG_POS g.val) = false ∧
        s.b (PRF.PG_CMD'JOG_NEG g.val) = false ∧ (¬(s.pgState g.val = 1 ∧ s.pgOutward (g.val) (-1) = false))) up .host 0 ∧
    (fun (s : State) (g : Fin 72) =>
      (s.pg g.val).stopPend = true ∧ (s.pgState g.val = 2 ∨ s.pgState g.val = 3)) (up |>.set (PRF.PG_STAT'STATE 0) 2
        |> (fun (s : State) => s.setPg 0 { s.pg 0 with stopPend := true })) 0 ∧
    (fun (s : State) (g : Fin 72) =>
      (s.pg g.val).stopPend = false ∧ (s.pg g.val).startPend = true ∧ s.pgState g.val = 1) (up
        |>.set (PRF.PG_STAT'STATE 0) 1 |> (fun (s : State) => s.setPg 0 { s.pg 0 with startPend := true })) 0 ∧
    (fun (s : State) (w : Req) (g : Fin 72) (hi : Bool) =>
      (s.takesWrite w (if hi = true then PRF.TARGET_HI g.val else PRF.TARGET_LO g.val) = true) ∧ (s.pgState g.val = 0 ∨
        s.pgState g.val = 1)) up .host 0 false ∧
    (fun (s : State) (w : Req) (g : Fin 72) (r : Fin 4) (v : Word) =>
      s.takesWrite w (pgLimReg g.val r.val) = true ∧ v = 0) up .host 0 0 0 ∧
    (fun (s : State) (w : Req) (g : Fin 72) (r : Fin 4) (v : Word) =>
      s.takesWrite w (pgLimReg g.val r.val) = true ∧ (¬v = 0)) up .host 0 0 1 ∧
    (fun (s : State) (w : Req) (g : Fin 72) (upper : Bool) (hi : Bool) (v : Word) =>
      s.takesWrite w (pgVlimReg (g.val) upper hi) = true ∧
        ((s.wr (pgVlimReg (g.val) upper hi) (if hi = true then hiWord v else v)).pgHi g.val < (s.wr (pgVlimReg (g.val) upper hi) (if hi = true then hiWord v else v)).pgLo g.val)) up .host 0 false false 1 ∧
    (fun (s : State) (w : Req) (g : Fin 72) (upper : Bool) (hi : Bool) (v : Word) =>
      s.takesWrite w (pgVlimReg (g.val) upper hi) = true ∧
        (¬(s.wr (pgVlimReg (g.val) upper hi) (if hi = true then hiWord v else v)).pgHi g.val < (s.wr (pgVlimReg (g.val) upper hi) (if hi = true then hiWord v else v)).pgLo g.val)) up .host 0 false false 0 := by
  decide +kernel

theorem test_meets_StepperChopperSwitches :
    (fun (s : State) (n : Fin 8) (b : Bool) =>
      s.domOn pdCTL = true ∧ s.stOn n.val = true ∧ s.b (PWM.GRP_STAT'TRIPPED (64 + n.val)) = false ∧
        (s.grp (64 + n.val)).held = false ∧ (s.wind (n.val) b).tgt ≠ 0 ∧ (s.wind (n.val) b).decay = 0 ∧
        (s.wind (n.val) b).blankEnd ≤ s.time.ticks ∧ (s.ach (s.windAin (n.val) b)).above = true) (up
        |>.set (PWM.GRP_CFG'MODE 64) 2 |>.setB (PRF.ST_CFG'EN 0) true |>.set (PRF.PG_STAT'STATE 64) 1
        |> (fun (s : State) => { s with prf := { s.prf with wind := s.prf.wind.set 0 { (s.prf.wind.get 0) with tgt := 100, decay := 0, winN := 64 } } }) |> (fun (s : State) => s.setAch 0 { s.ach 0 with above := true })) 0 false ∧
    (fun (s : State) (n : Fin 8) (b : Bool) =>
      s.domOn pdCTL = true ∧ s.stOn n.val = true ∧ s.b (PWM.GRP_STAT'TRIPPED (64 + n.val)) = false ∧
        (s.grp (64 + n.val)).held = false ∧ (s.wind (n.val) b).tgt ≠ 0 ∧ (s.wind (n.val) b).decay ≠ 0 ∧
        (s.ach (s.windAin (n.val) b)).below = true) (up |>.set (PWM.GRP_CFG'MODE 64) 2 |>.setB (PRF.ST_CFG'EN 0) true
        |>.set (PRF.PG_STAT'STATE 64) 1
        |> (fun (s : State) => { s with prf := { s.prf with wind := s.prf.wind.set 0 { (s.prf.wind.get 0) with tgt := 100, decay := 1, winN := 64 } } }) |> (fun (s : State) => s.setAch 0 { s.ach 0 with below := true })) 0 false ∧
    (fun (s : State) (n : Fin 8) =>
      s.domOn pdCTL = true ∧ s.stOn n.val = true ∧ (s.b (PWM.GRP_STAT'TRIPPED (64 + n.val)) = true ∨
        (s.grp (64 + n.val)).held = true)) (up |>.set (PWM.GRP_CFG'MODE 64) 2 |>.setB (PRF.ST_CFG'EN 0) true
        |>.set (PRF.PG_STAT'STATE 64) 1
        |> (fun (s : State) => { s with prf := { s.prf with wind := s.prf.wind.set 0 { (s.prf.wind.get 0) with tgt := 100, decay := 3, winN := 64 } } }) |>.setB (PWM.GRP_STAT'TRIPPED (64 + 0)) true) 0 ∧
    (fun (s : State) (n : Fin 8) (b : Bool) =>
      s.domOn pdCTL = true ∧ s.stOn n.val = true ∧ (s.wind (n.val) b).decay = 3 ∧
        s.b (PWM.GRP_STAT'TRIPPED (64 + n.val)) = false ∧ (s.grp (64 + n.val)).held = false) (up
        |>.set (PWM.GRP_CFG'MODE 64) 2 |>.setB (PRF.ST_CFG'EN 0) true |>.set (PRF.PG_STAT'STATE 64) 1
        |> (fun (s : State) => { s with prf := { s.prf with wind := s.prf.wind.set 0 { (s.prf.wind.get 0) with tgt := 100, decay := 3, winN := 64 } } })) 0 false ∧
    (fun (s : State) (n : Fin 8) =>
      s.domOn pdCTL = true ∧ s.stOn n.val = true ∧ s.pgState (64 + n.val) = 1 ∧
        (s.pg (64 + n.val)).holding = false) (up |>.set (PWM.GRP_CFG'MODE 64) 2 |>.setB (PRF.ST_CFG'EN 0) true
        |>.set (PRF.PG_STAT'STATE 64) 1
        |> (fun (s : State) => { s with prf := { s.prf with wind := s.prf.wind.set 0 { (s.prf.wind.get 0) with tgt := 100, decay := 1, winN := 64 } } })) 0 ∧
    (fun (s : State) (n : Fin 8) (b : Bool) =>
      s.domOn pdCTL = true ∧ s.stOn n.val = true ∧ 64 ≤ (s.wind (n.val) b).winN) (up |>.set (PWM.GRP_CFG'MODE 64) 2
        |>.setB (PRF.ST_CFG'EN 0) true |>.set (PRF.PG_STAT'STATE 64) 1
        |> (fun (s : State) => { s with prf := { s.prf with wind := s.prf.wind.set 0 { (s.prf.wind.get 0) with tgt := 100, decay := 1, winN := 64 } } })) 0 false ∧
    (fun (s : State) (w : Req) (n : Fin 8) =>
      s.takesWrite w (PRF.ST_CFG n.val) = true ∧ s.b (PRF.ST_CFG'EN n.val) = false) up .host 0 := by
  decide +kernel

theorem test_meets_PlannerPortCommands_a :
    (fun (s : State) (w : Req) (p : Fin 16) =>
      s.takesWrite w (TRJ.PP_CMD p.val) = true ∧ s.evalOn = false ∧ s.trj.held = [] ∧
        bitsOf (s.rd (TRJ.PP_CMD p.val)) 31 28 = 0 ∧ modePlans s.mode = false) up .host 0 ∧
    (fun (s : State) (w : Req) (p : Fin 16) (two : Bool) (buf : Fin 2048) =>
      s.takesWrite w (TRJ.PP_CMD p.val) = true ∧ s.evalOn = false ∧ s.trj.held = [] ∧
        bitsOf (s.rd (TRJ.PP_CMD p.val)) 31 28 = 0 ∧
        (¬s.closeCheck (p.val) (buf.val) (two.toNat + 1) (s.planRec (buf.val) (two.toNat + 1)) = 0)) up .host 0 false 0 ∧
    (fun (s : State) (w : Req) (p : Fin 16) (buf : Fin 2048) =>
      s.takesWrite w (TRJ.PP_CMD p.val) = true ∧ s.evalOn = false ∧ s.trj.held = [] ∧
        bitsOf (s.rd (TRJ.PP_CMD p.val)) 31 28 = 0 ∧ s.owner buf.val = ownDEVICE) (up
        |>.set (CHUCK.SMW_FLAG'OWNER 0) ownDEVICE) .host 0 0 ∧
    (fun (s : State) (w : Req) (p : Fin 16) =>
      s.takesWrite w (TRJ.PP_CMD p.val) = true ∧ s.evalOn = false ∧ s.trj.held = [] ∧
        bitsOf (s.rd (TRJ.PP_CMD p.val)) 31 28 = 0 ∧ (s.pp p.val).isOpen = true ∧ (s.pp p.val).squashed = false) (up
        |> (fun (s : State) => s.setPp 0 { s.pp 0 with isOpen := true })) .host 0 ∧
    (fun (s : State) (w : Req) (p : Fin 16) =>
      s.takesWrite w (TRJ.PP_CMD p.val) = true ∧ s.evalOn = true ∧
        bitsOf (s.rd (TRJ.PP_CMD p.val)) 31 28 = 0) live .host 0 ∧
    (fun (s : State) (h : PpHeld) (l : List PpHeld) =>
      s.domOn pdCTL = true ∧ s.trj.held = h :: l ∧ h.port < 16 ∧ bitsOf (w32 h.word) 31 28 = 8 ∧ h.word < 2 ^ 32 ∧
        modePlans s.mode = false ∧ s.trj.outPend = true ∧ s.domOn pdTIME = true ∧ 0 < dtIncr s.time.rate) (up
        |> (fun (s : State) => { s with trj := { s.trj with held := (⟨0, 0x80000000, 0⟩) :: ([]) } })
        |> (fun (s : State) => { s with trj := { s.trj with outPend := true } })) (⟨0, 0x80000000, 0⟩) ([]) := by
  decide +kernel

theorem test_meets_PlannerPortCommands_b :
    (fun (s : State) (h : PpHeld) (l : List PpHeld) =>
      s.domOn pdCTL = true ∧ s.trj.held = h :: l ∧ h.port < 16 ∧ bitsOf (w32 h.word) 31 28 = 8 ∧ h.word < 2 ^ 32 ∧
        modePlans s.mode = false ∧ s.trj.outPend = false) (up
        |> (fun (s : State) => { s with trj := { s.trj with held := (⟨0, 0x80000000, 0⟩) :: ([]) } })) (⟨0, 0x80000000, 0⟩) ([]) := by
  decide +kernel

theorem test_meets_VerdictTableAndEvaluation_a :
    (fun (s : State) (w : Req) (r : Fin 10) =>
      s.takesWrite w (TRJ.VT_VERDICT + 4 * r.val) = true ∧ s.isVtReq w = false) up .host 0 ∧
    (fun (s : State) (w : Req) (r : Fin 10) =>
      s.takesWrite w (TRJ.VT_VERDICT + 4 * r.val) = true ∧ (¬s.isVtReq w = false) ∧
        s.b TRJ.VT_SEAL'SEALED = true) (up |>.setB TRJ.VT_SEAL'SEALED true) (.core 0) 0 ∧
    (fun (s : State) (w : Req) (r : Fin 10) =>
      s.takesWrite w (TRJ.VT_VERDICT + 4 * r.val) = true ∧ (¬s.isVtReq w = false) ∧ (¬s.b TRJ.VT_SEAL'SEALED = true) ∧
        r ≠ 0) up (.core 0) 1 ∧
    (fun (s : State) (w : Req) (r : Fin 10) =>
      s.takesWrite w (TRJ.VT_VERDICT + 4 * r.val) = true ∧ (¬s.isVtReq w = false) ∧ (¬s.b TRJ.VT_SEAL'SEALED = true) ∧
        r = 0) up (.core 0) 0 ∧
    (fun (s : State) (w : Req) =>
      s.takesWrite w TRJ.VT_SEAL = true ∧ s.isVtReq w = false) up .host ∧
    (fun (s : State) (w : Req) (target : BitVec 16) =>
      s.takesWrite w TRJ.VT_SEAL = true ∧ (¬s.isVtReq w = false) ∧
        target.toNat ≠ (s.f SYS.CYCLE_STAT'L3_SEQ + 1) % 65536) up (.core 0) 0 ∧
    (fun (s : State) (w : Req) (target : BitVec 16) =>
      s.takesWrite w TRJ.VT_SEAL = true ∧ (¬s.isVtReq w = false) ∧
        (¬target.toNat ≠ (s.f SYS.CYCLE_STAT'L3_SEQ + 1) % 65536) ∧ s.evalOn = true) live (.core 0) 1 ∧
    (fun (s : State) (w : Req) (target : BitVec 16) =>
      s.takesWrite w TRJ.VT_SEAL = true ∧ (¬s.isVtReq w = false) ∧
        (¬target.toNat ≠ (s.f SYS.CYCLE_STAT'L3_SEQ + 1) % 65536) ∧ (¬s.evalOn = true) ∧ (s.trj.evalB = 0 ∨
        s.trj.evalB + 1000000 ≤ s.ns)) up (.core 0) 1 ∧
    (fun (s : State) (q : Nat) (i : Nat) (e : TrjEntry) =>
      s.trj.outPend = true ∧ (∀ (q : Nat), q < 16 → s.qUsed q = true → ∀ (i : Nat), i < 128 → (s.slot q i).st = 2 → (s.planOf (s.slot q i).epoch).any (fun p => p.live && p.queue == q) = true) ∧ q < 16 ∧ s.qUsed q = true ∧ i < 20 ∧ s.trjTakeHold.entryAt q (s.trj.evalB / 50000 + i) = some e) (up |> (fun (s : State) => { s with cfg := { s.cfg with queues := [⟨true, [0], 15⟩] }, trj := { s.trj with outPend := true, entries := s.trj.entries.set 0 ⟨0, 0, 3, []⟩ } })) 0 0 (⟨0, 0, 3, []⟩) := by
  decide +kernel

theorem test_meets_VerdictTableAndEvaluation_b :
    (fun (s : State) =>
      s.domOn pdCTL = true ∧ s.cycRun = true ∧ s.trj.evalB ≠ s.nextL3 ∧ s.trj.outPend = false ∧ s.domOn pdTIME = true ∧
        0 < dtIncr s.time.rate) live ∧
    (fun (s : State) =>
      s.domOn pdCTL = true ∧ s.cycRun = true ∧ s.trj.evalB ≠ s.nextL3 ∧ s.trj.outPend = false ∧
        s.b TRJ.VT_SEAL'SEALED = false) live := by
  decide +kernel

theorem test_meets_KinematicFrameAndAssembly :
    (fun (s : State) =>
      s.domOn pdROUGH = true ∧ s.rough.st = 1) (up |> (fun (s : State) => { s with rough := { s.rough with st := 1 } })) ∧
    (fun (s : State) =>
      s.domOn pdROUGH = true ∧ s.domOn pdFACE = true ∧ s.rough.st = 2 ∧ s.cfg.casc.rounds = 0 ∧
        s.face.s.due = false) (up |> (fun (s : State) => { s with rough := { s.rough with st := 2 } })) := by
  decide +kernel

theorem test_meets_FaceplateSubmissionsAndAborts_a :
    (fun (s : State) (w : Req) =>
      s.takesWrite w FACE.FACE_CMD = true ∧ s.face.s.st = 0 ∧ s.b FACE.FACE_CTRL'S_AUTO = true) (up
        |>.setB FACE.FACE_CTRL'S_AUTO true) .host ∧
    (fun (s : State) (w : Req) (buf : Fin 2048) =>
      s.takesWrite w FACE.FACE_CMD = true ∧ s.face.s.st = 0 ∧ s.b FACE.FACE_CTRL'S_AUTO = false ∧
        s.owner buf.val ≠ ownFACE) up .host 0 ∧
    (fun (s : State) (w : Req) (buf : Fin 2048) =>
      s.takesWrite w FACE.FACE_CMD = true ∧ s.owner buf.val = ownFACE ∧ s.ldn (smwAt buf.val + 3) 1 = 0 ∧
        s.ldn (smwAt buf.val + 2) 1 ≠ 1) (up |>.set (CHUCK.SMW_FLAG'OWNER 0) ownFACE) .host 0 ∧
    (fun (s : State) (w : Req) (buf : Fin 2048) =>
      s.takesWrite w FACE.FACE_CMD = true ∧ s.face.s.st = 0 ∧ s.b FACE.FACE_CTRL'S_AUTO = false ∧
        s.owner buf.val = ownFACE ∧ s.ldn (smwAt buf.val) 4 = 131667 ∧ s.ldn (smwAt buf.val + 12) 1 ≤ 16 ∧
        s.ldn (smwAt buf.val + 13) 19 = 0 ∧ s.imgValid = true ∧ modeDrives s.mode = true ∧ s.cfg.face.n ≠ 0 ∧
        s.faceOwns (s.ldn (smwAt buf.val + 10) 2) s.setBufs = true ∧ s.ns < s.nsOf (s.ldn (smwAt buf.val + 4) 4) ∧
        s.ledgerUsed + s.f FACE.FACE_TOKENS'S_TOKENS ≤ s.budget ∧ s.pwr.waiting = []) (live
        |> (fun (s : State) => (s.stn (smwAt 0) 4 131667).stn (smwAt 0 + 4) 4 900000)
        |>.set (CHUCK.SMW_FLAG'OWNER 0) ownFACE) .host 0 ∧
    (fun (s : State) (w : Req) (buf : Fin 2048) =>
      s.takesWrite w FACE.FACE_CMD = true ∧ s.face.bq.st = 0 ∧ s.face.b.st = 0 ∧ s.owner buf.val ≠ ownFACE) up .host 0 := by
  decide +kernel

theorem test_meets_FaceplateSubmissionsAndAborts_b :
    (fun (s : State) (w : Req) =>
      s.takesWrite w FACE.FACE_CMD = true ∧ s.face.s.st ≠ 0 ∧ s.face.s.buf = 4096 ∧ s.face.s.round = 0 ∧
        s.owner s.face.s.resBuf = ownFACE ∧ 0 < s.setBufs) (live
        |> (fun (s : State) => { s with face := { s.face with s := { s.face.s with st := 3, buf := 4096, round := 0, ownSet := true, deadline := 900000, warm := 2, resBuf := 3, issNs := 80000 } } }) |>.set FACE.FACE_SIZE'S_SET_BUFS 1 |> (fun (s : State) => s.set (CHUCK.SMW_FLAG'OWNER s.face.s.resBuf) ownFACE)) .host ∧
    (fun (s : State) (w : Req) =>
      s.takesWrite w FACE.FACE_CMD = true ∧ s.face.s.deadIter = 0 ∧ s.face.b.st ≠ 0) (live
        |> (fun (s : State) => { s with face := { s.face with b := { s.face.b with st := 3 } } })) .host := by
  decide +kernel

theorem test_meets_FaceplateSolvesAndBatches_a :
    (fun (s : State) =>
      s.domOn pdFACE = true ∧ s.face.s.st = 1 ∧ s.face.s.ownSet = true ∧ s.face.s.round = 0 ∧
        s.rough.asmDone = false) (live
        |> (fun (s : State) => { s with face := { s.face with s := { s.face.s with st := 1, buf := 4096, round := 0, ownSet := true, deadline := 900000, warm := 2, resBuf := 3, issNs := 80000 } } })) ∧
    (fun (s : State) =>
      s.domOn pdFACE = true ∧ s.face.s.st = 1 ∧ s.face.s.ownSet = true ∧ s.face.s.round = 0 ∧ s.rough.asmDone = true ∧
        (s.advanceTo (s.face.s.issNs + s.cfg.roughEnd)).ns < s.face.s.deadline ∧ s.face.s.feed = 0 ∧
        s.face.s.warm = 2 ∧ s.ledgerUsed + s.f FACE.FACE_TOKENS'S_TOKENS ≤ s.budget ∧ s.pwr.waiting = []) (live
        |> (fun (s : State) => { s with rough := { s.rough with asmDone := true } })
        |> (fun (s : State) => { s with face := { s.face with s := { s.face.s with st := 1, buf := 4096, round := 0, ownSet := true, deadline := 900000, warm := 2, resBuf := 3, issNs := 80000 } } })) ∧
    (fun (s : State) (iter : Nat) =>
      s.domOn pdFACE = true ∧ s.face.s.st = 3 ∧ s.face.s.susp = false ∧ s.face.s.buf = 4096 ∧ s.face.s.round = 0 ∧
        s.owner s.face.s.resBuf = ownFACE ∧ 0 < s.setBufs ∧
        (Solve.run s.cfg.face s.face.s.weights s.faceVals (min iter s.face.s.weights.admmMax) 0 (noResid, 0) (s.loadSolve.begin_ s.cfg.face s.face.s.weights s.faceVals)).snd.snd.fst = false ∧ (Solve.run s.cfg.face s.face.s.weights s.faceVals (min iter s.face.s.weights.admmMax) 0 (noResid, 0) (s.loadSolve.begin_ s.cfg.face s.face.s.weights s.faceVals)).fst < s.face.s.weights.admmMax) (live |> (fun (s : State) => { s with face := { s.face with s := { s.face.s with st := 3, buf := 4096, round := 0, ownSet := true, deadline := 900000, warm := 2, resBuf := 3, issNs := 80000, weights := { s.face.s.weights with admmMax := 1 } } } }) |>.set FACE.FACE_SIZE'S_SET_BUFS 1 |> (fun (s : State) => s.set (CHUCK.SMW_FLAG'OWNER s.face.s.resBuf) ownFACE)) 0 ∧
    (fun (s : State) =>
      s.domOn pdFACE = true ∧ s.face.s.st = 2 ∧ s.face.s.warm = 2 ∧ s.face.s.buf = 4096 ∧ s.face.s.round = 0 ∧
        s.owner s.face.s.resBuf = ownFACE ∧ 0 < s.setBufs) (live
        |> (fun (s : State) => { s with face := { s.face with s := { s.face.s with st := 2, buf := 4096, round := 0, ownSet := true, deadline := 900000, warm := 2, resBuf := 3, issNs := 80000 } } }) |>.set FACE.FACE_SIZE'S_SET_BUFS 1 |> (fun (s : State) => s.set (CHUCK.SMW_FLAG'OWNER s.face.s.resBuf) ownFACE)) ∧
    (fun (s : State) =>
      s.domOn pdFACE = true ∧ s.face.b.st = 1 ∧ s.face.s.st = 3) (live
        |> (fun (s : State) => { s with face := { s.face with b := { s.face.b with st := 1 } } })
        |> (fun (s : State) => { s with face := { s.face with s := { s.face.s with st := 3 } } })) := by
  decide +kernel

theorem test_meets_FaceplateSolvesAndBatches_b :
    (fun (s : State) =>
      s.domOn pdFACE = true ∧ s.face.b.st = 1 ∧ (¬s.face.s.st = 3) ∧
        s.ledgerUsed + s.f FACE.FACE_TOKENS'B_TOKENS ≤ s.budget ∧ s.pwr.waiting = []) (live
        |> (fun (s : State) => { s with face := { s.face with b := { s.face.b with st := 1 } } })) ∧
    (fun (s : State) =>
      s.domOn pdFACE = true ∧ s.face.b.st = 1 ∧ (¬s.face.s.st = 3) ∧
        (¬(s.ledgerUsed + s.f FACE.FACE_TOKENS'B_TOKENS ≤ s.budget ∧ s.pwr.waiting = [])) ∧
        (¬s.budget < s.ledgerUsed + s.f FACE.FACE_TOKENS'B_TOKENS)) (live
        |> (fun (s : State) => { s with face := { s.face with b := { s.face.b with st := 1 } } })
        |> (fun (s : State) => { s with pwr := { s.pwr with waiting := [default] } })) ∧
    (fun (s : State) =>
      s.domOn pdFACE = true ∧ s.face.b.st = 3 ∧ s.face.s.deadIter = 0 ∧ s.face.b.own = true) (live
        |> (fun (s : State) => { s with face := { s.face with b := { s.face.b with st := 3, own := true } } })) ∧
    (fun (s : State) =>
      s.domOn pdFACE = true ∧ s.face.b.st = 3 ∧ s.face.s.deadIter = 0 ∧ s.cfg.face.slots.length ≤ 256 ∧
        s.owner (s.f FACE.B_RES_CFG'B_RES_BASE) = ownFACE) (live
        |> (fun (s : State) => { s with face := { s.face with b := { s.face.b with st := 3 } } })
        |> (fun (s : State) => s.set (CHUCK.SMW_FLAG'OWNER (s.f FACE.B_RES_CFG'B_RES_BASE)) ownFACE)) := by
  decide +kernel

theorem test_meets_BufferOwnershipPassesByRule :
    (fun (s : State) (w : Req) (b : Fin 2048) (v : Word) =>
      s.takesWrite w (CHUCK.SMW_FLAG b.val) = true ∧ s.owns w b.val = true ∧ bitsOf v 4 0 ≤ 18) up .host 0 0 ∧
    (fun (s : State) (w : Req) (b : Fin 2048) (v : Word) =>
      s.takesWrite w (CHUCK.SMW_FLAG b.val) = true ∧ (¬(s.owns w b.val = true ∧
        bitsOf v 4 0 ≤ 18))) up .host 0 0xFFFFFFFF ∧
    (fun (s : State) (w : Req) (v : Word) =>
      s.takesWrite w CHUCK.SMW_PASS = true ∧ (∀ (i : Nat), i < bitsOf v 24 19 + 1 → bitsOf v 10 0 + i < 2048 ∧
        s.owns w (bitsOf v 10 0 + i) = true) ∧ bitsOf v 31 27 ≤ 18) up .host 0 ∧
    (fun (s : State) (w : Req) (v : Word) =>
      s.takesWrite w CHUCK.SMW_PASS = true ∧ (¬((∀ (i : Nat), i < bitsOf v 24 19 + 1 → bitsOf v 10 0 + i < 2048 ∧
        s.owns w (bitsOf v 10 0 + i) = true) ∧ bitsOf v 31 27 ≤ 18))) up .host 0xFFFFFFFF ∧
    (fun (s : State) (w : Req) (b : Fin 2048) =>
      s.takesWrite w CHUCK.SMW_RECLAIM = true ∧ s.hostOrSupv w = true ∧ s.bufInChuck b.val = false) up .host 0 ∧
    (fun (s : State) (w : Req) (b : Fin 2048) =>
      s.takesWrite w CHUCK.SMW_RECLAIM = true ∧ (¬(s.hostOrSupv w = true ∧ s.bufInChuck b.val = false))) up (.core 0) 0 ∧
    (fun (s : State) (w : Req) (b : Fin 2048) =>
      s.domOn pdMEM = true ∧ (¬(w = Req.host ∧ (s.evt.d3 = true ∨ s.b SYS.HOST_CFG'HOST_PROXY = true))) ∧
        s.owns w b.val = true) up .host 0 ∧
    (fun (s : State) (w : Req) (b : Fin 2048) =>
      s.domOn pdMEM = true ∧ (¬(w = Req.host ∧ (s.evt.d3 = true ∨ s.b SYS.HOST_CFG'HOST_PROXY = true))) ∧
        (¬s.owns w b.val = true) ∧ s.b CHUCK.SMW_ERR'WRITE_REFUSED = false) up (.core 0) 0 := by
  decide +kernel

theorem test_meets_JobsPassThroughTheChuck :
    (fun (s : State) (w : Req) =>
      s.takesWrite w CHUCK.ENQ_CMD = true ∧
        ((if s.b CHUCK.CHUCK_CTRL'EN = false then 5 else if (List.map (s.stagedWord w) (upto 8)).getD 0 0 / 256 % 256 ≠ 0 ∨ (List.map (s.stagedWord w) (upto 8)).getD 1 0 / 2048 % 32 ≠ 0 ∨ (List.map (s.stagedWord w) (upto 8)).getD 1 0 / 2 ^ 24 ≠ 0 ∨ 16 < (List.map (s.stagedWord w) (upto 8)).getD 1 0 / 65536 % 256 ∨ 2048 < (List.map (s.stagedWord w) (upto 8)).getD 1 0 % 2048 + (List.map (s.stagedWord w) (upto 8)).getD 1 0 / 65536 % 256 then 2 else if s.b (CHUCK.FLOW_CFG'EN ((List.map (s.stagedWord w) (upto 8)).getD 0 0 % 256)) = false then 3 else if ¬∀ (i : Nat), i < (List.map (s.stagedWord w) (upto 8)).getD 1 0 / 65536 % 256 → s.owns w ((List.map (s.stagedWord w) (upto 8)).getD 1 0 % 2048 + i) = true then 4 else if s.poolFree (s.whoOf w) = false then 1 else 0) ≠ 0)) up .host ∧
    (fun (s : State) (h : HwJob) (l : List HwJob) =>
      s.domOn pdMEM = true ∧ s.b CHUCK.CHUCK_CTRL'EN = true ∧ s.poolFree 17 = true ∧ s.chuck.held = h :: l ∧
        s.b (CHUCK.FLOW_CFG'EN h.flow) = true) (up |>.setB CHUCK.CHUCK_CTRL'EN true
        |> (fun (s : State) => { s with chuck := { s.chuck with held := ((default : HwJob)) :: ([]) } })
        |>.setB (CHUCK.FLOW_CFG'EN ((default : HwJob)).flow) true) ((default : HwJob)) ([]) ∧
    (fun (s : State) (w : Req) (c : Fin 16) =>
      s.takesWrite w (CHUCK.CORE_DONE c.val) = true ∧ reqCode w ≠ c.val) up .host 0 ∧
    (fun (s : State) (w : Req) (c : Fin 16) =>
      s.takesWrite w (CHUCK.CORE_DONE c.val) = true ∧ (¬reqCode w ≠ c.val) ∧ s.coreIdle c.val = true) up (.core 0) 0 ∧
    (fun (s : State) (f : Fin 256) (j : ChuckJob) =>
      s.domOn pdMEM = true ∧ s.nextRelease f.val = some j ∧
        (¬256 ≤ (s.chuck.cq.get (min 16 (s.f (CHUCK.FLOW_CFG'SINK f.val)))).length) ∧ j.resValid = true) (up
        |> (fun (s : State) => { s with chuck := { s.chuck with pool := [{ (default : ChuckJob) with st := 2, resValid := true }] } })) 0 ({ (default : ChuckJob) with st := 2, resValid := true }) ∧
    (fun (s : State) (w : Req) (k : Fin 17) =>
      s.takesRead w (CHUCK.CQ_LO k.val) = true ∧ s.chuck.cq.get k.val = []) (up
        |> (fun (s : State) => { s with chuck := { s.chuck with cq := s.chuck.cq.set 0 [(0, 0)] } })) .host 1 ∧
    (fun (s : State) (w : Req) (k : Fin 17) (r : Nat × Nat) (l : List (Nat × Nat)) =>
      s.takesRead w (CHUCK.CQ_LO k.val) = true ∧ s.chuck.cq.get k.val = r :: l) (up
        |> (fun (s : State) => { s with chuck := { s.chuck with cq := s.chuck.cq.set 0 [(0, 0)] } })) .host 0 ((0, 0)) ([]) ∧
    (fun (s : State) (w : Req) (f : Fin 256) (mask : Bool) =>
      (s.takesWrite w (if mask = true then CHUCK.FLOW_MASK f.val else CHUCK.FLOW_CFG f.val) = true) ∧
        (¬((s.flowJobs f.val).any fun j => j.st != 2 || s.f (CHUCK.FLOW_CFG'KIND f.val) == 1) = true) ∧
        mask = true) up .host 0 true ∧
    (fun (s : State) (w : Req) (f : Fin 256) (mask : Bool) =>
      (s.takesWrite w (if mask = true then CHUCK.FLOW_MASK f.val else CHUCK.FLOW_CFG f.val) = true) ∧
        (¬((s.flowJobs f.val).any fun j => j.st != 2 || s.f (CHUCK.FLOW_CFG'KIND f.val) == 1) = true) ∧
        mask = false) up .host 0 false := by
  decide +kernel

theorem test_meets_SafetyInputsAreSampledFilteredAndTested :
    (fun (s : State) (x : Nat) =>
      x % 100000 = 0 ∧ s.safe.srcFrame ≤ x ∧ s.released pdDEAD = true ∧ s.mode ≠ 10) up 0 ∧
    (fun (s : State) (x : Nat) (k : Fin 8) =>
      s.released pdDEAD = true ∧ s.ns ≤ x ∧ x % 100000 = 20000 ∧
        pulseSlot (k.val) (x % 4000000 / 100000) = true) up 220000 0 ∧
    (fun (s : State) (x : Nat) =>
      s.released pdDEAD = true ∧ s.ns ≤ x ∧ x % 100000 = 70000) up 70000 ∧
    (fun (s : State) (x : Nat) =>
      s.released pdDEAD = true ∧ s.ns ≤ x ∧ x % 100000 = 55000) up 55000 ∧
    (fun (s : State) (k : Fin 8) (overload : Bool) =>
      s.released pdDEAD = true ∧ s.fbit SAFE.TPS_STAT'TPS_FAULT k.val = false ∧ s.mode ≠ 10 ∧ (overload = true ∨
        s.safe.tpsNs.get k.val ≠ 0) ∧ overload = false ∧ s.domOn pdTIME = true ∧ 0 < dtIncr s.time.rate) (up
        |> (fun (s : State) => { s with safe := { s.safe with tpsNs := s.safe.tpsNs.set 0 1 } })) 0 false := by
  decide +kernel

theorem test_meets_VotesAreReleasedOnlyWhileAllowed :
    (fun (s : State) (x : Nat) =>
      x % 100000 = 0 ∧ s.safe.srcFrame ≤ x ∧ s.released pdDEAD = true) up 0 := by
  decide +kernel

theorem test_meets_SafetyFunctionsFaultAndReset :
    (fun (s : State) (live : Bool) (f : Fin 24) =>
      (s.fnc live f.val).discFrom ≠ 0 ∧ s.fnEn f.val = true ∧ s.chOk live = true ∧ ((s.fnc live f.val).st = 1 ∨
        (f.val = 16 ∨ f.val = 17) ∧ (s.fnc live f.val).st ≠ 3) ∧ s.mode ≠ 10 ∧ s.domOn pdTIME = true ∧
        0 < dtIncr s.time.rate) (live |>.setB (SAFE.FN_CFG'EN 0) true
        |> (fun (s : State) => s.setFnc false 0 { s.fnc false 0 with discNs := 1, st := 1 })) false 0 ∧
    (fun (s : State) (f : Fin 24) =>
      s.fnEn f.val = true ∧ s.b (SAFE.FN_CFG'REMOTE f.val) = true ∧ s.mode ≠ 10 ∧ (s.chOk false = true ∨
        s.chOk true = true) ∧ s.domOn pdTIME = true ∧ 0 < dtIncr s.time.rate) (live |>.setB (SAFE.FN_CFG'EN 0) true
        |>.setB (SAFE.FN_CFG'REMOTE 0) true) 0 ∧
    (fun (s : State) (g : Fin 4) =>
      ((fun l => s.chOk l && bit (if l = true then s.safe.pulseL else s.safe.pulseD) g.val) false = true ∨
        (fun l => s.chOk l && bit (if l = true then s.safe.pulseL else s.safe.pulseD) g.val) true = true) ∧ g.val = 0 ∧
        (∀ (l : Bool), s.chOk l = true → (fun l => s.chOk l && bit (if l = true then s.safe.pulseL else s.safe.pulseD) g.val) l = true)) (live |>.setB (SAFE.FN_CFG'EN 0) true |>.setB (SAFE.FN_CFG'REMOTE 0) true |> (fun (s : State) => { s with safe := { s.safe with pulseD := 1, pulseL := 1 } })) 0 ∧
    (fun (s : State) (z : Fin 8) =>
      s.safe.ss1Ns.get z.val ≠ 0 ∧ bit s.safe.ss1Done z.val = false ∧ s.released pdDEAD = true ∧
        s.domOn pdTIME = true ∧ 0 < dtIncr s.time.rate) (up
        |> (fun (s : State) => { s with safe := { s.safe with ss1Ns := s.safe.ss1Ns.set 0 1 } })) 0 := by
  decide +kernel

theorem test_meets_SafetyOutputsAndContactorsAreWatched_a :
    (fun (s : State) (o : Fin 16) =>
      s.inDark (s.safe.dark - 1) = false ∧ s.outSto o.val = false ∧
        (s.released (if o.val < 8 then pdDEAD else pdLIVE) = true)) (up |>.set SAFE.ZONE_STAT'VOTE_A 0) 0 ∧
    (fun (s : State) (o : Fin 16) =>
      s.safe.dark = o.val + 1 ∧ s.domOn pdTIME = true ∧ 0 < dtIncr s.time.rate) (up
        |> (fun (s : State) => { s with safe := { s.safe with dark := 0 + 1 } })) 0 ∧
    (fun (s : State) (o : Fin 16) =>
      s.released pdDEAD = true ∧ bit s.safe.outFlt o.val = false ∧ (s.outSto o.val = true ∧
        s.safe.rb.getLsbD o.val = false ∧ s.safe.rbNs.get o.val ≠ 0 ∨ s.outSto o.val = false ∧
        s.safe.rb.getLsbD o.val = true ∧ s.inDark o.val = false) ∧ s.outSto o.val = true ∧ s.domOn pdTIME = true ∧
        0 < dtIncr s.time.rate) (live
        |> (fun (s : State) => { s with safe := { s.safe with rbNs := s.safe.rbNs.set 0 1, rb := 0 } })
        |> (fun (s : State) => { s with time := { s.time with dt := 1000001 * 2 ^ 32 } })) 0 ∧
    (fun (s : State) (o : Fin 16) =>
      s.released pdDEAD = true ∧ bit s.safe.outFlt o.val = false ∧ (s.outSto o.val = true ∧
        s.safe.rb.getLsbD o.val = false ∧ s.safe.rbNs.get o.val ≠ 0 ∨ s.outSto o.val = false ∧
        s.safe.rb.getLsbD o.val = true ∧ s.inDark o.val = false) ∧ o.val < 8) (live
        |> (fun (s : State) => { s with safe := { s.safe with rbNs := s.safe.rbNs.set 0 1, rb := 0 } })
        |> (fun (s : State) => { s with time := { s.time with dt := 1000001 * 2 ^ 32 } })) 0 ∧
    (fun (s : State) (o : Fin 16) =>
      s.released pdDEAD = true ∧ bit s.safe.outFlt o.val = false ∧ (s.outSto o.val = true ∧
        s.safe.rb.getLsbD o.val = false ∧ s.safe.rbNs.get o.val ≠ 0 ∨ s.outSto o.val = false ∧
        s.safe.rb.getLsbD o.val = true ∧ s.inDark o.val = false) ∧ voteMode s.mode = true) (live
        |> (fun (s : State) => { s with safe := { s.safe with rbNs := s.safe.rbNs.set 0 1, rb := 0 } })
        |> (fun (s : State) => { s with time := { s.time with dt := 1000001 * 2 ^ 32 } })) 0 := by
  decide +kernel

theorem test_meets_SafetyOutputsAndContactorsAreWatched_b :
    (fun (s : State) (n : Fin 16) (sto : Bool) =>
      s.domOn pdLINK = true ∧ s.released pdDEAD = true ∧ (s.cfg.bricks.getD (n.val) default).used = true ∧
        (s.cfg.bricks.getD (n.val) default).zone < 8 ∧ (s.bport n.val).stoNs ≠ 0 ∧ s.stoDiffers n.val = true ∧
        s.stoVoted (s.cfg.bricks.getD (n.val) default).zone = some sto ∧ sto = true ∧ voteMode s.mode = true) (live
        |> (fun (s : State) => s.setBport 0 { s.bport 0 with okStat := true }) |>.set (BLK.PORT_STAT'STATE 0) 3
        |> (fun (s : State) => { s with fyv := { s.fyv with pVotes := some (255, 255), rVotes := some (255, 255) } })
        |> (fun (s : State) => s.setBport 0 { s.bport 0 with stoNs := 1 })) 0 true ∧
    (fun (s : State) (n : Fin 16) (sto : Bool) =>
      s.domOn pdLINK = true ∧ s.released pdDEAD = true ∧ (s.cfg.bricks.getD (n.val) default).used = true ∧
        (s.cfg.bricks.getD (n.val) default).zone < 8 ∧ (s.bport n.val).stoNs ≠ 0 ∧ s.stoDiffers n.val = true ∧
        s.stoVoted (s.cfg.bricks.getD (n.val) default).zone = some sto ∧ sto = false) (live
        |> (fun (s : State) => s.setBport 0 { s.bport 0 with okStat := true, stoFb := true })
        |>.set (BLK.PORT_STAT'STATE 0) 3
        |> (fun (s : State) => { s with fyv := { s.fyv with pVotes := some (0, 0), rVotes := some (0, 0) } })
        |> (fun (s : State) => s.setBport 0 { s.bport 0 with stoNs := 1 })) 0 false ∧
    (fun (s : State) (k : Fin 4) =>
      (s.safe.cd.get k.val).chk = true ∧ s.b (SAFE.CD_CFG'EN k.val) = true ∧ s.released pdDEAD = true ∧
        s.cdBit (k.val) 2 = !s.cdOn k.val) (live
        |> (fun (s : State) => { s with safe := { s.safe with cd := s.safe.cd.set 0 { s.safe.cd.get 0 with chk := true } } }) |>.wr SAFE.CD_STAT 4 |>.setB (SAFE.CD_CFG'EN 0) true) 0 ∧
    (fun (s : State) (k : Fin 4) =>
      (s.safe.cd.get k.val).chk = true ∧ s.b (SAFE.CD_CFG'EN k.val) = true ∧ s.released pdDEAD = true ∧
        (¬s.cdBit (k.val) 2 = !s.cdOn k.val) ∧ voteMode s.mode = true) (live
        |> (fun (s : State) => { s with safe := { s.safe with cd := s.safe.cd.set 0 { s.safe.cd.get 0 with chk := true } } }) |>.wr SAFE.CD_STAT 0 |>.setB (SAFE.CD_CFG'EN 0) true) 0 ∧
    (fun (s : State) (k : Fin 4) =>
      (∃ l, s.cdSwitch l k.val = true ∧
        (fun l => if l = true then (s.safe.cd.get k.val).offNsL else (s.safe.cd.get k.val).offNs) l ≠ 0) ∧
        s.domOn pdTIME = true ∧ 0 < dtIncr s.time.rate) (live
        |> (fun (s : State) => { s with safe := { s.safe with cd := s.safe.cd.set 0 { s.safe.cd.get 0 with offNs := 1 } } }) |>.wr SAFE.CD_STAT 1) 0 ∧
    (fun (s : State) (k : Fin 4) =>
      s.b (SAFE.CD_CFG'EN k.val) = true ∧ s.cdBit (k.val) 4 = false ∧ s.domOn pdTIME = true ∧
        0 < dtIncr s.time.rate) (up |>.setB (SAFE.CD_CFG'EN 0) true) 0 := by
  decide +kernel

theorem test_meets_SafetyChannelsCheckEachOther_a :
    (fun (s : State) (l : Bool) =>
      ((if l = true then s.safe.failL else s.safe.failD) = false) ∧ s.released pdDEAD = true ∧
        ((if l = true then s.safe.hbL else s.safe.hbD) ≠ 0) ∧ s.f SAFE.SAFE_STAT'XCHK_CAUSE = 0) (up
        |> (fun (s : State) => { s with safe := { s.safe with hbD := 1 } })) false ∧
    (fun (s : State) (l : Bool) =>
      ((if l = true then s.safe.failL else s.safe.failD) = false) ∧ s.released pdDEAD = true ∧
        ((if l = true then s.safe.hbL else s.safe.hbD) ≠ 0) ∧ (s.chOk !l) = true ∧ 3 ≤ s.mode ∧ s.mode ≤ 8) (live
        |> (fun (s : State) => { s with safe := { s.safe with hbD := 1 } })) false ∧
    (fun (s : State) (l : Bool) =>
      ((if l = true then s.safe.failL else s.safe.failD) = false) ∧ s.released pdDEAD = true ∧
        ((if l = true then s.safe.hbL else s.safe.hbD) ≠ 0) ∧ (s.mode = 10 ∨ (s.chOk !l) = false) ∧
        voteMode s.mode = true) (up |> (fun (s : State) => { s with safe := { s.safe with hbD := 1 } })
        |>.set SYS.MODE_STAT'MODE 3) false ∧
    (fun (s : State) (l : Bool) =>
      ((if l = true then s.safe.failL else s.safe.failD) = false) ∧ s.released pdDEAD = true ∧
        ((if l = true then s.safe.hbL else s.safe.hbD) ≠ 0) ∧ s.domOn pdTIME = true ∧ 0 < dtIncr s.time.rate) (up
        |> (fun (s : State) => { s with safe := { s.safe with hbD := 1 } })) false ∧
    (fun (s : State) =>
      s.safe.failL = false ∧ s.released pdLIVE = true ∧ s.f SAFE.SAFE_STAT'XCHK_CAUSE = 0) up ∧
    (fun (s : State) =>
      s.safe.failL = false ∧ s.released pdLIVE = true ∧ (s.chOk !true) = true ∧ 3 ≤ s.mode ∧ s.mode ≤ 8) live ∧
    (fun (s : State) =>
      s.safe.failL = false ∧ s.released pdLIVE = true ∧ (s.mode = 10 ∨ (s.chOk !true) = false) ∧
        voteMode s.mode = true) (up |>.set SYS.MODE_STAT'MODE 3) := by
  decide +kernel

theorem test_meets_SafetyChannelsCheckEachOther_b :
    (fun (s : State) (c : Fin 3) =>
      s.safe.xNs.get (c.val + 1) ≠ 0 ∧ s.safe.xPend = false ∧ s.domOn pdTIME = true ∧ 0 < dtIncr s.time.rate) (live
        |> (fun (s : State) => { s with safe := { s.safe with xNs := s.safe.xNs.set 1 1 } })) 0 ∧
    (fun (s : State) (c : Fin 3) =>
      s.safe.xNs.get (c.val + 1) ≠ 0 ∧ s.safe.xPend = false ∧ s.f SAFE.SAFE_STAT'XCHK_CAUSE = 0) (live
        |> (fun (s : State) => { s with safe := { s.safe with xNs := s.safe.xNs.set 1 1 } })) 0 ∧
    (fun (s : State) (l : Bool) (pass : Bool) =>
      (s.released (if l = true then pdLIVE else pdDEAD) = true) ∧
        ((if l = true then s.safe.failL else s.safe.failD) = false) ∧ s.safe.xPend = false ∧ pass = false ∧
        s.f SAFE.SAFE_STAT'XCHK_CAUSE = 0) up false false ∧
    (fun (s : State) (l : Bool) (pass : Bool) =>
      (s.released (if l = true then pdLIVE else pdDEAD) = true) ∧
        ((if l = true then s.safe.failL else s.safe.failD) = false) ∧ s.safe.xPend = false ∧ pass = false ∧
        (s.chOk !l) = true ∧ 3 ≤ s.mode ∧ s.mode ≤ 8) live false false ∧
    (fun (s : State) (l : Bool) (pass : Bool) =>
      (s.released (if l = true then pdLIVE else pdDEAD) = true) ∧
        ((if l = true then s.safe.failL else s.safe.failD) = false) ∧ s.safe.xPend = false ∧ pass = false ∧
        (s.mode = 10 ∨ (s.chOk !l) = false) ∧ voteMode s.mode = true) (up |>.set SYS.MODE_STAT'MODE 3) false false ∧
    (fun (s : State) (l : Bool) (pass : Bool) =>
      (s.released (if l = true then pdLIVE else pdDEAD) = true) ∧
        ((if l = true then s.safe.failL else s.safe.failD) = false) ∧ s.safe.xPend = false ∧ pass = true ∧
        s.chOk l = false) up false true ∧
    (fun (s : State) (l : Bool) =>
      (s.released (if l = true then pdLIVE else pdDEAD) = true) ∧
        ((if l = true then s.safe.failL else s.safe.failD) = false) ∧ s.safe.xPend = true ∧
        s.safe.xTest.get (!l).toNat = 0) (up
        |> (fun (s : State) => { s with safe := { s.safe with xPend := true } })) false := by
  decide +kernel

theorem test_meets_SafetyChannelsCheckEachOther_c :
    (fun (s : State) (l : Bool) (pass : Bool) =>
      (s.released (if l = true then pdLIVE else pdDEAD) = true) ∧
        ((if l = true then s.safe.failL else s.safe.failD) = false) ∧ s.safe.xPend = true ∧
        (s.safe.xTest.get (!l).toNat = 1 ∧ pass = true ∨ s.safe.xTest.get (!l).toNat = 2 ∧ pass = false) ∧
        s.f SAFE.SAFE_STAT'XCHK_CAUSE = 0) (live
        |> (fun (s : State) => { s with safe := { s.safe with xPend := true, xTest := s.safe.xTest.set 1 2 } })) false false ∧
    (fun (s : State) (l : Bool) (pass : Bool) =>
      (s.released (if l = true then pdLIVE else pdDEAD) = true) ∧
        ((if l = true then s.safe.failL else s.safe.failD) = false) ∧ s.safe.xPend = true ∧
        (s.safe.xTest.get (!l).toNat = 1 ∧ pass = true ∨ s.safe.xTest.get (!l).toNat = 2 ∧ pass = false) ∧
        ((s.chOk !if pass = true then !l else l) = true) ∧ 3 ≤ s.mode ∧ s.mode ≤ 8) (live
        |> (fun (s : State) => { s with safe := { s.safe with xPend := true, xTest := s.safe.xTest.set 1 2 } })) false false ∧
    (fun (s : State) (l : Bool) (pass : Bool) =>
      (s.released (if l = true then pdLIVE else pdDEAD) = true) ∧
        ((if l = true then s.safe.failL else s.safe.failD) = false) ∧ s.safe.xPend = true ∧
        (s.safe.xTest.get (!l).toNat = 1 ∧ pass = true ∨ s.safe.xTest.get (!l).toNat = 2 ∧ pass = false) ∧
        (s.mode = 10 ∨ (s.chOk !if pass = true then !l else l) = false) ∧ voteMode s.mode = true) (live
        |> (fun (s : State) => { s with safe := { s.safe with xPend := true, xTest := s.safe.xTest.set 1 2 } })
        |>.set SYS.MODE_STAT'MODE 10) false false ∧
    (fun (s : State) (l : Bool) (pass : Bool) =>
      (s.released (if l = true then pdLIVE else pdDEAD) = true) ∧
        ((if l = true then s.safe.failL else s.safe.failD) = false) ∧ s.safe.xPend = true ∧
        (s.safe.xTest.get (!l).toNat = 1 ∧ pass = false ∨ s.safe.xTest.get (!l).toNat = 2 ∧ pass = true) ∧
        voteMode s.mode = true) (live
        |> (fun (s : State) => { s with safe := { s.safe with xPend := true, xTest := s.safe.xTest.set 1 1 } })) false false ∧
    (fun (s : State) =>
      s.mode = 10 ∧ s.domOn pdTIME = true ∧ 0 < dtIncr s.time.rate) (up |>.set SYS.MODE_STAT'MODE 10) := by
  decide +kernel

theorem test_meets_SeparationOutcomeSetsTheLevels :
    (fun (s : State) =>
      s.safe.snapB ≠ 0 ∧ (s.released pdDEAD = true ∨ s.released pdLIVE = true)) (up
        |> (fun (s : State) => { s with safe := { s.safe with snapB := 1 } })) := by
  decide +kernel

theorem test_meets_PortalCommandsAreCheckedAndWait :
    (fun (s : State) (w : Req) (p : Fin 8) =>
      s.takesWrite w (PORT.PORT_CMD p.val) = true ∧ (¬(s.actsAsHost w = true ∧ s.standby = true ∧ s.paired = true)) ∧
        (!(s.portal p.val).used || !s.b (PORT.PORT_CFG'EN p.val)) = true) up .host 0 ∧
    (fun (s : State) (w : Req) (p : Fin 8) =>
      s.takesWrite w (PORT.PORT_CMD p.val) = true ∧ (¬(s.actsAsHost w = true ∧ s.standby = true ∧ s.paired = true)) ∧
        (¬(!(s.portal p.val).used || !s.b (PORT.PORT_CFG'EN p.val)) = true) ∧
        (¬(decide (s.mode < 3) || decide (10 < s.mode)) = true) ∧ (¬s.edgeAny p.val = true) ∧
        s.ptSt p.val = ptFAULT) (live |>.setB (PORT.PORT_CFG'EN 0) true |>.set (PORT.PORT_STAT'STATE 0) ptFAULT) .host 0 ∧
    (fun (s : State) (w : Req) (p : Fin 8) =>
      s.takesWrite w (PORT.PORT_CMD p.val) = true ∧ (¬(s.actsAsHost w = true ∧ s.standby = true ∧ s.paired = true)) ∧
        (¬(!(s.portal p.val).used || !s.b (PORT.PORT_CFG'EN p.val)) = true) ∧
        (¬(decide (s.mode < 3) || decide (10 < s.mode)) = true) ∧ (¬s.edgeAny p.val = true) ∧
        (¬s.ptSt p.val = ptFAULT)) (live |>.setB (PORT.PORT_CFG'EN 0) true) .host 0 ∧
    (fun (s : State) (w : Req) (p : Fin 8) =>
      s.takesWrite w (PORT.PORT_CMD p.val) = true ∧ (¬(s.actsAsHost w = true ∧ s.standby = true ∧ s.paired = true)) ∧
        (¬(!(s.portal p.val).used || !s.b (PORT.PORT_CFG'EN p.val)) = true) ∧ (¬s.mode ≠ 3) ∧
        (¬s.ptSt p.val = ptFAULT) ∧ (¬s.ptMoving p.val = true)) (live |>.setB (PORT.PORT_CFG'EN 0) true) .host 0 := by
  decide +kernel

theorem test_meets_PortalTimersAndObstacles_a :
    (fun (s : State) (p : Fin 8) =>
      s.ptUsable p.val = true ∧ s.ptSt p.val = ptUNLOCK_WAIT ∧ s.domOn pdTIME = true ∧ 0 < dtIncr s.time.rate) (live
        |>.set (PORT.PORT_STAT'STATE 0) 1) 0 ∧
    (fun (s : State) (p : Fin 8) =>
      s.ptUsable p.val = true ∧ s.ptSt p.val = ptCLOSED ∧ s.lockBoth p.val = false ∧ (s.pt p.val).wdNs ≠ 0 ∧
        s.domOn pdTIME = true ∧ 0 < dtIncr s.time.rate) (live |>.set (PORT.PORT_STAT'STATE 0) 2
        |> (fun (s : State) => s.setPt 0 { s.pt 0 with wdNs := 1 })) 0 ∧
    (fun (s : State) (p : Fin 8) =>
      s.ptUsable p.val = true ∧ (s.ptSt p.val = ptOPENING ∨ s.ptSt p.val = ptCLOSING) ∧
        max 1 (s.portal p.val).obsN ≤ (s.pt p.val).exceed ∧ (s.portal p.val).kind ≠ 2 ∧
        (s.portal p.val).lpg < 8) (live |>.set (PORT.PORT_STAT'STATE 0) 3
        |> (fun (s : State) => s.setPt 0 { s.pt 0 with exceed := 1 })) 0 ∧
    (fun (s : State) (p : Fin 8) =>
      s.ptUsable p.val = true ∧ s.ptSt p.val = ptREVERSING ∧ (s.pt p.val).revOn = false ∧ s.domOn pdTIME = true ∧
        0 < dtIncr s.time.rate) (live |>.set (PORT.PORT_STAT'STATE 0) 7) 0 ∧
    (fun (s : State) (p : Fin 8) =>
      s.ptUsable p.val = true ∧ s.ptSt p.val = ptREVERSING ∧ (s.pt p.val).revOn = false ∧
        (s.pt p.val).revOpen = false) (live |>.set (PORT.PORT_STAT'STATE 0) 7) 0 ∧
    (fun (s : State) (p : Fin 8) =>
      s.ptUsable p.val = true ∧ s.ptSt p.val = ptREVERSING ∧ (s.pt p.val).revOn = false ∧
        (¬(s.pt p.val).revOpen = false)) (live |>.set (PORT.PORT_STAT'STATE 0) 7
        |> (fun (s : State) => s.setPt 0 { s.pt 0 with revOpen := true })) 0 ∧
    (fun (s : State) (p : Fin 8) =>
      s.ptUsable p.val = true ∧ s.ptMoving p.val = true ∧ s.domOn pdTIME = true ∧ 0 < dtIncr s.time.rate) (live
        |>.set (PORT.PORT_STAT'STATE 0) 3) 0 := by
  decide +kernel

theorem test_meets_PortalTimersAndObstacles_b :
    (fun (s : State) (l : Bool) (p : Nat) =>
      p < 8 ∧ s.released pdDEAD = true ∧
        (bit (if l = true then s.safeEval.safe.lkdL else s.safeEval.safe.lkdD) p = true)) (live
        |>.setB (PORT.PORT_STAT'UNLOCK_REQ 0) true |>.set SAFE.ARM_SAFE'STANDSTILL 255) false 0 := by
  decide +kernel

theorem test_meets_SertikTransmitsInItsSlots :
    (fun (s : State) (k : Fin 80) (ch : Nat) =>
      s.srtOn = true ∧ s.srt.lastSlot ≤ k.val ∧ s.b SRT.GUARD_STAT'TABLE_OK = true ∧ ch < 2 ∧ s.chUsed ch = true ∧
        k.val = s.srtIdx ∧ k.val < 3 ∧ s.srtState ∈ [srtCOLDSTART, srtACTIVE, srtTAKEOVER]) (live
        |>.setB SRT.GUARD_STAT'TABLE_OK true |>.set SRT.SRT_CFG'CS_IDX 0) 0 0 ∧
    (fun (s : State) (k : Fin 80) (ch : Nat) (e : SrtSlot) =>
      s.srtOn = true ∧ s.srt.lastSlot ≤ k.val ∧ s.b SRT.GUARD_STAT'TABLE_OK = true ∧ ch < 2 ∧ s.chUsed ch = true ∧
        (¬(k.val = s.srtIdx ∧ k.val < 3)) ∧ s.srtState ∈ [srtACTIVE, srtTAKEOVER] ∧ s.slotOf ch k.val = some e ∧
        s.ownSlot e = true ∧ e.kind ≠ 3 ∧ e.len ≤ 64) (live |>.setB SRT.GUARD_STAT'TABLE_OK true
        |>.set SRT.SRT_CFG'NODE_ID 1) 4 0 (⟨1, 0, 8, 1⟩) ∧
    (fun (s : State) (w : Req) (f : Fin 256) =>
      s.takesWrite w (SRT.TX_CTRL f.val) = true ∧ s.txFrame f.val = true ∧ s.f (SRT.TX_CTRL'SRC f.val) ≠ 1 ∧
        (((s.ownSlots 0 f.val ++ s.ownSlots 1 f.val).any fun k => decide (3125 * k ≤ s.ns % 250000 + 1000 ∧
        s.ns % 250000 < 3125 * k + 3125)) = true) ∧ s.srtOn = true) (live |>.set SRT.SRT_CFG'NODE_ID 1
        |> (fun (s : State) => { s with time := { s.time with dt := 12500 * 2 ^ 32 } })) .host 0 := by
  decide +kernel

theorem test_meets_SertikReceivesStartsAndRecovers_a :
    (fun (s : State) (ch : Fin 2) (sof : Nat) (fr : List (BitVec 8)) (e : SrtSlot) =>
      s.srtOn = true ∧ s.chUsed ch.val = true ∧ s.srtState = srtACTIVE ∧ leAt fr 0 1 % 16 ∈ [1] ∧
        leAt fr 0 1 / 32 = ch.val ∧ leAt fr 2 1 = sof % 250000 / 3125 ∧ fr.length = 12 + leAt fr 3 1 ∧
        leAt fr (8 + leAt fr 3 1) 4 = crc32c (List.take (8 + leAt fr 3 1) fr) ∧ leAt fr 3 1 ≤ 64 ∧
        leAt fr 0 1 / 16 % 2 = 0 ∧ leAt fr 1 1 < 64 ∧ leAt fr 7 1 = 0 ∧ leAt fr 4 2 = s.cycleNo ∧
        3 < sof % 250000 / 3125 ∧ sof % 250000 / 3125 < 68 ∧ 100 ≤ sof % 3125 ∧ sof % 3125 ≤ 500 ∧
        s.slotOf (ch.val) (sof % 250000 / 3125) = some e ∧ s.mayOwn e (leAt fr 1 1 % 32) = true ∧
        e.frame = leAt fr 6 1 ∧ e.len = leAt fr 3 1 ∧ e.kind ≠ 4 ∧ s.txFrame (leAt fr 6 1) = false ∧
        s.b (SRT.RX_CFG'EN (leAt fr 6 1)) = true ∧ s.f (SRT.RX_CFG'DEST (leAt fr 6 1)) ≠ 1 ∧
        s.srt.stored.contains (leAt fr 6 1) = true) (live
        |> (fun (s : State) => { s with srt := { s.srt with stored := [0] } })
        |>.setB (SRT.RX_CFG'EN 0) true) 0 12600 ((withCrc ([1, 1, 4, 8] ++ List.replicate 12 0))) (⟨1, 0, 8, 1⟩) := by
  decide +kernel

theorem test_meets_SertikReceivesStartsAndRecovers_b :
    (fun (s : State) (ch : Fin 2) (sof : Nat) (fr : List (BitVec 8)) (e : SrtSlot) =>
      s.srtOn = true ∧ s.chUsed ch.val = true ∧ s.srtState = srtACTIVE ∧ leAt fr 0 1 % 16 ∈ [1] ∧
        leAt fr 0 1 / 32 = ch.val ∧ leAt fr 2 1 = sof % 250000 / 3125 ∧ fr.length = 12 + leAt fr 3 1 ∧
        leAt fr (8 + leAt fr 3 1) 4 = crc32c (List.take (8 + leAt fr 3 1) fr) ∧ leAt fr 3 1 ≤ 64 ∧
        leAt fr 0 1 / 16 % 2 = 0 ∧ leAt fr 1 1 < 64 ∧ leAt fr 7 1 = 0 ∧ leAt fr 4 2 = s.cycleNo ∧
        3 < sof % 250000 / 3125 ∧ sof % 250000 / 3125 < 68 ∧ 100 ≤ sof % 3125 ∧ sof % 3125 ≤ 500 ∧
        s.slotOf (ch.val) (sof % 250000 / 3125) = some e ∧ s.mayOwn e (leAt fr 1 1 % 32) = true ∧
        e.frame = leAt fr 6 1 ∧ e.len = leAt fr 3 1 ∧ e.kind ≠ 4 ∧ s.txFrame (leAt fr 6 1) = false ∧
        s.b (SRT.RX_CFG'EN (leAt fr 6 1)) = true ∧ s.f (SRT.RX_CFG'DEST (leAt fr 6 1)) ≠ 1 ∧
        (¬s.srt.stored.contains (leAt fr 6 1) = true)) (live
        |> (fun (s : State) => { s with srt := { s.srt with stored := [] } })
        |>.setB (SRT.RX_CFG'EN 0) true) 0 12600 ((withCrc ([1, 1, 4, 8] ++ List.replicate 12 0))) (⟨1, 0, 8, 1⟩) ∧
    (fun (s : State) (ch : Fin 2) =>
      s.srtOn = true ∧ s.lost ch.val = false ∧ (s.srt.lastSlot = 0 ∨ s.srt.lastSlot ≤ s.srt.ended) ∧
        3 ≤ s.srt.miss.get ch.val ∧ s.srt.alive.get ch.val = true) (live
        |> (fun (s : State) => { s with srt := { s.srt with miss := s.srt.miss.set 0 3, alive := s.srt.alive.set 0 true } })) 0 ∧
    (fun (s : State) (w : Req) =>
      s.takesWrite w SRT.SRT_CTRL = true ∧ s.cfg.srt.used = false) up .host := by
  decide +kernel

theorem test_meets_SertikReceivesStartsAndRecovers_c :
    (fun (s : State) (w : Req) (v : Word) =>
      s.takesWrite w SRT.SRT_CTRL = true ∧ s.cfg.srt.used = true ∧ s.b SRT.SRT_CTRL'EN = true ∧
        bit (BitVec.toNat v) 31 = false) live .host 0 ∧
    (fun (s : State) =>
      s.srtOn = true ∧ s.srtState = srtLISTEN ∧ s.srtIdx < 3 ∧ s.domOn pdTIME = true ∧ 0 < dtIncr s.time.rate) (live
        |>.set SRT.SRT_STAT'STATE srtLISTEN |>.set SRT.SRT_CFG'CS_IDX 0) ∧
    (fun (s : State) =>
      s.srtOn = true ∧ s.srtState = srtBACKOFF ∧ s.domOn pdTIME = true ∧ 0 < dtIncr s.time.rate) (live
        |>.set SRT.SRT_STAT'STATE srtBACKOFF) ∧
    (fun (s : State) =>
      s.srtOn = true ∧ s.srtState = srtACTIVE ∧ s.b SRT.SRT_STAT'LEADER = false ∧ 4 ≤ s.srt.silent) (live
        |> (fun (s : State) => { s with srt := { s.srt with silent := 4 } })) ∧
    (fun (s : State) =>
      s.srtOn = true ∧ s.srtState = srtTAKEOVER ∧ (s.cycleNo + 65536 - s.srt.toCycle) % 65536 < 32768) (live
        |>.set SRT.SRT_STAT'STATE srtTAKEOVER) ∧
    (fun (s : State) (i : Fin 24) =>
      s.srtOn = true ∧ s.b SRT.SRT_STAT'LEADER = true ∧ bit (s.grant i.val) 5 = true ∧
        64 ≤ s.srt.idle.get i.val) (live |>.wr (SRT.GRANT 0) 0x20
        |> (fun (s : State) => { s with srt := { s.srt with idle := s.srt.idle.set 0 64 } })
        |>.setB SRT.SRT_STAT'LEADER true) 0 := by
  decide +kernel

theorem test_meets_DeviceTimeAndEthernetPorts_a :
    (fun (s : State) (w : Req) =>
      s.takesWrite w TIME.STEP_CMD = true ∧ s.hostOrSupv w = false) up (.core 0) ∧
    (fun (s : State) (w : Req) =>
      s.takesWrite w TIME.STEP_CMD = true ∧ (¬s.hostOrSupv w = false) ∧ (s.cycRun = true ∨
        1000000000 ≤ s.rdN TIME.SET_NS)) live .host ∧
    (fun (s : State) (w : Req) =>
      s.takesWrite w TIME.STEP_CMD = true ∧ (¬s.hostOrSupv w = false) ∧ (¬(s.cycRun = true ∨
        1000000000 ≤ s.rdN TIME.SET_NS)) ∧ s.time.startArmed = true) (up
        |> (fun (s : State) => { s with time := { s.time with startArmed := true } })) .host ∧
    (fun (s : State) (w : Req) =>
      s.takesWrite w TIME.RATE_ADJ = true ∧ (s.hostOrSupv w = false ∨ s.fyvTime = true ∨
        s.b TIME.TIME_STAT'HOLDOVER = true)) up (.core 0) ∧
    (fun (s : State) (w : Req) (v : Word) =>
      s.takesWrite w TIME.RATE_ADJ = true ∧ (¬(s.hostOrSupv w = false ∨ s.fyvTime = true ∨
        s.b TIME.TIME_STAT'HOLDOVER = true)) ∧
        clampI (-(↑(s.f TIME.RATE_MAX'RATE_MAX) * ppm)) (↑(s.f TIME.RATE_MAX'RATE_MAX) * ppm) (BitVec.toInt v) ≠ BitVec.toInt v) up .host 0x80000000 ∧
    (fun (s : State) (w : Req) (v : Word) =>
      s.takesWrite w TIME.RATE_ADJ = true ∧ (¬(s.hostOrSupv w = false ∨ s.fyvTime = true ∨
        s.b TIME.TIME_STAT'HOLDOVER = true)) ∧
        clampI (-(↑(s.f TIME.RATE_MAX'RATE_MAX) * ppm)) (↑(s.f TIME.RATE_MAX'RATE_MAX) * ppm) (BitVec.toInt v) = BitVec.toInt v) up .host 0 ∧
    (fun (s : State) (w : Req) =>
      s.takesWrite w TIME.RATE_ADJ = true ∧ (¬(s.hostOrSupv w = false ∨ s.fyvTime = true ∨
        s.b TIME.TIME_STAT'HOLDOVER = true)) ∧ s.srtLeads = false) up .host ∧
    (fun (s : State) (w : Req) (v : Word) =>
      s.takesWrite w TIME.RATE_MAX = true ∧ (BitVec.toNat v % 1024 < 1 ∨ 500 < BitVec.toNat v % 1024)) up .host 0 ∧
    (fun (s : State) (w : Req) (v : Word) =>
      s.takesWrite w TIME.RATE_MAX = true ∧ (¬(BitVec.toNat v % 1024 < 1 ∨ 500 < BitVec.toNat v % 1024))) up .host 1 ∧
    (fun (s : State) (w : Req) (v : Word) =>
      s.takesWrite w TIME.SLEW_NS = true ∧ (s.hostOrSupv w = false ∨ s.fyvTime = true ∨
        s.b TIME.TIME_STAT'HOLDOVER = true ∨ BitVec.toInt v < -1000000 ∨ 1000000 < BitVec.toInt v)) up .host 0x80000000 := by
  decide +kernel

theorem test_meets_DeviceTimeAndEthernetPorts_b :
    (fun (s : State) (w : Req) (v : Word) =>
      s.takesWrite w TIME.SLEW_NS = true ∧ (¬(s.hostOrSupv w = false ∨ s.fyvTime = true ∨
        s.b TIME.TIME_STAT'HOLDOVER = true ∨ BitVec.toInt v < -1000000 ∨ 1000000 < BitVec.toInt v))) up .host 0 ∧
    (fun (s : State) =>
      s.domOn pdTIME = true ∧ s.b TIME.TIME_STAT'SLEWING = true ∧ (s.time.slewLeft = 0 ∨ s.srtLeads = false ∧
        s.slewRate ≠ 0)) (up |>.setB TIME.TIME_STAT'SLEWING true) ∧
    (fun (s : State) (w : Req) =>
      s.takesWrite w TIME.TIME_CTRL = true ∧ s.b TIME.TIME_CTRL'RUN = false) up .host ∧
    (fun (s : State) (w : Req) =>
      s.takesWrite w TIME.TIME_CTRL = true ∧ s.b TIME.TIME_CTRL'RUN = true ∧ voteMode s.mode = true) (live
        |>.setB TIME.TIME_CTRL'RUN true) .host ∧
    (fun (s : State) (w : Req) =>
      s.takesWrite w TIME.TIME_CTRL = true ∧ s.b TIME.TIME_CTRL'RUN = true ∧ voteMode s.mode = false) (up
        |>.setB TIME.TIME_CTRL'RUN true) .host ∧
    (fun (s : State) =>
      s.domOn pdTIME = true ∧ s.time.startArmed = true) (up
        |> (fun (s : State) => { s with time := { s.time with startArmed := true } })) ∧
    (fun (s : State) (w : Req) =>
      s.takesRead w TIME.DT_NS = true) up .host ∧
    (fun (s : State) (w : Req) (p : Fin 2) =>
      s.takesRead w (TIME.TXTS_HDR p.val) = true ∧ s.time.txts.get p.val = []) up .host 0 ∧
    (fun (s : State) =>
      s.domOn pdTIME = true ∧ (s.f TIME.TIME_CTRL'SRC = 1 ∨ s.f TIME.TIME_CTRL'SRC = 2) ∧
        s.b TIME.TIME_STAT'HOLDOVER = false ∧ 0 < dtIncr s.time.rate) (up |>.set TIME.TIME_CTRL'SRC 1) ∧
    (fun (s : State) =>
      s.domOn pdTIME = true ∧ s.b TIME.TIME_CTRL'PPS_EN = true ∧ s.ns % 1000000000 ≠ 0 ∧
        0 < dtIncr s.time.rate) (live |>.setB TIME.TIME_CTRL'PPS_EN true) := by
  decide +kernel

theorem test_meets_DeviceTimeAndEthernetPorts_c :
    (fun (s : State) (p : Fin 2) (fcs : Bool) (fr : List (BitVec 8)) =>
      s.netLive p.val = true ∧ (fcs = false ∨ 4064 < fr.length)) (up |>.setB (NET.NET_CFG'EN 0) true
        |>.setB (NET.NET_STAT'LINK 0) true) 0 false ([]) ∧
    (fun (s : State) (p : Fin 2) (fcs : Bool) (fr : List (BitVec 8)) =>
      s.netLive p.val = true ∧ fcs = true ∧ fr.length ≤ 4064 ∧ s.netAccepts (p.val) fr = false) (up
        |>.setB (NET.NET_CFG'EN 0) true |>.setB (NET.NET_STAT'LINK 0) true) 0 true ([1]) ∧
    (fun (s : State) (p : Fin 2) (fcs : Bool) (fr : List (BitVec 8)) =>
      s.netLive p.val = true ∧ fcs = true ∧ fr.length ≤ 4064 ∧ s.netAccepts (p.val) fr = true ∧
        s.f (NET.NET_RX_RING'RX_BASE p.val) + (s.netPort p.val).rxIdx < 2048 ∧ s.domOn pdMEM = true ∧
        s.owner (s.f (NET.NET_RX_RING'RX_BASE p.val) + (s.netPort p.val).rxIdx) = ownDEVICE) (up
        |>.setB (NET.NET_CFG'EN 0) true |>.setB (NET.NET_STAT'LINK 0) true
        |> (fun (s : State) => s.set (CHUCK.SMW_FLAG'OWNER (s.f (NET.NET_RX_RING'RX_BASE 0) + (s.netPort 0).rxIdx)) ownDEVICE)) 0 true ([]) ∧
    (fun (s : State) (p : Fin 2) (fcs : Bool) (fr : List (BitVec 8)) =>
      s.netLive p.val = true ∧ fcs = true ∧ fr.length ≤ 4064 ∧ s.netAccepts (p.val) fr = true ∧
        s.f (NET.NET_RX_RING'RX_BASE p.val) + (s.netPort p.val).rxIdx < 2048 ∧ (¬(s.domOn pdMEM = true ∧
        s.owner (s.f (NET.NET_RX_RING'RX_BASE p.val) + (s.netPort p.val).rxIdx) = ownDEVICE))) (up
        |>.setB (NET.NET_CFG'EN 0) true |>.setB (NET.NET_STAT'LINK 0) true) 0 true ([]) ∧
    (fun (s : State) (w : Req) (p : Fin 2) (v : Word) =>
      s.takesWrite w (NET.NET_TX_CMD p.val) = true ∧ bit (BitVec.toNat v) 31 = true ∧
        (¬(if s.owns w (bitsOf v 10 0) = false then 3 else if s.txFormat (bitsOf v 10 0) = false then 2 else if s.netLive p.val = false then 4 else if 64 ≤ (s.netPort p.val).queue.length then 1 else 0) = 0)) up .host 0 0xFFFFFFFF ∧
    (fun (s : State) (p : Fin 2) (b : Nat) (q : List Nat) =>
      s.netLive p.val = true ∧ (s.netPort p.val).queue = b :: q ∧ b < 2048 ∧ s.owner b = ownDEVICE) (up
        |>.setB (NET.NET_CFG'EN 0) true |>.setB (NET.NET_STAT'LINK 0) true
        |> (fun (s : State) => s.setNetPort 0 { s.netPort 0 with queue := 0 :: ([]) })
        |>.set (CHUCK.SMW_FLAG'OWNER 0) ownDEVICE) 0 0 ([]) ∧
    (fun (s : State) (p : Fin 2) (b : Nat) (q : List Nat) =>
      s.netLive p.val = true ∧ (s.netPort p.val).queue = b :: q ∧ b < 2048 ∧ q = []) (up
        |>.setB (NET.NET_CFG'EN 0) true |>.setB (NET.NET_STAT'LINK 0) true
        |> (fun (s : State) => s.setNetPort 0 { s.netPort 0 with queue := 0 :: ([]) })) 0 0 ([]) ∧
    (fun (s : State) (up : Bool) =>
      s.domOn pdHOST = true ∧ (up = false ∨ s.netClock = false)) up false := by
  decide +kernel

theorem test_meets_PairAndCascadeFollowTheirPartners_a :
    (fun (held : Nat) =>
      held < 20000) 0 ∧
    (fun (s : State) (held : Nat) =>
      20000 ≤ held ∧ s.cycRun = true) live 65536 ∧
    (fun (s : State) (active : Bool) (held : Nat) =>
      20000 ≤ held ∧ s.cycRun = false ∧ (s.steadyUp = false ∨ s.fyv.pActive = false ∨ s.member ≠ 1) ∧
        s.standby = active) up true 65536 ∧
    (fun (s : State) =>
      s.fyv.rVotes ≠ none ∧ 4 ≤ (s.cycleNo + 65536 - s.fyv.rConsec) % 65536) (up |>.set SRT.SRT_STAT'CYCLE 4
        |> (fun (s : State) => { s with fyv := { s.fyv with rVotes := some default } })) ∧
    (fun (s : State) =>
      s.domOn pdLINK = true ∧ s.steadyUp = true ∧ s.pairSt = pairSOLO ∧ s.fyv.pBeat = true) (live
        |>.setB (FYV.LINK_STAT'UP 4) true |> (fun (s : State) => { s with fyv := { s.fyv with pBeat := true } })) ∧
    (fun (s : State) =>
      s.domOn pdCTL = true ∧ s.standby = true ∧ s.fyv.actB ≠ 0 ∧ s.fyv.actB = s.fyv.ownB ∧ s.ns < s.fyv.actB + 150000 ∧
        s.domOn pdTIME = true ∧ 0 < dtIncr s.time.rate) (up
        |> (fun (s : State) => { s with fyv := { s.fyv with actB := 1, ownB := 1 } })) ∧
    (fun (s : State) =>
      s.domOn pdLINK = true ∧ s.steadyUp = false ∧ s.pairSt ≠ pairSOLO ∧ s.domOn pdTIME = true ∧
        0 < dtIncr s.time.rate) (live |>.set FYV.PAIR_STAT'STATE 1) ∧
    (fun (s : State) =>
      s.domOn pdLINK = true ∧ s.paired = true ∧ s.b FYV.PAIR_STAT'SWAP_DUE = false) live ∧
    (fun (s : State) (l : Fin 4) (fr : List (BitVec 8)) =>
      s.domOn pdLINK = true ∧ s.b (FYV.LINK_STAT'UP l.val) = true ∧ (¬(fr.length = 20 + leAt fr 4 2 ∧
        leAt fr 4 2 ≤ 8192 ∧ leAt fr 4 2 % 4 = 0 ∧
        leAt fr (16 + leAt fr 4 2) 4 = crc32c (List.take (16 + leAt fr 4 2) fr)))) (up
        |>.setB (FYV.LINK_STAT'UP 0) true) 0 ([]) := by
  decide +kernel

theorem test_meets_PairAndCascadeFollowTheirPartners_b :
    (fun (s : State) (l : Fin 4) (fr : List (BitVec 8)) =>
      s.domOn pdLINK = true ∧ s.b (FYV.LINK_STAT'UP l.val) = true ∧ fr.length = 20 + leAt fr 4 2 ∧ leAt fr 4 2 ≤ 8192 ∧
        leAt fr 4 2 % 4 = 0 ∧ leAt fr (16 + leAt fr 4 2) 4 = crc32c (List.take (16 + leAt fr 4 2) fr) ∧
        leAt fr 2 1 % 4 = s.f FYV.CASC_CFG'POS ∧ (bit (leAt fr 2 1) 3 = true ∨ leAt fr 2 1 / 4 % 2 = s.member) ∧
        leAt fr 0 1 = 2) (up |>.setB (FYV.LINK_STAT'UP 0) true) 0 ((withCrc (2 :: List.replicate 15 0))) ∧
    (fun (s : State) (l : Fin 4) (fr : List (BitVec 8)) =>
      s.domOn pdLINK = true ∧ s.b (FYV.LINK_STAT'UP l.val) = true ∧ fr.length = 20 + leAt fr 4 2 ∧ leAt fr 4 2 ≤ 8192 ∧
        leAt fr 4 2 % 4 = 0 ∧ leAt fr (16 + leAt fr 4 2) 4 = crc32c (List.take (16 + leAt fr 4 2) fr) ∧
        leAt fr 2 1 % 4 ≠ s.f FYV.CASC_CFG'POS ∧ (¬leAt fr 0 1 ∈ [1, 17])) (up
        |>.setB (FYV.LINK_STAT'UP 0) true) 0 ((withCrc ([0, 0, 1] ++ List.replicate 13 0))) ∧
    (fun (s : State) (l : Fin 5) =>
      s.domOn pdLINK = true ∧ s.b (FYV.LINK_STAT'UP l.val) = false ∧ s.fyv.train = []) up 0 ∧
    (fun (s : State) =>
      s.domOn pdTIME = true ∧ s.fyvTime = true ∧ s.fyv.timeLost = false ∧ s.b TIME.TIME_STAT'HOLDOVER = false ∧
        0 < dtIncr s.time.rate) (up |>.set TIME.TIME_CTRL'SRC 3) ∧
    (fun (s : State) (w : Req) (v : Word) =>
      s.takesWrite w FYV.IMG_SEND = true ∧ (¬(bit (BitVec.toNat v) 31 = true ∧ 1 ≤ bitsOf v 28 18 ∧
        bitsOf v 28 18 ≤ 1024 ∧ bitsOf v 10 0 + bitsOf v 28 18 ≤ 2048 ∧ s.f FYV.CASC_CFG'POS = 0 ∧
        ∀ (i : Nat), i < bitsOf v 28 18 → s.owner (bitsOf v 10 0 + i) = ownDEVICE))) up .host 0 := by
  decide +kernel

theorem test_meets_PairAndCascadeFollowTheirPartners_c :
    (fun (s : State) =>
      s.domOn pdFACE = true ∧ s.face.s.st = 1 ∧ 1 ≤ s.face.s.round ∧ s.rough.asmDone = false) (live
        |> (fun (s : State) => { s with face := { s.face with s := { s.face.s with st := 1, round := 1 } } })) ∧
    (fun (s : State) =>
      s.domOn pdFACE = true ∧ s.face.s.st = 1 ∧ 1 ≤ s.face.s.round ∧ s.rough.asmDone = true ∧
        (s.advanceTo (s.face.s.issNs + s.cfg.roughEnd + (s.face.s.round - 1) * s.consW)).ns < s.face.s.deadline ∧
        s.face.s.feed = 0 ∧ s.face.s.warm = 2 ∧ s.ledgerUsed + s.f FACE.FACE_TOKENS'S_TOKENS ≤ s.budget ∧
        s.pwr.waiting = [] ∧ s.fyv.consRound ≠ 0) (live
        |> (fun (s : State) => { s with rough := { s.rough with asmDone := true } })
        |> (fun (s : State) => { s with face := { s.face with s := { s.face.s with st := 1, round := 1, deadline := 900000, warm := 2, issNs := 80000 } } }) |> (fun (s : State) => { s with fyv := { s.fyv with consRound := 1 } })) ∧
    (fun (s : State) =>
      s.domOn pdLINK = true ∧ s.domOn pdFACE = true ∧ s.cfg.casc.pos = 0 ∧ s.fyv.consRound ≠ 0) (up
        |> (fun (s : State) => { s with fyv := { s.fyv with consRound := 1 } })) ∧
    (fun (s : State) (n : Fin 16) =>
      s.domOn pdLINK = true ∧ s.portIsUp n.val = true ∧ (s.bport n.val).standbyFrame ≠ []) (up
        |>.set (BLK.PORT_STAT'STATE 0) 3
        |> (fun (s : State) => s.setBport 0 { s.bport 0 with standbyFrame := [default] })) 0 := by
  decide +kernel

theorem test_meets_FieldInputsAndOutputsFollowRefresh_a :
    (fun (s : State) =>
      s.domOn pdCTL = true ∧ s.domOn pdTIME = true ∧ 0 < dtIncr s.time.rate ∧ s.dio.tickNs ≠ 0) (up
        |> (fun (s : State) => { s with dio := { s.dio with tickNs := 1 } })) ∧
    (fun (s : State) =>
      s.domOn pdCTL = false) State.reset ∧
    (fun (s : State) (g : Fin 2) =>
      s.dio.uvFrom.get g.val ≠ 0 ∧ bit s.dio.uv g.val = false ∧ s.domOn pdTIME = true ∧ 0 < dtIncr s.time.rate) (up
        |> (fun (s : State) => { s with dio := { s.dio with uvFrom := s.dio.uvFrom.set 0 1 } })) 0 ∧
    (fun (s : State) (g : Fin 2) =>
      s.dio.uvFrom.get g.val ≠ 0 ∧ bit s.dio.uv g.val = false ∧ s.domOn pdCTL = true) (up
        |> (fun (s : State) => { s with dio := { s.dio with uvFrom := s.dio.uvFrom.set 0 1 } })) 0 ∧
    (fun (s : State) (i : Fin 32) (on : Bool) (held : Nat) =>
      s.domOn pdCTL = true ∧ s.fbit DIO.DIO_IN'IN i.val = !on ∧
        held < 10 * (s.f DIO.DIO_FILT'FILT / 256 ^ (i.val / 8) % 256)) up 0 true 0 ∧
    (fun (s : State) (i : Fin 32) (on : Bool) (held : Nat) =>
      s.domOn pdCTL = true ∧ s.fbit DIO.DIO_IN'IN i.val = !on ∧
        10 * (s.f DIO.DIO_FILT'FILT / 256 ^ (i.val / 8) % 256) ≤ held) up 0 true 4096 ∧
    (fun (ns : Nat) (thermal : Bool) =>
      thermal = false ∧ ns ≤ 5000000) 0 false ∧
    (fun (ns : Nat) (thermal : Bool) =>
      (thermal = true ∨ 5000000 < ns)) 0 true ∧
    (fun (s : State) (w : Req) =>
      s.takesWrite w DIO.DIO_OVLD_CLR = true) up .host ∧
    (fun (s : State) (i : Fin 16) =>
      bit s.dio.cmpOn i.val = true ∧ s.domOn pdTIME = true ∧ 0 < dtIncr s.time.rate) (up
        |> (fun (s : State) => { s with dio := { s.dio with cmpOn := 1 } })) 0 := by
  decide +kernel

theorem test_meets_FieldInputsAndOutputsFollowRefresh_b :
    (fun (s : State) (i : Fin 16) =>
      bit s.dio.cmpOn i.val = true ∧ s.foSrc i.val = 1 ∧ s.foJoined i.val = false ∧ s.domOn pdCTL = true) (up
        |> (fun (s : State) => { s with dio := { s.dio with cmpOn := 1 } }) |>.set DIO.DIO_OUT_SRC'SRC 1) 0 ∧
    (fun (s : State) (i : Fin 16) =>
      bit s.dio.cmpOn i.val = true ∧ s.foSrc i.val ≠ 1) (up
        |> (fun (s : State) => { s with dio := { s.dio with cmpOn := 1 } })) 0 ∧
    (fun (s : State) (g : Fin 2) =>
      s.domOn pdCTL = true ∧ s.b (DIO.DIO_GRP_STAT'RESTORE_READY g.val) = false ∧ s.dio.okFrom.get g.val ≠ 0 ∧
        (bit s.dio.uv g.val = true ∨ bit s.dio.silent g.val = true ∧ s.fbit DIO.DIO_LINK'RUN g.val = true) ∧
        s.domOn pdTIME = true ∧ 0 < dtIncr s.time.rate) (up
        |> (fun (s : State) => { s with dio := { s.dio with uv := 1 } })
        |> (fun (s : State) => { s with dio := { s.dio with okFrom := s.dio.okFrom.set 0 1, uv := 1 } })) 0 ∧
    (fun (s : State) (g : Fin 2) =>
      s.domOn pdCTL = true ∧ s.b (DIO.DIO_GRP_STAT'RESTORE_READY g.val) = false ∧ s.dio.okFrom.get g.val ≠ 0 ∧
        (bit s.dio.uv g.val = true ∨ bit s.dio.silent g.val = true ∧ s.fbit DIO.DIO_LINK'RUN g.val = true) ∧
        s.b (DIO.DIO_GRP_CTRL'AUTO_RESTORE g.val) = true ∧ bit s.dio.uv g.val = true ∧
        bit s.dio.silent g.val = false) (up
        |> (fun (s : State) => { s with dio := { s.dio with okFrom := s.dio.okFrom.set 0 1, uv := 1 } })
        |>.setB (DIO.DIO_GRP_CTRL'AUTO_RESTORE 0) true) 0 ∧
    (fun (s : State) (g : Fin 2) =>
      s.domOn pdCTL = true ∧ s.b (DIO.DIO_GRP_STAT'RESTORE_READY g.val) = false ∧ s.dio.okFrom.get g.val ≠ 0 ∧
        (bit s.dio.uv g.val = true ∨ bit s.dio.silent g.val = true ∧ s.fbit DIO.DIO_LINK'RUN g.val = true) ∧
        (¬(s.b (DIO.DIO_GRP_CTRL'AUTO_RESTORE g.val) = true ∧ bit s.dio.uv g.val = true ∧
        bit s.dio.silent g.val = false))) (up
        |> (fun (s : State) => { s with dio := { s.dio with okFrom := s.dio.okFrom.set 0 1, uv := 1 } })) 0 ∧
    (fun (s : State) (w : Req) (g : Fin 2) =>
      s.takesWrite w (DIO.DIO_GRP_CTRL g.val) = true ∧ s.b (DIO.DIO_GRP_STAT'RESTORE_READY g.val) = true) (up
        |>.setB (DIO.DIO_GRP_STAT'RESTORE_READY 0) true) .host 0 ∧
    (fun (s : State) (w : Req) (g : Fin 2) =>
      s.takesWrite w (DIO.DIO_GRP_CTRL g.val) = true ∧ (¬s.b (DIO.DIO_GRP_STAT'RESTORE_READY g.val) = true)) up .host 0 := by
  decide +kernel

theorem test_meets_FlashAppendsProgrammesAndReads_a :
    (fun (s : State) (w : Req) (v : Word) =>
      s.takesWrite w NAND.CR_CMD = true ∧ bit (BitVec.toNat v) 30 = false ∧ (¬(s.standby = true ∧ s.paired = true)) ∧
        (leAt (List.flatMap (fun i => toLE 4 (s.rdN (NAND.CR_DATA i))) (upto 15)) 0 1 < 128)) up .host 0 ∧
    (fun (s : State) (w : Req) (b : Nat) =>
      s.takesWrite w NAND.CR_CMD = true ∧ s.domOn pdFLASH = true ∧ s.b NAND.NAND_STAT'MOUNTED = true ∧
        s.standby = false ∧ s.nand.cur = none ∧ s.nand.ops = [] ∧ (s.ring 6).buf ≠ [] ∧ s.nextBlock 6 = some b ∧
        ((s.nblk b).next = 0 ∨ s.nand.open_.get 6 = b + 1) ∧ s.ledgerUsed + 1 ≤ s.budget ∧ s.pwr.waiting = []) (live
        |> (fun (s : State) => { s with nand := { s.nand with cyc := { s.nand.cyc with buf := [(default : RingEnt)] }, open_ := (s.nand.open_.set 5 21).set 6 437 } }) |>.setB NAND.NAND_STAT'MOUNTED true) .host 436 ∧
    (fun (s : State) (cycle : Bool) (b : Nat) =>
      s.domOn pdFLASH = true ∧ s.b NAND.NAND_STAT'MOUNTED = true ∧ s.standby = false ∧ s.nand.cur = none ∧
        s.nand.ops = [] ∧ ((s.ring (if cycle = true then 6 else 5)).buf ≠ []) ∧
        (s.nextBlock (if cycle = true then 6 else 5) = some b) ∧ ((s.nblk b).next = 0 ∨
        s.nand.open_.get (if cycle = true then 6 else 5) = b + 1) ∧ s.ledgerUsed + 1 ≤ s.budget ∧
        s.pwr.waiting = []) (live
        |> (fun (s : State) => { s with nand := { s.nand with safe := { s.nand.safe with buf := [(default : RingEnt)] }, open_ := (s.nand.open_.set 5 21).set 6 437 } }) |>.setB NAND.NAND_STAT'MOUNTED true) false 20 ∧
    (fun (s : State) (p : Nat) (e : RingEnt) (q : List RingEnt) =>
      s.domOn pdFLASH = true ∧ s.nand.run = true ∧ s.nand.cur = some (NOp.ring p) ∧ (p = 5 ∨ p = 6) ∧ s.nand.ops = [] ∧
        (s.ring p).fly = e :: q ∧ e.rseq + q.length < 2 ^ 64) (up
        |> (fun (s : State) => { s with nand := { s.nand with run := true, cur := some (NOp.ring 5), safe := { s.nand.safe with fly := [(default : RingEnt)] } } })) 5 ((default : RingEnt)) ([]) := by
  decide +kernel

theorem test_meets_FlashAppendsProgrammesAndReads_b :
    (fun (s : State) (p : Nat) (e : RingEnt) (q : List RingEnt) =>
      s.domOn pdFLASH = true ∧ s.nand.run = true ∧ s.nand.cur = some (NOp.ring p) ∧ (p = 5 ∨ p = 6) ∧ s.nand.ops = [] ∧
        (s.ring p).fly = e :: q ∧ (s.nblk s.nand.blk).bad = false) (up
        |> (fun (s : State) => { s with nand := { s.nand with run := true, cur := some (NOp.ring 5), safe := { s.nand.safe with fly := [(default : RingEnt)] } } })) 5 ((default : RingEnt)) ([]) ∧
    (fun (s : State) (b : Nat) =>
      s.domOn pdFLASH = true ∧ s.nand.run = true ∧ s.nand.cur = some (NOp.erase b)) (up
        |> (fun (s : State) => { s with nand := { s.nand with run := true } })
        |> (fun (s : State) => { s with nand := { s.nand with cur := some (NOp.erase 0) } })) 0 ∧
    (fun (s : State) (w : Req) (v : Word) =>
      s.takesWrite w NAND.RD_CMD = true ∧ (¬(s.standby = true ∧ s.paired = true ∧ s.actsAsHost w = true)) ∧
        (¬(if s.nand.rdBusy = true then 1 else if s.owner (bitsOf v 10 0) ≠ ownDEVICE then 3 else if s.rdN NAND.RD_RSEQ_LO + 2 ^ 32 * s.rdN NAND.RD_RSEQ_HI < s.oldest (if bit (BitVec.toNat v) 30 = true then 5 else 6) ∨ s.durable (if bit (BitVec.toNat v) 30 = true then 5 else 6) < s.rdN NAND.RD_RSEQ_LO + 2 ^ 32 * s.rdN NAND.RD_RSEQ_HI ∨ s.rdN NAND.RD_RSEQ_LO + 2 ^ 32 * s.rdN NAND.RD_RSEQ_HI = 0 then 2 else 0) = 0)) up .host 0 ∧
    (fun (s : State) (unc : Nat) =>
      s.domOn pdFLASH = true ∧ s.nand.rdBusy = true ∧ (s.nand.rdPart = 5 ∨ s.nand.rdPart = 6) ∧ s.nand.rdBuf < 2048 ∧
        s.owner s.nand.rdBuf = ownDEVICE ∧ 0 < unc) (up
        |> (fun (s : State) => { s with nand := { s.nand with rdBusy := true } })
        |> (fun (s : State) => { s with nand := { s.nand with rdPart := 5 } })
        |> (fun (s : State) => s.set (CHUCK.SMW_FLAG'OWNER s.nand.rdBuf) ownDEVICE)) 1 ∧
    (fun (s : State) (raw : List (Nat × List (BitVec 8))) =>
      s.domOn pdFLASH = true ∧ s.nand.rdBusy = true ∧ (s.nand.rdPart = 5 ∨ s.nand.rdPart = 6) ∧ s.nand.rdBuf < 2048 ∧
        s.owner s.nand.rdBuf = ownDEVICE ∧ raw = []) (up
        |> (fun (s : State) => { s with nand := { s.nand with rdBusy := true } })
        |> (fun (s : State) => { s with nand := { s.nand with rdPart := 5 } })
        |> (fun (s : State) => s.set (CHUCK.SMW_FLAG'OWNER s.nand.rdBuf) ownDEVICE)) ([]) ∧
    (fun (s : State) (w : Req) (v : Word) =>
      s.takesWrite w NAND.IMG_WR = true ∧ (¬(s.standby = true ∧ s.paired = true)) ∧
        (((s.nand.ops.any fun o => match o with | NOp.image _ _ => true | _ => false) || match s.nand.cur with | some (NOp.image _ _) => true | _ => false) = false) ∧ s.fbit NAND.NAND_STAT'FAILED (1 + bitsOf v 29 29) = false ∧ s.sourceBytes 3 = none) up .host 0 := by
  decide +kernel

theorem test_meets_FlashAppendsProgrammesAndReads_c :
    (fun (s : State) (prog : Bool) (slot : Nat) (pref : Bool) =>
      s.domOn pdFLASH = true ∧ s.nand.run = true ∧ s.nand.cur = some (NOp.image slot pref) ∧ slot < 2 ∧
        prog = false) (up |> (fun (s : State) => { s with nand := { s.nand with run := true } })
        |> (fun (s : State) => { s with nand := { s.nand with cur := some (NOp.image 0 false) } })) false 0 false ∧
    (fun (s : State) (b : Fin 4096) (bits : Nat) =>
      s.domOn pdFLASH = true ∧ s.nand.cur = none ∧ s.nand.rdBusy = false ∧ s.nand.ops = [] ∧
        (s.nblk b.val).bad = false ∧ (s.nblk b.val).reads + (s.blockPages b.val).length < s.rdN NAND.RD_LIMIT ∧
        bits < s.f NAND.NAND_CFG'SCRUB_BITS) up 0 0 := by
  decide +kernel

theorem test_meets_EventsMessagesCountersAndTags_a :
    (fun (s : State) (w : Req) (i : Fin 8) =>
      s.takesWrite w (EVT.EVT_PEND i.val) = true) up .host 0 ∧
    (fun (s : State) (w : Req) =>
      s.takesWrite w EVT.EVT_VEC_ACK = true) up .host ∧
    (fun (s : State) (w : Req) (v : Word) =>
      s.takesWrite w EVT.EVT_SET = true ∧ bit (BitVec.toNat v) 31 = true ∧ bitsOf v 4 0 < 24) up .host 0x80000000 ∧
    (fun (s : State) (w : Req) (v : Word) =>
      s.takesWrite w EVT.EVT_SET = true ∧ (¬(bit (BitVec.toNat v) 31 = true ∧ bitsOf v 4 0 < 24))) up .host 0 ∧
    (fun (s : State) (w : Req) (e : Fin 256) (v : Word) =>
      s.takesWrite w (EVT.EVT_ROUTE e.val) = true ∧ (s.hostOrSupv w = false ∨ bitsOf v 17 16 = 3)) up .host 0 0xFFFFFFFF ∧
    (fun (s : State) (w : Req) (e : Fin 256) (v : Word) =>
      s.takesWrite w (EVT.EVT_ROUTE e.val) = true ∧ (¬(s.hostOrSupv w = false ∨ bitsOf v 17 16 = 3)) ∧
        s.b EVT.EVT_LOCK'LOCK = true) (up |>.setB EVT.EVT_LOCK'LOCK true) .host 0 0 ∧
    (fun (s : State) (w : Req) (e : Fin 256) (v : Word) =>
      s.takesWrite w (EVT.EVT_ROUTE e.val) = true ∧ (¬(s.hostOrSupv w = false ∨ bitsOf v 17 16 = 3)) ∧
        (¬s.b EVT.EVT_LOCK'LOCK = true)) up .host 0 0 ∧
    (fun (s : State) (k : Fin 32) =>
      s.vecReady k.val = true ∧ s.vecOpen k.val = true ∧ s.domOn pdTIME = true ∧ 0 < dtIncr s.time.rate) (up
        |>.wr (EVT.EVT_PEND 0) 1 |>.wr (EVT.EVT_EN 0) 1 |>.set (EVT.EVT_ROUTE'KIND 0) 1
        |>.setB SYS.HOST_CFG'PCIE_UP true
        |> (fun (s : State) => { s with evt := { s.evt with bme := true, d3 := false } })
        |>.setB (EVT.MSIX_CTRL'MASK 0) false) 0 ∧
    (fun (s : State) (k : Fin 32) =>
      (s.vecReady k.val = false ∨ s.vecOpen k.val = false)) up 0 ∧
    (fun (s : State) =>
      s.domOn pdHOST = true ∧ s.b SYS.HOST_CFG'PCIE_UP = true) (up |>.setB SYS.HOST_CFG'PCIE_UP true) := by
  decide +kernel

theorem test_meets_EventsMessagesCountersAndTags_b :
    (fun (s : State) (w : Req) =>
      s.takesWrite w PERF.PERF_CTRL = true) up .host ∧
    (fun (s : State) =>
      s.perf.snapBusy = true ∧ s.perf.snapAt < 2047 ∧ s.owner s.perf.snapAt = ownDEVICE ∧
        s.owner (s.perf.snapAt + 1) = ownDEVICE) (up
        |> (fun (s : State) => { s with perf := { s.perf with snapBusy := true } })
        |> (fun (s : State) => s.set (CHUCK.SMW_FLAG'OWNER s.perf.snapAt) ownDEVICE)
        |> (fun (s : State) => s.set (CHUCK.SMW_FLAG'OWNER (s.perf.snapAt + 1)) ownDEVICE)) ∧
    (fun (s : State) (w : Req) (n : Fin 16) =>
      s.takesRead w (PERF.TAG_PC n.val) = true ∧ (s.core n.val).tag = none) up .host 0 := by
  decide +kernel

theorem test_meets_ModesPowerStatesAndLedgerAct_a :
    (fun (s : State) (w : Req) (v : Word) =>
      s.takesWrite w SYS.MODE_REQ = true ∧ bit (BitVec.toNat v) 30 = false ∧ s.hostOrSupv w = false) up (.core 0) 0 ∧
    (fun (s : State) (w : Req) (v : Word) =>
      s.takesWrite w SYS.MODE_REQ = true ∧ bit (BitVec.toNat v) 30 = false ∧ s.hostOrSupv w = true ∧
        s.modeCheck (bitsOf v 3 0) ≠ 0) live .host 0 ∧
    (fun (s : State) (w : Req) (v : Word) =>
      s.takesWrite w SYS.MODE_REQ = true ∧ bit (BitVec.toNat v) 30 = false ∧ s.hostOrSupv w = true ∧
        s.modeCheck (bitsOf v 3 0) = 0 ∧ bitsOf v 3 0 = s.mode) up .host 0 ∧
    (fun (s : State) (w : Req) (v : Word) =>
      s.takesWrite w SYS.MODE_REQ = true ∧ bit (BitVec.toNat v) 31 = false ∧ s.hostOrSupv w = false) up (.core 0) 0 ∧
    (fun (s : State) (w : Req) (v : Word) =>
      s.takesWrite w SYS.MODE_REQ = true ∧ bit (BitVec.toNat v) 31 = false ∧ (¬s.hostOrSupv w = false) ∧
        s.f SYS.MODE_STAT'REQ_STATE = 0) up .host 0 ∧
    (fun (s : State) (w : Req) (v : Word) =>
      s.takesWrite w SYS.MODE_REQ = true ∧ bit (BitVec.toNat v) 31 = false ∧ (¬s.hostOrSupv w = false) ∧
        (¬s.f SYS.MODE_STAT'REQ_STATE = 0)) (up |>.set SYS.MODE_STAT'REQ_STATE 1) .host 0 ∧
    (fun (s : State) =>
      s.mode ≠ 11 ∧ s.changeWaits = true ∧ s.f SYS.MODE_STAT'REQ_TARGET ≠ 11 ∧
        (¬((s.advanceTo (nextL3Ns s.sys.reqNs)).iff (s.domOn pdCTL) fun x => x.trjTakeHold).modeCheck (s.f SYS.MODE_STAT'REQ_TARGET) = 0)) (live |>.set SYS.MODE_STAT'REQ_STATE 1) ∧
    (fun (s : State) =>
      s.mode ≠ 11 ∧ s.f SYS.MODE_STAT'REQ_STATE ≠ 0 ∧ s.f SYS.MODE_STAT'REQ_TARGET = 11 ∧ s.cycRun = false) (up
        |>.set SYS.MODE_STAT'REQ_STATE 1 |>.set SYS.MODE_STAT'REQ_TARGET 11) := by
  decide +kernel

theorem test_meets_ModesPowerStatesAndLedgerAct_b :
    (fun (s : State) =>
      s.f SYS.MODE_STAT'REQ_STATE = 2 ∧ s.sys.reqPulse = false ∧ s.domOn pdTIME = true ∧ 0 < dtIncr s.time.rate) (up
        |>.set SYS.MODE_STAT'REQ_STATE 2) ∧
    (fun (s : State) (w : Req) =>
      s.takesWrite w PWR.LAT_TOL = true ∧ s.mode ≠ 11 ∧ s.f PWR.PWR_STAT'STATE ≠ 3 ∧
        s.hostOrSupv w = false) up (.core 0) ∧
    (fun (s : State) (w : Req) (v : Word) =>
      s.takesWrite w PWR.LAT_TOL = true ∧ s.mode ≠ 11 ∧ s.f PWR.PWR_STAT'STATE ≠ 3 ∧ (¬s.hostOrSupv w = false) ∧
        ((if (s.mode = 1 ∨ s.mode = 9) ∧
        s.awayReq = false then if BitVec.toNat v % 2 ^ 20 < 2 then 0 else if BitVec.toNat v % 2 ^ 20 < 150 then 1 else 2 else 0) ≤ s.f PWR.PWR_STAT'STATE)) up .host 0 ∧
    (fun (s : State) =>
      s.b PWR.PWR_STAT'WAKING = true ∧ (s.f PWR.PWR_STAT'STATE = 1 ∨ s.f PWR.PWR_STAT'STATE = 2) ∧ s.powWant = 0 ∧
        s.f PWR.PWR_STAT'STATE = 2) (up |>.setB PWR.PWR_STAT'WAKING true |>.set PWR.PWR_STAT'STATE 1
        |>.set PWR.PWR_STAT'STATE 2) ∧
    (fun (s : State) =>
      s.b PWR.PWR_STAT'WAKING = true ∧ s.f PWR.PWR_STAT'STATE = 3 ∧ s.rst.seq = [] ∧ s.f SYS.MODE_STAT'REQ_STATE ≠ 0 ∧
        s.mode = 11) (up |>.setB PWR.PWR_STAT'WAKING true |>.set PWR.PWR_STAT'STATE 3
        |> (fun (s : State) => { s with rst := { s.rst with seq := [] } }) |>.set SYS.MODE_STAT'REQ_STATE 1
        |>.set SYS.MODE_STAT'MODE 11) ∧
    (fun (s : State) (r : LedReq) =>
      firstWaiting s.pwr.waiting = some r ∧ s.budget < s.ledgerUsed + r.tok ∧ s.budget < r.tok) (up
        |> (fun (s : State) => { s with pwr := { s.pwr with waiting := [⟨0, 0, 1, 0⟩] } })) (⟨0, 0, 1, 0⟩) ∧
    (fun (s : State) (r : LedReq) =>
      firstWaiting s.pwr.waiting = some r ∧ s.ledgerUsed + r.tok ≤ s.budget) (up
        |> (fun (s : State) => { s with pwr := { s.pwr with waiting := [⟨0, 0, 1, 0⟩] } })
        |>.wr PWR.LEDGER_CFG 0xFFFFFFFF) (⟨0, 0, 1, 0⟩) ∧
    (fun (s : State) (t : Int) =>
      (t < 125 ∨ s.rst.coolHold = true) ∧ s.pwr.thermNs ≠ 0 ∧ s.domOn pdTIME = true ∧ 0 < dtIncr s.time.rate) (up
        |> (fun (s : State) => { s with pwr := { s.pwr with thermNs := 1 } })) 0 := by
  decide +kernel

theorem test_meets_ModesPowerStatesAndLedgerAct_c :
    (fun (s : State) =>
      s.pwr.coolFrom ≠ 0 ∧ s.domOn pdTIME = true ∧ 0 < dtIncr s.time.rate) (up
        |> (fun (s : State) => { s with pwr := { s.pwr with coolFrom := 1 } })) ∧
    (fun (s : State) =>
      s.pwr.coolFrom = 0) up := by
  decide +kernel

theorem test_meets_ResetsReachTheirDomains_a :
    (fun (low : Nat) =>
      low < 1000) 0 ∧
    (fun (s : State) =>
      s.rst.seq = [] ∧ s.rst.wakeSeq = false ∧ s.f PWR.PWR_STAT'STATE ≠ 3 ∧ s.released pdLIVE = true) (up
        |> (fun (s : State) => { s with rst := { s.rst with seq := [] } })) ∧
    (fun (s : State) =>
      s.rst.seq = [] ∧ s.rst.wakeSeq = false ∧ s.f PWR.PWR_STAT'STATE ≠ 3 ∧ s.released pdDEAD = true ∧
        (reachDemand.contains pdTIME || reachDemand.contains pdCTL) = true) (up
        |> (fun (s : State) => { s with rst := { s.rst with seq := [] } })) ∧
    (fun (s : State) (unlock : Bool) =>
      s.rst.seq = [] ∧ s.rst.wakeSeq = false ∧ s.f PWR.PWR_STAT'STATE ≠ 3 ∧ s.released pdDEAD = true ∧
        unlock = true) (up |> (fun (s : State) => { s with rst := { s.rst with seq := [] } })) true ∧
    (fun (s : State) (live : Bool) =>
      s.rst.seq = [] ∧ s.rst.wakeSeq = false ∧ s.f PWR.PWR_STAT'STATE ≠ 3 ∧
        (s.released (if live = true then pdLIVE else pdDEAD) = true)) (up
        |> (fun (s : State) => { s with rst := { s.rst with seq := [] } })) false ∧
    (fun (s : State) =>
      s.rst.seq = [] ∧ s.rst.wakeSeq = false ∧ s.f PWR.PWR_STAT'STATE ≠ 3 ∧ s.domOn pdCTL = true ∧
        (reachSystem.contains pdTIME || reachSystem.contains pdCTL) = true) (up
        |> (fun (s : State) => { s with rst := { s.rst with seq := [] } })) ∧
    (fun (s : State) =>
      s.rst.seq = [] ∧ s.rst.wakeSeq = false ∧ s.f PWR.PWR_STAT'STATE ≠ 3 ∧ s.domOn pdTIME = true ∧
        (reachSystem.contains pdTIME || reachSystem.contains pdCTL) = true) (up
        |> (fun (s : State) => { s with rst := { s.rst with seq := [] } })) := by
  decide +kernel

theorem test_meets_ResetsReachTheirDomains_b :
    (fun (s : State) (t : Int) =>
      s.rst.seq = [] ∧ s.rst.wakeSeq = false ∧ s.f PWR.PWR_STAT'STATE ≠ 3 ∧ 125 ≤ t ∧ s.rst.coolHold = false ∧
        (reachSystem.contains pdTIME || reachSystem.contains pdCTL) = true) (up
        |> (fun (s : State) => { s with rst := { s.rst with seq := [] } })) 125 ∧
    (fun (s : State) (w : Req) =>
      s.rst.seq = [] ∧ s.rst.wakeSeq = false ∧ s.f PWR.PWR_STAT'STATE ≠ 3 ∧ s.takesWrite w RST.RST_CTRL = true ∧
        s.hostOrSupv w = true ∧ (reachSystem.contains pdTIME || reachSystem.contains pdCTL) = true) (up
        |> (fun (s : State) => { s with rst := { s.rst with seq := [] } })) .host ∧
    (fun (s : State) (w : Req) =>
      s.rst.seq = [] ∧ s.rst.wakeSeq = false ∧ s.f PWR.PWR_STAT'STATE ≠ 3 ∧ s.takesWrite w RST.RST_CTRL = true ∧
        (¬s.hostOrSupv w = true)) (up |> (fun (s : State) => { s with rst := { s.rst with seq := [] } })) (.core 0) ∧
    (fun (s : State) (c : Nat) (j : ChuckJob) =>
      s.rst.seq = [] ∧ s.rst.wakeSeq = false ∧ s.f PWR.PWR_STAT'STATE ≠ 3 ∧ s.domOn pdMEM = true ∧
        s.b CHUCK.CHUCK_WDOG_CFG'EN = true ∧ c < 16 ∧ s.coreIdle c = true ∧ j ∈ s.chuck.pool ∧ s.takes c j = true ∧
        s.domOn pdTIME = true ∧ 0 < dtIncr s.time.rate) (up
        |> (fun (s : State) => { s with chuck := { s.chuck with pool := [{ (default : ChuckJob) with availNs := 1 }] } }) |>.set (GC.GC_STAT'STATE 0) 2 |>.set (CHUCK.FLOW_MASK'MASK 0) 1 |> (fun (s : State) => { s with rst := { s.rst with seq := [] } }) |>.setB CHUCK.CHUCK_WDOG_CFG'EN true) 0 ({ (default : ChuckJob) with availNs := 1 }) := by
  decide +kernel

theorem test_meets_ResetsReachTheirDomains_c :
    (fun (s : State) (n : Fin 16) =>
      s.rst.seq = [] ∧ s.rst.wakeSeq = false ∧ s.f PWR.PWR_STAT'STATE ≠ 3 ∧ s.domOn (pdGC (n.val / 4)) = true ∧
        s.b (GC.GC_WDOG_CFG'EN n.val) = true ∧ s.coreSt n.val ≠ gsHALTED ∧ s.coreSt n.val ≠ gsRESET ∧
        (¬(s.rst.coreWdNs.any fun p => p.fst == n.val && decide ((s.advanceTo (s.ns + (us (s.f (GC.GC_WDOG_CFG'TIMEOUT n.val)) - s.wdCount n.val))).ns + 1 ≤ p.snd + 1000000000)) = true)) (up |>.set (GC.GC_STAT'STATE 0) 2 |> (fun (s : State) => { s with rst := { s.rst with seq := [] } }) |>.setB (GC.GC_WDOG_CFG'EN 0) true) 0 ∧
    (fun (s : State) (w : Req) =>
      s.takesWrite w RST.RST_BLK = true ∧ s.hostOrSupv w = false) up (.core 0) ∧
    (fun (s : State) (w : Req) (v : Word) =>
      s.takesWrite w RST.RST_BLK = true ∧ (¬s.hostOrSupv w = false) ∧
        bit (BitVec.toNat v) (match w with | Req.core n => pdGC (↑n / 4) | _ => pdHOST) = true ∧
        s.fbit RST.RST_BLK'HOLD (match w with | Req.core n => pdGC (↑n / 4) | _ => pdHOST) = false) up .host 0xFFFFFFFF ∧
    (fun (s : State) =>
      s.b RST.RST_STAT'OPTIONS_VALID = false ∧ s.b RST.RST_STAT'OPT_FAIL = false ∧ s.optA.good = false ∧
        s.optB.good = false) (up |>.setB RST.RST_STAT'OPTIONS_VALID false
        |> (fun (s : State) => { s with optA := { s.optA with good := false } })
        |> (fun (s : State) => { s with optB := { s.optB with good := false } })) ∧
    (fun (s : State) =>
      s.b RST.RST_STAT'OPTIONS_VALID = false ∧ s.b RST.RST_STAT'OPT_FAIL = false ∧ (¬(s.optA.good = false ∧
        s.optB.good = false)) ∧ s.rst.cause = 1) (up |>.setB RST.RST_STAT'OPTIONS_VALID false) ∧
    (fun (s : State) =>
      s.b RST.RST_STAT'OPTIONS_VALID = false ∧ s.b RST.RST_STAT'OPT_FAIL = false ∧ (¬(s.optA.good = false ∧
        s.optB.good = false)) ∧ s.rst.cause ≠ 1) (up |>.setB RST.RST_STAT'OPTIONS_VALID false
        |> (fun (s : State) => { s with rst := { s.rst with cause := 2 } })) ∧
    (fun (s : State) (d : Fin 16) (q : List Nat) =>
      s.b RST.RST_STAT'OPTIONS_VALID = true ∧ (s.rst.coolHold = false ∨ ¬d.val ∈ reachSystem) ∧
        s.rst.seq = d.val :: q ∧ s.fbit RST.RST_BLK'HOLD d.val = false ∧ s.rst.gapTick ≠ 0) (up
        |> (fun (s : State) => { s with rst := { s.rst with seq := 0 :: ([]) } })
        |> (fun (s : State) => { s with rst := { s.rst with gapTick := 1 } })) 0 ([]) := by
  decide +kernel

theorem test_meets_ResetsReachTheirDomains_d :
    (fun (s : State) (d : Fin 16) (q : List Nat) =>
      s.b RST.RST_STAT'OPTIONS_VALID = true ∧ (s.rst.coolHold = false ∨ ¬d.val ∈ reachSystem) ∧
        s.rst.seq = d.val :: q ∧ s.fbit RST.RST_BLK'HOLD d.val = false ∧ q = [] ∧ s.rst.wakeSeq = false) (up
        |> (fun (s : State) => { s with rst := { s.rst with seq := 0 :: ([]) } })) 0 ([]) ∧
    (fun (s : State) =>
      s.rst.coolHold = true ∧ s.tDie ≤ 100) (up
        |> (fun (s : State) => { s with rst := { s.rst with coolHold := true } })) ∧
    (fun (s : State) (n : Nat) =>
      s.clkMode ≠ 0 ∧ n < 1000000) (up |>.set RST.RST_STRAP'CLK_MODE 1) 0 ∧
    (fun (s : State) (x : Int) (n : Nat) =>
      s.clkMode ≠ 0 ∧ -200 ≤ x ∧ x ≤ 200 ∧ n < 10) (up |>.set RST.RST_STRAP'CLK_MODE 1) 0 0 ∧
    (fun (s : State) (x : Int) (n : Nat) =>
      s.clkMode ≠ 0 ∧ -50 ≤ x ∧ x ≤ 50 ∧ 1000000 ≤ n ∧ (s.clkMode = 3 → s.upstream = true) ∧
        s.f CLK.CLK_STAT'REF_SRC = 0 ∧ (s.clk.switchedOnce = false ∨ s.clk.restoreArmed = true)) (up
        |>.set RST.RST_STRAP'CLK_MODE 1) 0 1000000 ∧
    (fun (s : State) (x : Int) (n : Nat) =>
      s.clkMode ≠ 0 ∧ -50 ≤ x ∧ x ≤ 50 ∧ 1000000 ≤ n ∧ (s.clkMode = 3 → s.upstream = true) ∧
        s.f CLK.CLK_STAT'REF_SRC = 0 ∧ s.clk.switchedOnce = true ∧ s.clk.restoreArmed = false) (up
        |>.set RST.RST_STRAP'CLK_MODE 1
        |> (fun (s : State) => { s with clk := { s.clk with switchedOnce := true } })) 0 1000000 ∧
    (fun (s : State) (x : Int) (n : Nat) =>
      s.clkMode ≠ 0 ∧ s.f CLK.CLK_STAT'REF_SRC ≠ 0 ∧ (x < -200 ∨ 200 < x ∨ 10 ≤ n)) (up
        |>.set RST.RST_STRAP'CLK_MODE 1 |>.set RST.RST_STRAP'CLK_MODE 1 |>.set CLK.CLK_STAT'REF_SRC 1) 0 63 := by
  decide +kernel

theorem test_meets_ResetsReachTheirDomains_e :
    (fun (s : State) (w : Req) =>
      s.clkMode ≠ 0 ∧ s.takesWrite w CLK.CLK_CMD = true ∧ s.f CLK.CLK_STAT'REF_SRC = 0 ∧
        s.b CLK.CLK_STAT'EXT_OK = true) (up |>.set RST.RST_STRAP'CLK_MODE 1 |>.setB CLK.CLK_STAT'EXT_OK true) .host ∧
    (fun (s : State) (w : Req) =>
      s.clkMode ≠ 0 ∧ s.takesWrite w CLK.CLK_CMD = true ∧ s.f CLK.CLK_STAT'REF_SRC = 0 ∧
        (¬s.b CLK.CLK_STAT'EXT_OK = true)) (up |>.set RST.RST_STRAP'CLK_MODE 1) .host ∧
    (fun (s : State) =>
      s.b CLK.CLK_STAT'NET_LOCK = true) (up |>.setB CLK.CLK_STAT'NET_LOCK true) ∧
    (fun (s : State) =>
      s.b CLK.CLK_CFG'NET_EN = true) up ∧
    (fun (s : State) (d : Fin 16) =>
      d.val ≠ 0 ∧ s.fbit CLK.CLK_STAT'CLK_GOOD d.val = true ∧ s.released d.val = true) (up
        |>.wr CLK.CLK_STAT 0xFFFFFFFF) 15 := by
  decide +kernel

theorem test_meets_JobsPassThroughTheChuck_sync :
    (fun (s : State) (c : Fin 16) (j : ChuckJob) =>
      s.domOn pdMEM = true ∧ s.b CHUCK.CHUCK_CTRL'EN = true ∧ s.coreIdle c.val = true ∧
        s.chuckSync.bestJob (List.filter (s.chuckSync.takes c.val) s.chuckSync.chuck.pool) = some j) (up
        |>.setB CHUCK.CHUCK_CTRL'EN true |>.set (GC.GC_STAT'STATE 0) 2 |>.set (CHUCK.FLOW_MASK'MASK 0) 1
        |> (fun (s : State) => { s with chuck := { s.chuck with pool := [{ (default : ChuckJob) with availNs := 1 }] } })) 0 ({ (default : ChuckJob) with availNs := 1 }) ∧
    (fun (s : State) (f : Fin 256) (j : ChuckJob) =>
      s.domOn pdMEM = true ∧ (List.find? (fun j => j.st == 0) (s.chuckSync.flowJobs f.val) = some j) ∧ j.availNs ≠ 0 ∧
        (s.chuckSync.waitsFor j).isSome = true ∧ s.domOn pdTIME = true ∧ 0 < dtIncr s.time.rate) (up
        |>.setB CHUCK.CHUCK_CTRL'EN true |>.set (GC.GC_STAT'STATE 0) 2 |>.set (CHUCK.FLOW_MASK'MASK 0) 1
        |>.setB (CHUCK.FLOW_CFG'AFF_EN 0) true
        |> (fun (s : State) => { s with chuck := { s.chuck with pool := [{ (default : ChuckJob) with availNs := 1 }], ran := s.chuck.ran.set 0 true } })) 0 ({ (default : ChuckJob) with availNs := 1 }) := by
  decide +kernel
end Sys2Proof.Machine.Tests
end

/-!
An access to an offset of a block's window that holds no register (R7): what the bus does with an access that reaches its
block, and what stays the same until the block acts.
-/
namespace Sys2Proof.Machine
open Sys2Proof

/-! ### Same registers and memory -/

/-- Registers read alike where the register map is the same. -/
theorem sameRegsBut_nil_of_regs_eq {s t : State} (h : t.regs = s.regs) : SameRegsBut [] s t :=
  fun a _ => State.rd_congr h a

/-- Bytes of memory read alike where the memory map is the same. -/
theorem sameMem_of_mem_eq {s t : State} (h : t.mem = s.mem) : SameMem s t := State.ldb_congr h

/-! ### The bus -/

/-- An access that reaches its block is no host access in D3hot (R496). -/
theorem State.takesRead_not_d3 {s : State} {w : Req} {a : Nat} (h : s.takesRead w a = true) :
    ¬(w = .host ∧ s.evt.d3 = true) := by
  rintro ⟨rfl, hd3⟩
  simp [State.takesRead, hd3] at h

/-- A write that reaches its block would as a read, and is not held back by HOST_PROXY (R510). -/
theorem State.takesWrite_iff {s : State} {w : Req} {a : Nat} :
    s.takesWrite w a = true ↔ s.takesRead w a = true ∧ s.hostMuted w = false := by
  simp only [State.takesWrite, State.takesRead, State.hostMuted, Bool.and_eq_true, Bool.not_eq_true']

/-- A read that reaches its block outside the reserved ranges. -/
theorem State.busRead_takes {s : State} {w : Req} {a : Nat} (h : s.takesRead w a = true) (hr : reservedAt a = false)
    (e : WinEcc) :
    s.busRead w a e =
      (((s.wakeClock (domOfAddr a)).count (blkOfWin (a / 0x10000)) 3).readAt w a).winEcc w a e := by
  rw [State.busRead, if_neg (State.takesRead_not_d3 h), hr, State.regRead_takes h]
  rfl

/-- A write that reaches its block outside the reserved ranges and the read-only windows. -/
theorem State.busWrite_takes {s : State} {w : Req} {a : Nat} (h : s.takesWrite w a = true) (hr : reservedAt a = false)
    (ho : readOnlyWindow a = false) (v : Word) :
    s.busWrite w a v =
      (((s.wakeClock (domOfAddr a)).count (blkOfWin (a / 0x10000)) 3).answer .nothing).writeAt w a v := by
  obtain ⟨hread, hmuted⟩ := State.takesWrite_iff.mp h
  rw [State.busWrite, if_neg (State.takesRead_not_d3 hread), hmuted, hr, ho, State.regCmd_takes h]
  rfl

/-- A word read is a bus read. -/
theorem State.busReadPart_word (s : State) (w : Req) (a : Nat) (e : WinEcc) :
    s.busReadPart w a .word e = s.busRead w a e := rfl

/-! ### Offsets without a register (R7) -/

/-- An offset below the memory windows at which no register stands reads 0. -/
theorem State.readAt_hole {a : Nat} (hlt : a < 0x2000000) (hrow : rowAt a = none) (s : State) (w : Req) :
    s.readAt w a = s.answer (.data 0) := by
  rw [State.readAt, if_neg (Nat.not_le.mpr hlt), hrow]

/-- A write to an offset below the memory windows at which no register stands is ignored. -/
theorem State.writeAt_hole {a : Nat} (hlt : a < 0x2000000) (hrow : rowAt a = none) (s : State) (w : Req) (v : Word) :
    s.writeAt w a v = s := by
  rw [State.writeAt, if_neg (Nat.not_le.mpr hlt), hrow]

/-- The blocks' windows lie below the read-only windows. -/
theorem readOnlyWindow_of_lt {a : Nat} (hlt : a < 0x2400000) : readOnlyWindow a = false := by
  simp only [readOnlyWindow, Bool.or_eq_false_iff, decide_eq_false_iff_not]
  omega

/-- What a read of an offset without a register leaves: the clock of the domain runs, the block counts an access, and the
answer is 0. -/
theorem State.busRead_hole {s : State} {w : Req} {a : Nat} (hlt : a < 0x2000000) (hr : reservedAt a = false)
    (hrow : rowAt a = none) (h : s.takesRead w a = true) :
    s.busRead w a .good =
      ((s.wakeClock (domOfAddr a)).count (blkOfWin (a / 0x10000)) 3).answer (.data 0) := by
  rw [State.busRead_takes h hr, State.readAt_hole hlt hrow]
  rfl

/-- What a write to an offset without a register leaves: the clock of the domain runs and the block counts an access. -/
theorem State.busWrite_hole {s : State} {w : Req} {a : Nat} (hlt : a < 0x2000000) (hr : reservedAt a = false)
    (hrow : rowAt a = none) (h : s.takesWrite w a = true) (v : Word) :
    s.busWrite w a v =
      ((s.wakeClock (domOfAddr a)).count (blkOfWin (a / 0x10000)) 3).answer .nothing := by
  rw [State.busWrite_takes h hr (readOnlyWindow_of_lt (by omega)), State.writeAt_hole hlt hrow]

/-! ### The commands -/

/-- The meaning of a register write is the bus write at the word's byte offset. -/
theorem exec_registerWrite (w : Req) (a : BitVec 24) (v : BitVec 32) (s : State) :
    exec (.registerWrite w a v) s = .next (s.busWrite w (4 * a.toNat) v) := rfl

/-- The meaning of a read is the bus read at the word's byte offset, of the width asked for. -/
theorem exec_counterLowRead (w : Req) (r : BarRead) (s : State) :
    exec (.counterLowRead w r) s = .next (s.busReadPart w (4 * r.a.toNat) r.k r.e) := rfl

/-- Settles O3: the bus lets the access through, no row of the register map holds the offset, and what the bus does before
the block acts (clock, access count, answer) touches neither registers nor memory. -/
theorem holesReadZeroAndIgnoreWrites : Obligations.HolesReadZeroAndIgnoreWrites := by
  intro s w a v hlt hr hrow
  have hwin : 4 * a.toNat < 0x2000000 := by omega
  refine ⟨fun hread => ?_, fun hwrite => ?_⟩
  · have haddr : (BitVec.ofNat 25 a.toNat).toNat = a.toNat := by
      rw [BitVec.toNat_ofNat]; omega
    rw [exec_counterLowRead, State.busReadPart_word, haddr, State.busRead_hole hwin hr hrow hread]
    exact ⟨_, rfl, rfl, sameRegsBut_nil_of_regs_eq (by simp), sameMem_of_mem_eq (by simp)⟩
  · rw [exec_registerWrite, State.busWrite_hole hwin hr hrow hwrite]
    exact ⟨_, rfl, sameRegsBut_nil_of_regs_eq (by simp), sameMem_of_mem_eq (by simp)⟩

end Sys2Proof.Machine

/-!
The votes after a sample (R346): what the votes rest on stands when they are judged, and nothing that the evaluation does
afterwards touches it.
-/
namespace Sys2Proof.Machine
open Sys2Proof

/-! ### Bits of a number -/

/-- Bit `i` by the library's name. -/
theorem bit_eq_testBit (n i : Nat) : bit n i = n.testBit i := by
  rw [bit, Nat.testBit_eq_decide_div_mod_eq, Bool.eq_iff_iff, beq_iff_eq, decide_eq_true_iff]

/-- Adding `2 ^ i` where bit `i` is clear carries into no other bit. -/
theorem testBit_add_two_pow_of_clear {n i j : Nat} (hn : n.testBit i = false) (hj : j ≠ i) :
    (n + 2 ^ i).testBit j = n.testBit j := by
  rcases Nat.lt_or_gt_of_ne hj with hlt | hgt
  · rw [Nat.add_comm, Nat.testBit_two_pow_add_gt hlt]
  · obtain ⟨k, rfl⟩ : ∃ k, j = k + (i + 1) := ⟨j - (i + 1), by omega⟩
    have heven : n / 2 ^ i % 2 ≠ 1 := by simpa [Nat.testBit_eq_decide_div_mod_eq] using hn
    have hquot : (n + 2 ^ i) / 2 ^ (i + 1) = n / 2 ^ (i + 1) := by
      rw [Nat.pow_succ, ← Nat.div_div_eq_div_mul, ← Nat.div_div_eq_div_mul, Nat.add_div_right _ (Nat.two_pow_pos i)]
      omega
    rw [← Nat.testBit_div_two_pow, hquot, Nat.testBit_div_two_pow]

/-- Setting or clearing a bit leaves every other bit. -/
theorem bit_setBit_ne (n : Nat) {i j : Nat} (b : Bool) (hj : j ≠ i) : bit (setBit n i b) j = bit n j := by
  have hclear : ∀ m, m.testBit i = false → (m + 2 ^ i).testBit j = m.testBit j :=
    fun m hm => testBit_add_two_pow_of_clear hm hj
  simp only [setBit, bit_eq_testBit]
  cases b <;> cases hi : n.testBit i
  · rfl
  · have hle : 2 ^ i ≤ n := Nat.ge_two_pow_of_testBit hi
    have hback : 2 ^ i + (n - 2 ^ i) = n := by omega
    have hlow : (n - 2 ^ i).testBit i = false := by
      have := Nat.testBit_two_pow_add_eq (n - 2 ^ i) i
      rw [hback, hi] at this
      simpa using this
    have := hclear _ hlow
    rw [Nat.add_comm, hback] at this
    exact this.symm
  · exact hclear n hi
  · rfl

/-- The number whose bits below `n` are set exactly where `p` fails, built up bit by bit. -/
def maskWhereNot (p : Nat → Bool) (n : Nat) : Nat := (upto n).foldl (fun m z => if p z then m else m + 2 ^ z) 0

theorem maskWhereNot_succ (p : Nat → Bool) (n : Nat) :
    maskWhereNot p (n + 1) = if p n then maskWhereNot p n else maskWhereNot p n + 2 ^ n := by
  simp only [maskWhereNot, upto, List.range_succ, List.foldl_append, List.foldl_cons, List.foldl_nil]

theorem maskWhereNot_lt (p : Nat → Bool) (n : Nat) : maskWhereNot p n < 2 ^ n := by
  induction n with
  | zero => exact Nat.one_pos
  | succ n ih => rw [maskWhereNot_succ, Nat.pow_succ]; split <;> omega

theorem testBit_maskWhereNot (p : Nat → Bool) {n z : Nat} (hz : z < n) : (maskWhereNot p n).testBit z = !p z := by
  induction n with
  | zero => omega
  | succ n ih =>
    have htop : (maskWhereNot p n).testBit n = false := Nat.testBit_lt_two_pow (maskWhereNot_lt p n)
    rw [maskWhereNot_succ]
    rcases Nat.lt_or_eq_of_le (Nat.le_of_lt_succ hz) with hz | rfl
    · split
      · exact ih hz
      · rw [testBit_add_two_pow_of_clear htop (Nat.ne_of_lt hz), ih hz]
    · split
      · rename_i hp; rw [htop, hp]; rfl
      · rename_i hp; rw [Nat.add_comm, Nat.testBit_two_pow_add_eq, htop, eq_false_of_ne_true hp]

/-- The mask of the votes held at STO has the zones that the channel does not release. -/
theorem State.bit_voteMask (s : State) (l : Bool) {z : Nat} (hz : z < 8) : bit (s.voteMask l) z = !s.zoneRel l z := by
  rw [bit_eq_testBit]
  exact testBit_maskWhereNot (s.zoneRel l) hz

/-! ### Fields of a register that stays -/

/-- A field reads alike where its register does. -/
theorem State.f_congr {s t : State} {m : Loc} (h : t.rd m.addr = s.rd m.addr) : t.f m = s.f m := by
  rw [State.f, State.f, h]

/-- A bit of a contactor reads alike where CD_STAT does. -/
theorem State.cdBit_congr {s t : State} (h : t.rd SAFE.CD_STAT = s.rd SAFE.CD_STAT) (k i : Nat) :
    t.cdBit k i = s.cdBit k i := by
  rw [State.cdBit, State.cdBit, State.rdN, State.rdN, h]

/-- A field of a register that is not the one written. -/
theorem State.f_wr_ne (s : State) {a : Nat} (v : Word) {m : Loc} (h : m.addr ≠ a) : (s.wr a v).f m = s.f m :=
  State.f_congr (State.rd_wr_ne s h v)

/-- A conditional update of registers leaves the safety channels' own state. -/
theorem State.iff_safe {s : State} {f : State → State} (h : (f s).safe = s.safe) (c : Bool) :
    (s.iff c f).safe = s.safe := by
  cases c
  · rfl
  · exact h

/-! ### What the votes rest on -/

/-- The registers that follow the votes and hold no latched fault that R346 asks for. -/
def plainFollowers : List Nat :=
  [SAFE.SI_FILT, SAFE.SI_FILT_L, PORT.PORT_ZONE, EVT.EVT_PEND (176 / 32)]
    ++ (upto 24).map SAFE.FN_STAT ++ (upto 8).map PORT.PORT_STAT

/-- The registers that follow the votes: those an evaluation writes after it has judged them. -/
def voteFollowers : List Nat := SAFE.CD_STAT :: SAFE.ARM_SAFE :: plainFollowers

/-- The votes' register, and the registers that follow it. -/
def votesAndFollowers : List Nat := SAFE.ZONE_STAT :: voteFollowers

/-- The parts of the safety channels' own state that R346 asks for: the functions, the SS1 stops that have taken effect and
the live centre's inputs. -/
def SafeH.voteGround (x : SafeH) : Sparse FnCh × Nat × Nat := (x.fn, x.ss1Done, x.liveIn)

/-- What R346 asks of the state reads alike in `s` and `t`: registers outside `l`, the latched faults wherever they stand,
the safety channels' own state and the image. -/
structure SameVoteBasis (l : List Nat) (s t : State) : Prop where
  regs : SameRegsBut l s t
  outFault : t.f SAFE.ZONE_STAT'OUT_FAULT = s.f SAFE.ZONE_STAT'OUT_FAULT
  overspeed : t.f SAFE.ARM_SAFE'OVERSPEED = s.f SAFE.ARM_SAFE'OVERSPEED
  hubStale : t.f SAFE.ARM_SAFE'HUB_STALE = s.f SAFE.ARM_SAFE'HUB_STALE
  edmFault : ∀ k < 4, t.cdBit k 3 = s.cdBit k 3
  own : t.safe.voteGround = s.safe.voteGround
  cfg : t.cfg = s.cfg

/-- A change of fields that R346 does not ask for. -/
theorem SameVoteBasis.of_regs_eq (l : List Nat) {s t : State} (hregs : t.regs = s.regs)
    (hown : t.safe.voteGround = s.safe.voteGround) (hcfg : t.cfg = s.cfg) : SameVoteBasis l s t where
  regs a _ := State.rd_congr hregs a
  outFault := State.f_congr (State.rd_congr hregs _)
  overspeed := State.f_congr (State.rd_congr hregs _)
  hubStale := State.f_congr (State.rd_congr hregs _)
  edmFault k _ := State.cdBit_congr (State.rd_congr hregs _) k 3
  own := hown
  cfg := hcfg

theorem SameVoteBasis.refl (l : List Nat) (s : State) : SameVoteBasis l s s := .of_regs_eq l rfl rfl rfl

theorem SameVoteBasis.trans {l : List Nat} {s t u : State} (h : SameVoteBasis l s t) (h' : SameVoteBasis l t u) :
    SameVoteBasis l s u where
  regs a ha := (h'.regs a ha).trans (h.regs a ha)
  outFault := h'.outFault.trans h.outFault
  overspeed := h'.overspeed.trans h.overspeed
  hubStale := h'.hubStale.trans h.hubStale
  edmFault k hk := (h'.edmFault k hk).trans (h.edmFault k hk)
  own := h'.own.trans h.own
  cfg := h'.cfg.trans h.cfg

theorem SameVoteBasis.mono {l l' : List Nat} {s t : State} (h : SameVoteBasis l s t) (hl : ∀ a ∈ l, a ∈ l') :
    SameVoteBasis l' s t :=
  { h with regs := fun a ha => h.regs a fun hm => ha (hl a hm) }

/-- Two fields share no bit of a register. -/
abbrev Loc.apart (l m : Loc) : Prop := m.addr ≠ l.addr ∨ l.hi < m.lo ∨ m.hi < l.lo

/-- A field shares no bit with the latched faults that R346 asks for. -/
abbrev Loc.besideFaults (m : Loc) : Prop :=
  m.apart SAFE.ZONE_STAT'OUT_FAULT ∧ m.apart SAFE.ARM_SAFE'OVERSPEED ∧ m.apart SAFE.ARM_SAFE'HUB_STALE ∧
    m.addr ≠ SAFE.CD_STAT

/-- A write to a register that follows the votes and holds none of the latched faults. -/
theorem SameVoteBasis.wr_plain (s : State) {a : Nat} (v : Word) (ha : a ∈ plainFollowers) :
    SameVoteBasis voteFollowers s (s.wr a v) := by
  have hfree : ∀ b ∈ plainFollowers, SAFE.ZONE_STAT ≠ b ∧ SAFE.ARM_SAFE ≠ b ∧ SAFE.CD_STAT ≠ b := by decide
  obtain ⟨hzone, harm, hcd⟩ := hfree a ha
  have hl : a ∈ voteFollowers := List.mem_cons_of_mem _ (List.mem_cons_of_mem _ ha)
  exact {
    regs := fun _ hb => State.rd_wr_ne s (ne_of_mem_of_not_mem hl hb).symm v
    outFault := State.f_wr_ne s v hzone
    overspeed := State.f_wr_ne s v harm
    hubStale := State.f_wr_ne s v harm
    edmFault := fun k _ => State.cdBit_congr (State.rd_wr_ne s hcd v) k 3
    own := rfl, cfg := rfl }

/-- A field of a register of the list, beside the latched faults. -/
theorem SameVoteBasis.set {l : List Nat} (s : State) {m : Loc} (n : Nat) (hm : m.addr ∈ l) (hw : m.lo ≤ m.hi ∧ m.hi < 32)
    (hbeside : m.besideFaults) : SameVoteBasis l s (s.set m n) := by
  obtain ⟨hout, hover, hhub, hcd⟩ := hbeside
  exact {
    regs := fun _ hb => State.rd_set_ne s m n (ne_of_mem_of_not_mem hm hb).symm
    outFault := State.f_set_other s m _ n hw hout
    overspeed := State.f_set_other s m _ n hw hover
    hubStale := State.f_set_other s m _ n hw hhub
    edmFault := fun k _ => State.cdBit_congr (State.rd_set_ne s m n (Ne.symm hcd)) k 3
    own := rfl, cfg := rfl }

/-- A bit of a contactor other than EDM_FAULT. -/
theorem SameVoteBasis.setCd {l : List Nat} (s : State) (k : Nat) {i : Nat} (b : Bool) (hl : SAFE.CD_STAT ∈ l) (hi : i < 8)
    (h3 : i ≠ 3) : SameVoteBasis l s (s.setCd k i b) where
  regs a ha := State.rd_wr_ne s (ne_of_mem_of_not_mem hl ha).symm _
  outFault := State.f_wr_ne s _ (by decide)
  overspeed := State.f_wr_ne s _ (by decide)
  hubStale := State.f_wr_ne s _ (by decide)
  edmFault j hj := by
    have hbit := bit_setBit_ne (s.rdN SAFE.CD_STAT) b (show 8 * j + 3 ≠ 8 * k + i by omega)
    have hword : 8 * j + 3 < 32 := by omega
    rw [State.cdBit, State.rdN, State.setCd, State.wrN, State.rd_wr_self, w32, BitVec.toNat_ofNat, bit_eq_testBit,
      Nat.testBit_mod_two_pow, decide_eq_true hword, Bool.true_and, ← bit_eq_testBit, hbit]
    rfl
  own := rfl
  cfg := rfl

theorem SameVoteBasis.iff {l : List Nat} (s : State) (c : Bool) {f : State → State} (h : SameVoteBasis l s (f s)) :
    SameVoteBasis l s (s.iff c f) := by
  cases c
  · exact .refl l s
  · exact h

theorem SameVoteBasis.each {l : List Nat} {α : Type} (s : State) (xs : List α) {f : α → State → State}
    (h : ∀ x ∈ xs, ∀ u, SameVoteBasis l u (f x u)) : SameVoteBasis l s (s.each xs f) := by
  induction xs generalizing s with
  | nil => exact .refl l s
  | cons x xs ih =>
    exact (h x (List.mem_cons_self ..) s).trans (ih (f x s) fun y hy => h y (List.mem_cons_of_mem x hy))

/-! ### What an evaluation does after the votes -/

/-- A contactor that follows the votes keeps its EDM_FAULT. -/
theorem State.cdEval_sameVoteBasis (s : State) (k : Nat) : SameVoteBasis voteFollowers s (s.cdEval k) := by
  have hset : ∀ (u : State) (i : Nat) (b : Bool), i < 8 → i ≠ 3 → SameVoteBasis voteFollowers u (u.setCd k i b) :=
    fun u i b => SameVoteBasis.setCd u k b (by decide)
  have hsafe : ∀ (u : State) (c : Bool), (u.iff c (·.setCd k 4 false)).safe = u.safe := fun u c => State.iff_safe rfl c
  refine (((hset _ 0 _ (by decide) (by decide)).trans (hset _ 1 _ (by decide) (by decide))).trans
    (SameVoteBasis.iff _ _ (hset _ 4 _ (by decide) (by decide)))).trans (.of_regs_eq _ rfl ?_ rfl)
  rw [hsafe]
  rfl

/-- What a function shows is read by no condition of R346. -/
theorem State.fnShow_sameVoteBasis (s : State) {f : Nat} (hf : f < 24) : SameVoteBasis voteFollowers s (s.fnShow f) := by
  have hmem : SAFE.FN_STAT f ∈ plainFollowers :=
    List.mem_append_left _ (List.mem_append_right _ (List.mem_map_of_mem (List.mem_range.mpr hf)))
  exact (((SameVoteBasis.wr_plain s _ hmem).trans (.wr_plain _ _ hmem)).trans (.wr_plain _ _ hmem)).trans
    (.wr_plain _ _ hmem)

/-- What the portals show is read by no condition of R346. -/
theorem State.lockShow_sameVoteBasis (s : State) : SameVoteBasis voteFollowers s s.lockShow := by
  refine SameVoteBasis.each s _ fun p hp u => ?_
  have hmem : PORT.PORT_STAT p ∈ plainFollowers :=
    List.mem_append_right _ (List.mem_map_of_mem (List.mem_filter.mp hp).1)
  exact ((SameVoteBasis.wr_plain u _ hmem).trans (.wr_plain _ _ hmem)).trans (.wr_plain _ _ hmem)

/-- A core that an event wakes keeps registers, safety channels and image. -/
theorem State.wakeCore_regs (s : State) (e : Nat) : (s.wakeCore e).regs = s.regs := by
  unfold State.wakeCore; split <;> simp

theorem State.wakeCore_safe (s : State) (e : Nat) : (s.wakeCore e).safe = s.safe := by
  unfold State.wakeCore; split <;> simp

theorem State.wakeCore_cfg (s : State) (e : Nat) : (s.wakeCore e).cfg = s.cfg := by
  unfold State.wakeCore; split <;> simp

/-- The event of a changed vote (EVT[176]) is read by no condition of R346. -/
theorem State.raise_sameVoteBasis (s : State) : SameVoteBasis voteFollowers s (s.raise 176) := by
  unfold State.raise
  simp only
  split
  · exact .of_regs_eq _ rfl rfl rfl
  · have hcount : SameVoteBasis voteFollowers s (s.count (evtBlk 176) 5) := .of_regs_eq _ rfl rfl rfl
    have hpend : EVT.EVT_PEND (176 / 32) ∈ plainFollowers := by decide
    exact (hcount.trans (.wr_plain _ _ hpend)).trans
      (.of_regs_eq _ (State.wakeCore_regs _ 176) (congrArg _ (State.wakeCore_safe _ 176)) (State.wakeCore_cfg _ 176))

/-- Since when STO feedback differs is read by no condition of R346. -/
theorem State.stoTrack_sameVoteBasis (s : State) : SameVoteBasis voteFollowers s s.stoTrack := by
  refine SameVoteBasis.each s _ fun n _ u => ?_
  have hport : ∀ v, SameVoteBasis voteFollowers u
      (if v = (u.bport n).stoNs then u else u.setBport n { u.bport n with stoNs := v }) := by
    intro v
    split
    · exact .refl _ u
    · exact .of_regs_eq _ rfl rfl rfl
  exact hport _

/-- Since when an output stands at STO is read by no condition of R346. -/
theorem State.outTrack_sameVoteBasis (s : State) : SameVoteBasis voteFollowers s s.outTrack :=
  SameVoteBasis.each s _ fun _ _ _ => .of_regs_eq _ rfl rfl rfl

/-- What the cross-check keeps is read by no condition of R346. -/
theorem State.xTrack_sameVoteBasis (s : State) (c : Nat) (d : Bool) : SameVoteBasis voteFollowers s (s.xTrack c d) :=
  .of_regs_eq _ rfl rfl rfl

/-- The lock drive switches are read by no condition of R346. -/
theorem State.setLocks_sameVoteBasis (s : State) (d l : Nat) :
    SameVoteBasis voteFollowers s { s with safe := { s.safe with lkdD := d, lkdL := l } } :=
  .of_regs_eq _ rfl rfl rfl

/-- The vote registers are written: the cross-off switches hold a group at STO, else each zone follows the judgement. -/
def State.castVotes (s : State) : State :=
  (s.set SAFE.ZONE_STAT'VOTE_A (if s.safe.xoffA then 0xFF else s.voteMask false)).set SAFE.ZONE_STAT'VOTE_B_L
    (if s.safe.xoffB then 0xFF else s.voteMask true)

/-- The STOP bits of ARM_SAFE stand beside its faults. -/
theorem State.setArmStop_sameVoteBasis (s : State) (a : Nat) (b : Bool) :
    SameVoteBasis voteFollowers s (s.setBitF SAFE.ARM_SAFE'STOP a b) :=
  .set s _ (by decide) (by decide) (by decide)

/-- An evaluation casts its votes in some state, and all that it does afterwards leaves what they rest on. -/
theorem State.safeEval_castVotes {s : State} (hrun : ¬((!s.released pdDEAD) = true ∧ (!s.released pdLIVE) = true)) :
    ∃ u : State, SameVoteBasis voteFollowers u.castVotes s.safeEval := by
  unfold State.safeEval
  rw [if_neg hrun]
  apply Exists.intro
  -- From the last thing an evaluation does back to the cast, which names the state.
  refine SameVoteBasis.trans ?_ (State.stoTrack_sameVoteBasis _)
  refine SameVoteBasis.trans ?_ (State.outTrack_sameVoteBasis _)
  refine SameVoteBasis.trans ?_ (SameVoteBasis.iff _ _ (State.raise_sameVoteBasis _))
  refine SameVoteBasis.trans ?_ (State.xTrack_sameVoteBasis _ 3 _)
  refine SameVoteBasis.trans ?_ (State.xTrack_sameVoteBasis _ 2 _)
  refine SameVoteBasis.trans ?_ (State.xTrack_sameVoteBasis _ 1 _)
  refine SameVoteBasis.trans ?_ (SameVoteBasis.iff _ _ (SameVoteBasis.wr_plain _ (a := PORT.PORT_ZONE) _ (by decide)))
  refine SameVoteBasis.trans ?_ (State.lockShow_sameVoteBasis _)
  refine SameVoteBasis.trans ?_ (SameVoteBasis.wr_plain _ (a := SAFE.SI_FILT_L) _ (by decide))
  refine SameVoteBasis.trans ?_ (SameVoteBasis.wr_plain _ (a := SAFE.SI_FILT) _ (by decide))
  refine SameVoteBasis.trans ?_ (SameVoteBasis.each _ _ fun f hf u => u.fnShow_sameVoteBasis (List.mem_range.mp hf))
  refine SameVoteBasis.trans ?_ (SameVoteBasis.each _ _ fun a _ u => u.setArmStop_sameVoteBasis a _)
  refine SameVoteBasis.trans ?_ (SameVoteBasis.each _ _ fun k _ u => u.cdEval_sameVoteBasis k)
  exact State.setLocks_sameVoteBasis _ _ _

/-- Casting the votes leaves what they rest on. -/
theorem State.castVotes_sameVoteBasis (s : State) : SameVoteBasis votesAndFollowers s s.castVotes :=
  (SameVoteBasis.set s _ (by decide) (by decide) (by decide)).trans (.set _ _ (by decide) (by decide) (by decide))

/-- The field in which a channel's votes stand. -/
def voteField (l : Bool) : Loc := if l then SAFE.ZONE_STAT'VOTE_B_L else SAFE.ZONE_STAT'VOTE_A

/-- A vote that has been cast as released was judged so. -/
theorem State.zoneRel_of_castVotes {s : State} {l : Bool} {z : Nat} (hz : z < 8)
    (h : s.castVotes.fbit (voteField l) z = false) : s.zoneRel l z = true := by
  have hfield : s.castVotes.f (voteField l) =
      (if (if l then s.safe.xoffB else s.safe.xoffA) then 0xFF else s.voteMask l) % 2 ^ 8 := by
    cases l
    · rw [State.castVotes, voteField, if_neg Bool.false_ne_true, State.f_set_other _ _ _ _ (by decide) (by decide),
        State.f_set_self _ _ _ (by decide)]
      rfl
    · rw [State.castVotes, voteField, if_pos rfl, State.f_set_self _ _ _ (by decide)]
      rfl
  rw [State.fbit, hfield, bit_eq_testBit, Nat.testBit_mod_two_pow, decide_eq_true hz, Bool.true_and] at h
  cases hoff : (if l then s.safe.xoffB else s.safe.xoffA)
  · rw [hoff, if_neg Bool.false_ne_true, ← bit_eq_testBit, State.bit_voteMask s l hz] at h
    simpa using h
  · rw [hoff, if_pos rfl] at h
    have hall : ∀ z < 8, (0xFF : Nat).testBit z = true := by decide
    rw [hall z hz] at h
    cases h

/-! ### What R346 asks for, in states with the same basis -/

/-- The votes and what follows them leave the offsets of the safety block between and beyond them, where its configuration
and the states of its inputs stand. -/
theorem not_mem_votesAndFollowers {a : Nat} (h : 0xC00024 < a ∧ a < 0xC00100 ∨ 0xC0015C < a ∧ a < 0xD00000) :
    a ∉ votesAndFollowers := by
  have houtside : ∀ b ∈ votesAndFollowers, b ≤ 0xC00024 ∨ 0xC00100 ≤ b ∧ b ≤ 0xC0015C ∨ 0xD00000 ≤ b := by decide
  intro hm
  have := houtside a hm
  omega

theorem SameVoteBasis.f_eq {l : List Nat} {s t : State} (h : SameVoteBasis l s t) {m : Loc} (hm : m.addr ∉ l) :
    t.f m = s.f m :=
  State.f_congr (h.regs m.addr hm)

/-- What R346 asks for zone `z` of channel `l`. -/
def State.voteAllowed (s : State) (l : Bool) (z : Nat) : Prop :=
  s.mode ∈ [3, 4, 5, 6, 7, 8, 10] ∧
  (∀ f, f < 24 → s.fnEn f = true → s.fbit (SAFE.FN_CFG'ZONE_MASK f) z = true →
    s.fnDem (s.chEff l) f = false ∨ (s.b (SAFE.FN_CFG'STOP_CAT f) = true ∧ bit s.safe.ss1Done z = false)) ∧
  (∀ a, a < 8 → s.fbit (SAFE.ZONE_CFG'ARM_MASK z) a = true →
    s.fbit SAFE.ARM_SAFE'OVERSPEED a = false ∧ s.fbit SAFE.ARM_SAFE'HUB_STALE a = false) ∧
  s.interlock (s.chEff l) z = true ∧
  s.fbit SAFE.ZONE_STAT'OUT_FAULT z = false ∧ s.fbit SAFE.ZONE_FB'STO_FB_FAULT z = false ∧
  (∀ k, k < 4 → s.b (SAFE.CD_CFG'EN k) = true → bit (s.cdMask k) z = true → s.cdBit k 3 = false)

theorem mem_of_voteMode {m : Nat} (h : voteMode m = true) : m ∈ [3, 4, 5, 6, 7, 8, 10] := by
  simp only [voteMode, Bool.or_eq_true, decide_eq_true_eq, beq_iff_eq] at h
  simp only [List.mem_cons, List.not_mem_nil, or_false]
  omega

theorem mem_upto {n i : Nat} : i ∈ upto n ↔ i < n := List.mem_range

/-- A vote that is judged as released is allowed. -/
theorem State.voteAllowed_of_zoneRel {s : State} {l : Bool} {z : Nat} (h : s.zoneRel l z = true) : s.voteAllowed l z := by
  simp only [State.zoneRel, State.zoneFree, State.zoneFns, State.zoneArms, Bool.and_eq_true, List.all_eq_true,
    List.mem_filter, mem_upto, Bool.not_eq_true', Bool.or_eq_true] at h
  obtain ⟨⟨⟨hmode, -⟩, -⟩, ⟨⟨⟨⟨⟨-, hfns⟩, harms⟩, hlock⟩, hout⟩, hsto⟩, hcds⟩ := h
  refine ⟨mem_of_voteMode hmode, fun f hf hen hmask => hfns f ⟨hf, hen, hmask⟩, fun a ha hmask => harms a ⟨ha, hmask⟩,
    hlock, hout, hsto, fun k hk _ hmask => ?_⟩
  have := hcds k hk
  rw [hmask, Bool.true_and] at this
  exact this

theorem any_upto_congr {n : Nat} {p q : Nat → Bool} (h : ∀ i < n, p i = q i) : (upto n).any p = (upto n).any q := by
  rw [Bool.eq_iff_iff]
  simp only [List.any_eq_true, mem_upto]
  exact exists_congr fun i => and_congr_right fun hi => by rw [h i hi]

theorem all_upto_congr {n : Nat} {p q : Nat → Bool} (h : ∀ i < n, p i = q i) : (upto n).all p = (upto n).all q := by
  rw [Bool.eq_iff_iff]
  simp only [List.all_eq_true, mem_upto]
  exact forall_congr' fun i => imp_congr_right fun hi => by rw [h i hi]

section
variable {s t : State} (h : SameVoteBasis votesAndFollowers s t)
include h

theorem SameVoteBasis.mode_eq : t.mode = s.mode := h.f_eq (by decide)

theorem SameVoteBasis.chOk_eq (l : Bool) : t.chOk l = s.chOk l := by
  cases l <;> exact congrArg (· != 0) (h.f_eq (by decide))

theorem SameVoteBasis.chEff_eq (l : Bool) : t.chEff l = s.chEff l := by
  simp only [State.chEff, h.mode_eq, h.chOk_eq]

theorem SameVoteBasis.fnCfg_eq {f : Nat} (hf : f < 24) : t.rd (SAFE.FN_CFG f) = s.rd (SAFE.FN_CFG f) :=
  h.regs _ (not_mem_votesAndFollowers (by unfold SAFE.FN_CFG; omega))

theorem SameVoteBasis.siCfg_eq {i : Nat} (hi : i < 24) : t.rd (SAFE.SI_CFG i) = s.rd (SAFE.SI_CFG i) :=
  h.regs _ (not_mem_votesAndFollowers (by unfold SAFE.SI_CFG; omega))

theorem SameVoteBasis.siStat_eq {i : Nat} (hi : i < 24) : t.rd (SAFE.SI_STAT i) = s.rd (SAFE.SI_STAT i) :=
  h.regs _ (not_mem_votesAndFollowers (by unfold SAFE.SI_STAT; omega))

theorem SameVoteBasis.zoneCfg_eq {z : Nat} (hz : z < 8) : t.rd (SAFE.ZONE_CFG z) = s.rd (SAFE.ZONE_CFG z) :=
  h.regs _ (not_mem_votesAndFollowers (by unfold SAFE.ZONE_CFG; omega))

theorem SameVoteBasis.cdCfg_eq {k : Nat} (hk : k < 4) : t.rd (SAFE.CD_CFG k) = s.rd (SAFE.CD_CFG k) :=
  h.regs _ (not_mem_votesAndFollowers (by unfold SAFE.CD_CFG; omega))

theorem SameVoteBasis.fnc_eq (l : Bool) (f : Nat) : t.fnc l f = s.fnc l f := by
  have hfn : t.safe.fn = s.safe.fn := congrArg Prod.fst h.own
  rw [State.fnc, State.fnc, hfn]

theorem SameVoteBasis.ss1Done_eq : t.safe.ss1Done = s.safe.ss1Done := congrArg (·.2.1) h.own

theorem SameVoteBasis.liveIn_eq : t.safe.liveIn = s.safe.liveIn := congrArg (·.2.2) h.own

theorem SameVoteBasis.fnEn_eq {f : Nat} (hf : f < 24) : t.fnEn f = s.fnEn f :=
  congrArg (· != 0) (State.f_congr (h.fnCfg_eq hf))

theorem SameVoteBasis.fnDem_eq (l : Bool) {f : Nat} (hf : f < 24) : t.fnDem l f = s.fnDem l f := by
  simp only [State.fnDem, h.fnEn_eq hf, h.fnc_eq, h.mode_eq]

theorem SameVoteBasis.siRun_eq (l : Bool) {i : Nat} (hi : i < 24) : t.siRun l i = s.siRun l i := by
  simp only [State.siRun, State.siEn, State.filt, State.b, Bool.false_eq_true, if_false, h.liveIn_eq,
    State.f_congr (m := SAFE.SI_CFG'EN i) (h.siCfg_eq hi), State.f_congr (m := SAFE.SI_STAT'FILT_D i) (h.siStat_eq hi),
    State.f_congr (m := SAFE.SI_STAT'TEST_FAULT i) (h.siStat_eq hi)]

theorem SameVoteBasis.lockFb_eq (l : Bool) (p : Nat) : t.lockFb l p = s.lockFb l p := by
  refine any_upto_congr fun i hi => ?_
  simp only [State.siRole, State.siTarget, h.siRun_eq l hi, State.f_congr (m := SAFE.SI_CFG'ROLE i) (h.siCfg_eq hi),
    State.f_congr (m := SAFE.SI_CFG'TARGET i) (h.siCfg_eq hi)]

theorem SameVoteBasis.closedLocked_eq (l : Bool) {p : Nat} (hp : p < 8) : t.closedLocked l p = s.closedLocked l p := by
  simp only [State.closedLocked, State.guardRun, h.lockFb_eq, h.fnc_eq, h.fnEn_eq (show 4 + p < 24 by omega)]

theorem SameVoteBasis.zoneArms_eq {z : Nat} (hz : z < 8) : t.zoneArms z = s.zoneArms z := by
  simp only [State.zoneArms, State.fbit, State.f_congr (m := SAFE.ZONE_CFG'ARM_MASK z) (h.zoneCfg_eq hz)]

theorem SameVoteBasis.ssmSafe_eq {z : Nat} (hz : z < 8) : t.ssmSafe z = s.ssmSafe z := by
  have hok : t.f SAFE.SSM_STAT'SSM_OK = s.f SAFE.SSM_STAT'SSM_OK := h.f_eq (by decide)
  simp only [State.ssmSafe, State.fbit, hok, h.mode_eq, h.cfg, h.zoneArms_eq hz]

theorem SameVoteBasis.interlock_eq (l : Bool) {z : Nat} (hz : z < 8) : t.interlock l z = s.interlock l z := by
  rw [State.interlock, State.interlock, h.ssmSafe_eq hz]
  refine congrArg _ (all_upto_congr fun p hp => ?_)
  simp only [State.portal, h.cfg, h.closedLocked_eq l hp]

/-- What R346 allows in one state it allows in the other. -/
theorem SameVoteBasis.voteAllowed {l : Bool} {z : Nat} (hz : z < 8) (ha : s.voteAllowed l z) : t.voteAllowed l z := by
  obtain ⟨hmode, hfns, harms, hlock, hout, hsto, hcds⟩ := ha
  have hstofb : t.f SAFE.ZONE_FB'STO_FB_FAULT = s.f SAFE.ZONE_FB'STO_FB_FAULT := h.f_eq (by decide)
  unfold State.voteAllowed
  rw [h.mode_eq, h.chEff_eq, h.interlock_eq _ hz, h.ss1Done_eq]
  refine ⟨hmode, fun f hf => ?_, fun a ha => ?_, hlock, ?_, ?_, fun k hk => ?_⟩
  · rw [h.fnEn_eq hf, h.fnDem_eq _ hf, State.fbit, State.b, State.f_congr (m := SAFE.FN_CFG'ZONE_MASK f) (h.fnCfg_eq hf),
      State.f_congr (m := SAFE.FN_CFG'STOP_CAT f) (h.fnCfg_eq hf)]
    exact hfns f hf
  · rw [State.fbit, State.fbit, State.fbit, State.f_congr (m := SAFE.ZONE_CFG'ARM_MASK z) (h.zoneCfg_eq hz), h.overspeed,
      h.hubStale]
    exact harms a ha
  · rw [State.fbit, h.outFault]; exact hout
  · rw [State.fbit, hstofb]; exact hsto
  · rw [State.cdMask, State.b, State.f_congr (m := SAFE.CD_CFG'EN k) (h.cdCfg_eq hk),
      State.f_congr (m := SAFE.CD_CFG'ZONE_MASK k) (h.cdCfg_eq hk), h.edmFault k hk]
    exact hcds k hk

end

/-! ### The sample -/

/-- A sample whose instant comes ends in an evaluation. -/
theorem State.safetySample_safeEval {s : State} {x : Nat} (hx : x % 100000 = 0) (hsrc : s.safe.srcFrame ≤ x)
    (hrel : s.released pdDEAD = true) (siD siL : BitVec 24) (edm : BitVec 4) (tps : BitVec 8) (rb : BitVec 16)
    (cdRb : BitVec 8) (hb : BitVec 2) : ∃ v : State, s.safetySample x siD siL edm tps rb cdRb hb = v.safeEval := by
  have hdue : ¬(x % 100000 ≠ 0 ∨ x < s.safe.srcFrame ∨ (!s.released pdDEAD) = true ∧ (!s.released pdLIVE) = true) := by
    simp only [hx, hrel, Bool.not_true, Bool.false_eq_true, false_and, ne_eq, not_true_eq_false, or_false, false_or]
    omega
  unfold State.safetySample
  rw [if_neg hdue]
  exact ⟨_, rfl⟩

/-- The frame on the steady link leaves registers, safety channels and image. -/
theorem State.steadyVote_sameVoteBasis (l : List Nat) (s : State) : SameVoteBasis l s s.steadyVote := by
  unfold State.steadyVote State.steadySend
  split
  · exact .of_regs_eq l rfl rfl rfl
  · exact .refl l s

/-- The meaning of a safety sample. -/
theorem exec_safetySample (x : Nat) (siD siL : BitVec 24) (edm : BitVec 4) (rb : ReadBacks) (s : State) :
    exec (.safetySample x siD siL edm rb) s = .next (s.safetySample x siD siL edm rb.tps rb.out rb.cd rb.hb).steadyVote :=
  rfl

/-- Without both centres' domains nothing is evaluated. -/
theorem State.safeEval_of_unreleased {s : State} (h : (!s.released pdDEAD) = true ∧ (!s.released pdLIVE) = true) :
    s.safeEval = s :=
  if_pos h

/-- A vote that stands released after an evaluation is allowed. -/
theorem State.voteAllowed_safeEval {s : State} (hrel : s.safeEval.released pdDEAD = true) {l : Bool} {z : Nat} (hz : z < 8)
    (h : s.safeEval.fbit (voteField l) z = false) : s.safeEval.voteAllowed l z := by
  have hrun : ¬((!s.released pdDEAD) = true ∧ (!s.released pdLIVE) = true) := by
    intro hoff
    rw [State.safeEval_of_unreleased hoff] at hrel
    simp [hrel] at hoff
  obtain ⟨u, hu⟩ := State.safeEval_castVotes hrun
  have hvotes : s.safeEval.f (voteField l) = u.castVotes.f (voteField l) := by
    cases l <;> exact hu.f_eq (by decide)
  rw [State.fbit, hvotes] at h
  have hbasis : SameVoteBasis votesAndFollowers u s.safeEval :=
    u.castVotes_sameVoteBasis.trans (hu.mono fun a ha => List.mem_cons_of_mem _ ha)
  exact hbasis.voteAllowed hz (State.voteAllowed_of_zoneRel (State.zoneRel_of_castVotes hz h))

/-- Settles O43: a sample ends in an evaluation, the votes cast there are judged by R346's conditions, and what the
evaluation does after the cast, and the frame on the steady link, leave all that those conditions read. -/
theorem votesAreReleasedOnlyWhileAllowed : Obligations.VotesAreReleasedOnlyWhileAllowed := by
  intro s x siD siL edm tps rb cdRb hb hx hsrc hrel
  obtain ⟨v, hv⟩ := State.safetySample_safeEval hx hsrc hrel siD siL edm tps rb cdRb hb
  rw [exec_safetySample, hv]
  have hframe : SameVoteBasis [] v.safeEval v.safeEval.steadyVote := State.steadyVote_sameVoteBasis [] v.safeEval
  refine ⟨_, rfl, fun hdead z l hz hvote => ?_⟩
  have hdead' : v.safeEval.released pdDEAD = true := by
    rwa [State.released, State.fbit, hframe.f_eq List.not_mem_nil] at hdead
  have hvote' : v.safeEval.fbit (voteField l) z = false := by
    rwa [State.fbit, hframe.f_eq List.not_mem_nil] at hvote
  exact (hframe.mono fun a ha => absurd ha List.not_mem_nil).voteAllowed hz
    (State.voteAllowed_safeEval hdead' hz hvote')

end Sys2Proof.Machine
